-- ==== Sys2Proof/Word.lean ====
section
/-! DEFINITION. The plain data types the whole model rests on: the byte of the serial line, the pairs and
fours in which the pit comes (two stations, two wheels of an axle, four wheel positions, four context slots,
four profile entries), and the plainest arithmetic of the manual's conventions (00_scope.md, Arithmetic). -/

namespace Sys2Proof

/-- One byte of the serial line (R177). -/
abbrev Byte := BitVec 8

/-- A machining station: A under the leading axle, B under the trailing axle (00_scope.md, Identifiers). -/
inductive Station where
  | a
  | b
  deriving DecidableEq, Repr

/-- The other station of the pit. -/
def Station.other : Station → Station
  | .a => .b
  | .b => .a

/-- The side of an axle: left or right wheel, left or right head (00_scope.md, Identifiers). -/
inductive Side where
  | l
  | r
  deriving DecidableEq, Repr

/-- A wheel position, which is also the lift point under that wheel (00_scope.md, Identifiers). -/
inductive Wheel where
  | al
  | ar
  | bl
  | br
  deriving DecidableEq, Repr

/-- The wheel position of a station's left or right wheel. -/
def Station.wheel : Station → Side → Wheel
  | .a, .l => .al
  | .a, .r => .ar
  | .b, .l => .bl
  | .b, .r => .br

/-- The station a wheel position belongs to. -/
def Wheel.station : Wheel → Station
  | .al => .a
  | .ar => .a
  | .bl => .b
  | .br => .b

/-- One value for each station. -/
structure Two (α : Type) where
  a : α
  b : α
  deriving DecidableEq, Repr

/-- The value held for a station. -/
def Two.get {α : Type} (t : Two α) : Station → α
  | .a => t.a
  | .b => t.b

/-- The pair with the value of one station replaced. -/
def Two.set {α : Type} (t : Two α) : Station → α → Two α
  | .a, v => { t with a := v }
  | .b, v => { t with b := v }

/-- The pair with every value passed through `f`. -/
def Two.map {α β : Type} (f : α → β) (t : Two α) : Two β := ⟨f t.a, f t.b⟩

/-- One value for each wheel of an axle, or for each head of a probe carriage. -/
structure Pair (α : Type) where
  l : α
  r : α
  deriving DecidableEq, Repr

/-- The value held for a side. -/
def Pair.get {α : Type} (p : Pair α) : Side → α
  | .l => p.l
  | .r => p.r

/-- The pair with every value passed through `f`. -/
def Pair.map {α β : Type} (f : α → β) (p : Pair α) : Pair β := ⟨f p.l, f p.r⟩

/-- Four like things: the wheel positions, the context slots, the profile entries. -/
structure Four (α : Type) where
  e0 : α
  e1 : α
  e2 : α
  e3 : α
  deriving DecidableEq, Repr

/-- Which of the four. -/
inductive Ix where
  | i0
  | i1
  | i2
  | i3
  deriving DecidableEq, Repr

/-- The number 0 to 3 of a place among the four. -/
def Ix.num : Ix → Nat
  | .i0 => 0
  | .i1 => 1
  | .i2 => 2
  | .i3 => 3

/-- The place with a given number, if the number is 0 to 3. -/
def Ix.ofNum : Nat → Option Ix
  | 0 => some .i0
  | 1 => some .i1
  | 2 => some .i2
  | 3 => some .i3
  | _ => none

/-- The four places in rising order. -/
def Ix.all : List Ix := [.i0, .i1, .i2, .i3]

/-- The place of a wheel position, in the order A-L, A-R, B-L, B-R. -/
def Wheel.ix : Wheel → Ix
  | .al => .i0
  | .ar => .i1
  | .bl => .i2
  | .br => .i3

/-- The wheel position at a place, in the order A-L, A-R, B-L, B-R. -/
def Ix.wheel : Ix → Wheel
  | .i0 => .al
  | .i1 => .ar
  | .i2 => .bl
  | .i3 => .br

/-- The value at a place. -/
def Four.get {α : Type} (f : Four α) : Ix → α
  | .i0 => f.e0
  | .i1 => f.e1
  | .i2 => f.e2
  | .i3 => f.e3

/-- The four with the value at one place replaced. -/
def Four.set {α : Type} (f : Four α) : Ix → α → Four α
  | .i0, v => { f with e0 := v }
  | .i1, v => { f with e1 := v }
  | .i2, v => { f with e2 := v }
  | .i3, v => { f with e3 := v }

/-- The four with every value passed through `g`. -/
def Four.map {α β : Type} (g : α → β) (f : Four α) : Four β := ⟨g f.e0, g f.e1, g f.e2, g f.e3⟩

/-- Two fours combined place by place. -/
def Four.zipWith {α β γ : Type} (g : α → β → γ) (x : Four α) (y : Four β) : Four γ :=
  ⟨g x.e0 y.e0, g x.e1 y.e1, g x.e2 y.e2, g x.e3 y.e3⟩

/-- The four values in the order of their places. -/
def Four.toList {α : Type} (f : Four α) : List α := [f.e0, f.e1, f.e2, f.e3]

/-- The same value at every place. -/
def Four.const {α : Type} (v : α) : Four α := ⟨v, v, v, v⟩

/-- `x` brought into the range `lo` to `hi` (R12, R46, R111, R190: 'clamped into'). -/
def clampInt (lo hi x : Int) : Int := if x < lo then lo else if hi < x then hi else x

/-- `x` brought into the range `lo` to `hi`. -/
def clampNat (lo hi x : Nat) : Nat := if x < lo then lo else if hi < x then hi else x

/-- 'Rounded down to a multiple of 10': the largest multiple of 10 not greater than the value
(00_scope.md, Arithmetic). -/
def roundDown10 (x : Int) : Int := x / 10 * 10

/-- `ceil (n ÷ d)` for a positive divisor (00_scope.md, Arithmetic). -/
def ceilDiv (n d : Int) : Int := -(-n / d)

/-- The floor mean of a list of integers: floor(sum ÷ count) (00_scope.md, Arithmetic). -/
def floorMean (l : List Int) : Int := l.sum / (l.length : Int)

end Sys2Proof
end

