-- ==== Sys2Proof/Syntax.lean ====
section
/-! DEFINITION. The commands of the block: one constructor of `Instr` for each row of
spec/opcode_table.json. A row is one step of the part, whole and indivisible (95_what_each_step_holds.md):
a frame of the host being taken, a link event, a completion of the store, a report of a pit line, an expiry of
a timer, or a reset. -/

namespace Sys2Proof

/-- The twelve interlock inputs in the order of the table of R78. -/
inductive Input where
  | estopOk
  | pressureOk
  | guardClosed
  | bridgeAOut
  | bridgeBOut
  | holddownA
  | holddownB
  | toolhomeA
  | toolhomeB
  | probeParkedA
  | probeParkedB
  | locksEngaged
  deriving DecidableEq, Repr

/-- The twelve inputs in the order of the table of R78. -/
def Input.all : List Input :=
  [.estopOk, .pressureOk, .guardClosed, .bridgeAOut, .bridgeBOut, .holddownA, .holddownB, .toolhomeA,
    .toolhomeB, .probeParkedA, .probeParkedB, .locksEngaged]

/-- TOOLHOME_x of a station. -/
def Station.toolhome : Station → Input
  | .a => .toolhomeA
  | .b => .toolhomeB

/-- HOLDDOWN_x of a station. -/
def Station.holddown : Station → Input
  | .a => .holddownA
  | .b => .holddownB

/-- One value for each interlock input. -/
structure Twelve (α : Type) where
  estopOk : α
  pressureOk : α
  guardClosed : α
  bridgeAOut : α
  bridgeBOut : α
  holddownA : α
  holddownB : α
  toolhomeA : α
  toolhomeB : α
  probeParkedA : α
  probeParkedB : α
  locksEngaged : α
  deriving DecidableEq, Repr

/-- The value held for an input. -/
def Twelve.get {α : Type} (t : Twelve α) : Input → α
  | .estopOk => t.estopOk
  | .pressureOk => t.pressureOk
  | .guardClosed => t.guardClosed
  | .bridgeAOut => t.bridgeAOut
  | .bridgeBOut => t.bridgeBOut
  | .holddownA => t.holddownA
  | .holddownB => t.holddownB
  | .toolhomeA => t.toolhomeA
  | .toolhomeB => t.toolhomeB
  | .probeParkedA => t.probeParkedA
  | .probeParkedB => t.probeParkedB
  | .locksEngaged => t.locksEngaged

/-- The twelve with the value of one input replaced. -/
def Twelve.set {α : Type} (t : Twelve α) (i : Input) (v : α) : Twelve α :=
  match i with
  | .estopOk => { t with estopOk := v }
  | .pressureOk => { t with pressureOk := v }
  | .guardClosed => { t with guardClosed := v }
  | .bridgeAOut => { t with bridgeAOut := v }
  | .bridgeBOut => { t with bridgeBOut := v }
  | .holddownA => { t with holddownA := v }
  | .holddownB => { t with holddownB := v }
  | .toolhomeA => { t with toolhomeA := v }
  | .toolhomeB => { t with toolhomeB := v }
  | .probeParkedA => { t with probeParkedA := v }
  | .probeParkedB => { t with probeParkedB := v }
  | .locksEngaged => { t with locksEngaged := v }

/-- The twelve with every value passed through `f`. -/
def Twelve.map {α β : Type} (f : α → β) (t : Twelve α) : Twelve β :=
  ⟨f t.estopOk, f t.pressureOk, f t.guardClosed, f t.bridgeAOut, f t.bridgeBOut, f t.holddownA,
    f t.holddownB, f t.toolhomeA, f t.toolhomeB, f t.probeParkedA, f t.probeParkedB, f t.locksEngaged⟩

/-- Two twelves combined input by input. -/
def Twelve.zipWith {α β γ : Type} (g : α → β → γ) (x : Twelve α) (y : Twelve β) : Twelve γ :=
  ⟨g x.estopOk y.estopOk, g x.pressureOk y.pressureOk, g x.guardClosed y.guardClosed,
    g x.bridgeAOut y.bridgeAOut, g x.bridgeBOut y.bridgeBOut, g x.holddownA y.holddownA,
    g x.holddownB y.holddownB, g x.toolhomeA y.toolhomeA, g x.toolhomeB y.toolhomeB,
    g x.probeParkedA y.probeParkedA, g x.probeParkedB y.probeParkedB, g x.locksEngaged y.locksEngaged⟩

/-- The twelve values in the order of the table of R78. -/
def Twelve.toList {α : Type} (t : Twelve α) : List α := Input.all.map t.get

/-- The answer of one probe head to a reading request: a displacement in µm, or none for NO_CONTACT (R94). -/
abbrev Reading := Option Int

/-- What the part reads from its lines as it leaves reset, and how far the store request in service had
come when reset cut it short (DESIGN CHOICE, log entry 16). -/
structure ResetPins where
  /-- The level of each interlock input as sampled at reset (R92). -/
  sampled : Twelve Bool
  /-- The raw level of each input once sampling is done (R92: 'or at once if it differed at the moment of
  sampling'). -/
  raw : Twelve Bool
  /-- The positions read at the four lift axis ports, in µm (R59). -/
  heights : Four Nat
  /-- Strap RATE0 (00_scope.md, External lines). -/
  rate0 : Bool
  /-- Strap RATE1. -/
  rate1 : Bool
  /-- The level of HOST_READY. -/
  hostReady : Bool
  /-- Whether the single or first memory write of the request in service had been made: the body rewrite of a
  WRITE or AMEND begun, the header write of a RETIRE made (R21). -/
  writeMade : Bool
  deriving DecidableEq, Repr

/-- The rows of spec/opcode_table.json. A row that is a command of the host carries the frame's tag and its
payload bytes (R177): the frame with that row's kind code. -/
inductive Instr where
  | status (tag : Byte) (payload : List Byte)
  | setLink (tag : Byte) (payload : List Byte)
  | setPit (tag : Byte) (payload : List Byte)
  | setCut (tag : Byte) (payload : List Byte)
  | profileBegin (tag : Byte) (payload : List Byte)
  | profileData (tag : Byte) (payload : List Byte)
  | profileResume (tag : Byte) (payload : List Byte)
  | enrol (tag : Byte) (payload : List Byte)
  | amend (tag : Byte) (payload : List Byte)
  | retire (tag : Byte) (payload : List Byte)
  | readRecord (tag : Byte) (payload : List Byte)
  | openRecord (tag : Byte) (payload : List Byte)
  | closeRecord (tag : Byte) (payload : List Byte)
  | bind (tag : Byte) (payload : List Byte)
  | unbind (tag : Byte) (payload : List Byte)
  | logMeasurement (tag : Byte) (payload : List Byte)
  | raise (tag : Byte) (payload : List Byte)
  | lower (tag : Byte) (payload : List Byte)
  | liftStop (tag : Byte) (payload : List Byte)
  | liftResume (tag : Byte) (payload : List Byte)
  | faultClear (tag : Byte) (payload : List Byte)
  | park (tag : Byte) (payload : List Byte)
  | unpark (tag : Byte) (payload : List Byte)
  | probeReference (tag : Byte) (payload : List Byte)
  | calibrateOn (tag : Byte) (payload : List Byte)
  | calibrateMeasure (tag : Byte) (payload : List Byte)
  | calibrateOff (tag : Byte) (payload : List Byte)
  | sweep (tag : Byte) (payload : List Byte)
  | sweepContinue (tag : Byte) (payload : List Byte)
  | sweepStop (tag : Byte) (payload : List Byte)
  | readProfile (tag : Byte) (payload : List Byte)
  | measure (tag : Byte) (payload : List Byte)
  | readMeasurement (tag : Byte) (payload : List Byte)
  | planAuto (tag : Byte) (payload : List Byte)
  | planPasses (tag : Byte) (payload : List Byte)
  | cutStart (tag : Byte) (payload : List Byte)
  | feedHold (tag : Byte) (payload : List Byte)
  | resume (tag : Byte) (payload : List Byte)
  | cutAbort (tag : Byte) (payload : List Byte)
  | unknownKind (kind tag : Byte) (payload : List Byte)
  | frameAccepted (received : List Byte)
  | receiveGap
  | breakStart
  | breakEnd
  | silenceExpiry
  | hostReadyChange (level : Bool)
  | replyFrameStart
  | noticeFrameStart
  | frameEnd
  | headerScanComplete
  | loadComplete
  | writeComplete
  | readComplete
  | enrolComplete
  | amendComplete
  | retireComplete
  | searchComplete
  | liftPositionReport (point : Wheel) (height : Nat)
  | liftInPosition (point : Wheel)
  | moveTimeout
  | intervalExpiry
  | dwellExpiry
  | inputChange (input : Input) (level : Bool)
  | debounceExpiry (input : Input)
  | probePadInPosition (station : Station)
  | referenceReading (station : Station) (left right : Reading)
  | settleExpiry (station : Station)
  | ringInPosition (station : Station)
  | calibrationReading (station : Station) (left right : Reading)
  | rollerAngleReport (station : Station) (angle : Fin 36000)
  | rollerInPosition (station : Station) (angle : Fin 36000)
  | sweepCarriageInPosition (station : Station)
  | sampleAnswer (station : Station) (left right : Reading)
  | toolPositionReport (station : Station) (lateral radius : Int)
  | toolApproachArrival (station : Station)
  | toolBackoffArrival (station : Station)
  | revolutionPulse (station : Station)
  | reset (pins : ResetPins)
  deriving DecidableEq, Repr

end Sys2Proof
end

