-- ==== Sys2Proof/Decode.lean ====
section
/-! DEFINITION. The commands that a word spells by the bits of spec/opcode_table.json. The table gives no row
any bits: a command of this part is a frame of bytes on a serial line (R177), read by the receive assembler of
Machine/LinkOps.lean, or an event at a line, a drive, a timer or the store (log entry 20). -/

namespace Sys2Proof

/-- The command a word of `nbits` bits spells: none, since the table gives no row any bits. -/
def decodeTableWord (_nbits _w : Nat) : Option Instr := none

end Sys2Proof
end

