-- ==== Sys2Proof/Config.lean ====
section
/-! DEFINITION. The numbers the manual fixes for the part: capacities, ranges and lengths of time that are not
fields of a table. The manual leaves no value of the machine's running free, so no uninterpreted constant
stands here (see INVENTORY.md, 'What the manual leaves open'). -/

namespace Sys2Proof.Config

/-- Record places of the external memory (R4). -/
def places : Nat := 512

/-- Requests a command of the host may leave in the store FIFO, its own counted (R8). -/
def hostRequestLimit : Nat := 6

/-- Frames the command queue holds beside the holding slot (R179). -/
def queueSlots : Nat := 4

/-- Items of the store result list and of the context result list (R17, R36). -/
def resultSlots : Nat := 8

/-- History entries of a record (R1, R3). -/
def historyEntries : Nat := 16

/-- The last sequence number of a history entry (R1). -/
def lastSequence : Nat := 65535

/-- The largest serial that names a record (R11). -/
def lastSerial : Nat := 999999999

/-- The longest payload of a frame, in bytes (R177). -/
def payloadMax : Nat := 240

/-- The first byte of every frame (R177). -/
def syncByte : Byte := 0x96

/-- The park dwell, in ms (R71). -/
def dwellMs : Nat := 30000

/-- The debounce time while the PIT table has not been written, in ms (R80). -/
def defaultDebounceMs : Nat := 20

/-- The silence timeout after reset, in s (R186). -/
def defaultSilenceSeconds : Nat := 10

/-- The height at or below which a point counts as at rail, in µm (R38). -/
def atRailHeight : Int := 200

/-- The largest position and demand of a lift point, in µm (R38). -/
def liftTop : Int := 60000

/-- The least and greatest height of a RAISE, in µm (R46). -/
def raiseMin : Int := 20000
def raiseMax : Int := 55000

/-- The distance the tools are drawn clear of the wheel in a hold, in µm (R167). -/
def backOff : Int := 2000

/-- Lateral stations of a row and rows of an area (R107). -/
def lateralStations : Nat := 160
def angularStations : Nat := 8

/-- Hundredths of a degree between two angular stations (R112). -/
def angularPitch : Nat := 4500

/-- The least and greatest radius of a sample, of a last radius and of a condemning radius, in µm
(R1, R104). -/
def radiusMin : Int := 300000
def radiusMax : Int := 700000

/-- The range of a reference base of a probe head, in µm (R93). -/
def baseMin : Int := 250000
def baseMax : Int := 750000

/-- The greatest correction of a probe head in either direction, in µm (R102). -/
def correctionMax : Int := 500

/-- Pairs of readings of a calibration measure (R101). -/
def calibrationPairs : Nat := 8

/-- Passes a plan may hold (R147). -/
def planPasses : Nat := 16

/-- The range of a depth given by PLAN PASSES, in µm (R152). -/
def depthMin : Int := 10
def depthMax : Int := 5000

/-- The greatest offset of a reference profile in either direction, in µm (R193). -/
def offsetMax : Int := 50000

end Sys2Proof.Config
end

