-- ==== Sys2Proof/Machine/State.lean ====
section
/-! DEFINITION. The state of the WP-420, block by block in the order of the manual's chapters, as plain data;
the frames, replies and snapshots the link carries; the reasons a step can stop; and the state after reset. -/

namespace Sys2Proof.Machine

/-! ## Data held sparsely by address -/

/-- Addressed cells: a list of address and content in rising order of address, without the cells that hold
what an unlisted address reads as. Used for the record places of the external memory, the place table, the
capture areas and the offsets of a reference profile. -/
abbrev Cells (α : Type) := List (Nat × α)

/-- A timer of the part: stopped, or running with the length it was started with, in ms. The time it has left
is not in the model; its expiry is a row of the table (DESIGN CHOICE, log entry 9). -/
inductive Timer where
  | stopped
  | running (length : Nat)
  deriving DecidableEq, Repr

/-! ## Chapter 1: wheelset records and the history store -/

/-- Axle of the bogie (R1). -/
inductive Axle where
  | leading
  | trailing
  deriving DecidableEq, Repr

/-- State of a record (R1). -/
inductive RecordState where
  | inService
  | condemned
  deriving DecidableEq, Repr

/-- Outcome of measurement (R2, R139). -/
inductive Verdict where
  | withinLimits
  | reprofile
  | condemned
  | bogieLimit
  | incomplete
  | stale
  deriving DecidableEq, Repr

/-- Outcome of a cut (R2). -/
inductive CutOutcome where
  | inProgress
  | complete
  | aborted
  | interrupted
  deriving DecidableEq, Repr

/-- The fields only CUT entries hold (R2). -/
structure CutPart where
  afterRadius : Pair (Option Int)
  planned : Nat
  completed : Nat
  outcome : CutOutcome
  deriving DecidableEq, Repr

/-- MEASURE or CUT, with what each kind carries (R2). -/
inductive EntryKind where
  | measure
  | cut (part : CutPart)
  deriving DecidableEq, Repr

/-- The values of one wheel that a measurement computed and an entry copies, each where present
(R2, R142). -/
structure WheelValues where
  before : Option Int
  flangeHeight : Option Int
  flangeThickness : Option Int
  runout : Option Int
  deriving DecidableEq, Repr

/-- A history entry (R2). -/
structure Entry where
  sequence : Nat
  kind : EntryKind
  workOrder : Nat
  verdict : Verdict
  wheels : Pair WheelValues
  deriving DecidableEq, Repr

/-- A wheelset record without its serial: what the body of a record place encodes (R1, R4). -/
structure Record where
  unit : Nat
  bogie : Nat
  axle : Axle
  profileId : Ix
  condemning : Int
  state : RecordState
  lastRadius : Pair (Option Int)
  /-- The next sequence number; none is EXHAUSTED. -/
  nextSequence : Option Nat
  /-- Oldest first. -/
  entries : List Entry
  deriving DecidableEq, Repr

/-- A record place of the external memory (R4): its header, empty or holding a serial, and its body, the fields
the memory holds followed by the check value stored with them. -/
structure Place where
  header : Option Nat
  content : Record
  check : BitVec 16
  deriving DecidableEq, Repr

/-- An item of the place table (R5). -/
structure TableItem where
  serial : Option Nat
  damaged : Bool
  deriving DecidableEq, Repr

/-- What an unlisted place of the place table reads as: empty header, no damaged mark. -/
def TableItem.blank : TableItem := ⟨none, false⟩

/-- The changes of an AMEND (R13): for each field, none keeps it. -/
structure Changes where
  unit : Option Nat
  bogie : Option Nat
  axle : Option Axle
  profileId : Option Ix
  condemning : Option Int
  state : Option RecordState
  lastL : Option (Option Int)
  lastR : Option (Option Int)
  deriving DecidableEq, Repr

/-- A request of the store FIFO, with what it carries (R7). -/
inductive Request where
  | load (serial : Nat) (slot : Ix)
  | write (serial : Nat) (slot : Ix)
  | search (units : List Nat) (bound : List Nat)
  | read (serial : Nat) (tag : Byte)
  | enrol (serial : Nat) (record : Record) (place : Nat) (tag : Byte)
  | amend (serial : Nat) (changes : Changes) (tag : Byte)
  | retire (serial : Nat) (tag : Byte)
  deriving DecidableEq, Repr

/-- The request in service, with the content a WRITE took from its slot as it went into service (R7, R10). -/
structure Service where
  request : Request
  content : Option Record
  deriving DecidableEq, Repr

/-- Kind of a store result (R17). -/
inductive ResultKind where
  | read
  | enrol
  | amend
  | retire
  deriving DecidableEq, Repr

/-- A store result (R17). `damaged` is the result RECORD_DAMAGED; clear, it is OK. -/
structure StoreResult where
  kind : ResultKind
  serial : Nat
  tag : Byte
  damaged : Bool
  deriving DecidableEq, Repr

/-- The read window (R16): the valid flag, and the serial and the record last read, none after reset until a READ fills
it (log entry 24). -/
structure ReadWindow where
  valid : Bool
  content : Option (Nat × Record)
  deriving DecidableEq, Repr

/-- The History Store controller and the external memory it lays out. -/
structure Store where
  /-- The record places of the external nonvolatile memory (R4). -/
  places : Cells Place
  /-- Whether the header scan after reset is done (R5). -/
  scanned : Bool
  /-- The place table (R5). -/
  table : Cells TableItem
  /-- The request in service: the head of the FIFO (R7). -/
  service : Option Service
  /-- The requests behind it, oldest first (R7). -/
  waiting : List Request
  window : ReadWindow
  /-- The store result list, oldest first, and its results lost indication (R17). -/
  results : List StoreResult
  resultsLost : Bool
  deriving DecidableEq, Repr

/-! ## Chapter 8: measurement records (held in the context slots of chapter 2) -/

/-- The advisory set (R136, R137, R138). -/
structure Advisories where
  unitSpread : Bool
  bogieUnchecked : Bool
  deriving DecidableEq, Repr

/-- The sibling values of a measurement: their count, and the smallest and largest when there is one
(R136, R142). -/
structure Siblings where
  count : Nat
  range : Option (Int × Int)
  deriving DecidableEq, Repr

/-- The measurement record of a bound slot (R142). -/
structure Measurement where
  run : Nat
  epoch : BitVec 32
  material : BitVec 32
  stale : Bool
  verdict : Verdict
  advisories : Advisories
  usableRows : Option (Pair Nat)
  wheels : Pair WheelValues
  fitRadius : Option (Pair Int)
  fitTarget : Option Int
  target : Option Int
  removal : Option Int
  siblings : Option Siblings
  /-- The clean-up allowance and the bogie band used. -/
  cutUsed : Option (Int × Int)
  deriving DecidableEq, Repr

/-! ## Chapter 2: open wheelset contexts -/

/-- State of a context slot (R22). -/
inductive SlotState where
  | free
  | loading
  | openSlot
  | writing
  deriving DecidableEq, Repr

/-- The OPEN that will occupy a WRITING slot once its write-back ends (R22). -/
structure Incoming where
  serial : Nat
  workOrder : Nat
  requested : Option Station
  deriving DecidableEq, Repr

/-- A context slot (R22). -/
structure Slot where
  state : SlotState
  serial : Option Nat
  workOrder : Option Nat
  incoming : Option Incoming
  binding : Option Station
  requested : Option Station
  dirty : Bool
  rank : Nat
  working : Option Record
  measurement : Option Measurement
  deriving DecidableEq, Repr

/-- Outcome of a context result (R36). -/
inductive ContextOutcome where
  | loaded
  | noRecord
  | recordDamaged
  | writtenBack
  deriving DecidableEq, Repr

/-- A context result (R36). -/
structure ContextResult where
  slot : Ix
  serial : Nat
  outcome : ContextOutcome
  deriving DecidableEq, Repr

/-- The Context Table. -/
structure Context where
  slots : Four Slot
  /-- The context result list, oldest first, and its results lost indication (R36). -/
  results : List ContextResult
  resultsLost : Bool
  deriving DecidableEq, Repr

/-! ## Chapters 3 and 4: the lift group, level maintenance and parking -/

/-- A direction of motion (R39, R41). -/
inductive Dir where
  | up
  | down
  deriving DecidableEq, Repr

/-- A lift valve output (R38). -/
inductive Valve where
  | up
  | down
  | closed
  deriving DecidableEq, Repr

/-- A lift point (R38, R39). -/
structure Point where
  position : Int
  demand : Int
  valve : Valve
  paused : Bool
  /-- The direction a paused point keeps from the moment it was paused (R39). -/
  pausedDir : Option Dir
  arrived : Bool
  deriving DecidableEq, Repr

/-- The lift group states (R40). -/
inductive LiftState where
  | down
  | raising
  | bridgeWait (dir : Dir)
  | raised
  | lowering
  | parking
  | parked
  | unparking
  | hold
  | fault
  deriving DecidableEq, Repr

/-- Bridge stage of a move (R41). -/
inductive BridgeStage where
  | pending
  | passed
  deriving DecidableEq, Repr

/-- The move record (R41). -/
structure Move where
  target : Int
  dir : Dir
  stage : BridgeStage
  deriving DecidableEq, Repr

/-- A cause that holds the lift (R40). -/
inductive LiftCause where
  | estop
  | pressure
  | precondition
  | silence
  | host
  deriving DecidableEq, Repr

/-- The hold cause set of the lift (R40). -/
structure LiftCauses where
  estop : Bool
  pressure : Bool
  precondition : Bool
  silence : Bool
  host : Bool
  deriving DecidableEq, Repr

/-- The fault cause of the lift (R40). -/
inductive FaultCause where
  | trip
  | timeout
  | lockLost
  deriving DecidableEq, Repr

/-- The Lift Group (R38 to R41, R50). -/
structure Lift where
  state : LiftState
  points : Four Point
  move : Option Move
  holds : LiftCauses
  fault : Option FaultCause
  interrupted : Option LiftState
  moveTimer : Timer
  deriving DecidableEq, Repr

/-- The step of PARKING or UNPARKING that is waiting (R60). -/
inductive ParkStep where
  | engageWait
  | pressureWait
  | releaseWait
  deriving DecidableEq, Repr

/-- The dwell timer (R60). -/
inductive Dwell where
  | stopped
  | running
  | expired
  deriving DecidableEq, Repr

/-- Level Maintenance (R60). -/
structure Level where
  backlog : Nat
  interval : Timer
  epoch : BitVec 32
  /-- The re-level under way, with its set of moved points. -/
  relevel : Option (Four Bool)
  urgent : Bool
  parkStep : Option ParkStep
  dwell : Dwell
  unparkPending : Bool
  lockRaised : Bool
  relief : Bool
  deriving DecidableEq, Repr

/-! ## Chapter 5: pit interlocks -/

/-- What the Interlock Monitor holds for one input (R78). -/
structure InputState where
  raw : Bool
  accepted : Bool
  timer : Timer
  latch : Bool
  deriving DecidableEq, Repr

/-! ## Chapter 6: probe units -/

/-- State of a probe unit (R93). -/
inductive ProbeState where
  | unreferenced
  | referencing
  | settling
  | ready
  deriving DecidableEq, Repr

/-- The calibration measure (R93): none, on the way to the ring, or reading, with the pairs of raw readings
taken so far, newest first. -/
inductive CalMeasure where
  | none
  | toRing
  | reading (taken : List (Pair Int))
  deriving DecidableEq, Repr

/-- The result of the last referencing to reach the pad (R93). -/
inductive RefOutcome where
  | none
  | ok
  | noContact
  deriving DecidableEq, Repr

/-- Outcome of a calibration measure (R102, R103). -/
inductive CalOutcome where
  | stored
  | outOfRange
  | noContact
  | abandoned
  deriving DecidableEq, Repr

/-- Mean, error and proposed correction of one head (R102). -/
structure HeadResult where
  mean : Int
  error : Int
  proposed : Int
  deriving DecidableEq, Repr

/-- The calibration result (R102, R103). -/
structure CalResult where
  outcome : CalOutcome
  heads : Option (Pair HeadResult)
  deriving DecidableEq, Repr

/-- A probe unit (R93). -/
structure Probe where
  state : ProbeState
  base : Option (Pair Int)
  correction : Pair Int
  calibrated : Bool
  calMode : Bool
  calFault : Bool
  measure : CalMeasure
  settle : Timer
  refOutcome : RefOutcome
  result : Option CalResult
  /-- In REFERENCING: the readings at the pad have been requested and not yet answered (R96). -/
  padRequested : Bool
  /-- Requests of an abandoned calibration measure whose answers are still to come and to be discarded
  (R103). -/
  lateAnswers : Nat
  deriving DecidableEq, Repr

/-! ## Chapter 7: profile capture -/

/-- A sample of a capture area (R107). -/
inductive Sample where
  | unset
  | invalid
  | radius (r : Int)
  deriving DecidableEq, Repr

/-- A capture area: the samples by address, angular station times 160 plus lateral station; what is not
listed is UNSET (R107). -/
abbrev Area := Cells Sample

/-- State of a sweep record (R108). -/
inductive SweepState where
  | idle
  | indexing
  | traversing
  | paused
  | done
  | abandoned
  deriving DecidableEq, Repr

/-- Mode of a sweep (R108). -/
inductive SweepMode where
  | fresh
  | merge
  deriving DecidableEq, Repr

/-- The cause of the latest pause (R108). -/
inductive PauseCause where
  | guard
  | level
  | silence
  | lift
  | host
  deriving DecidableEq, Repr

/-- What a TRAVERSING sweep is waiting for (R108). -/
inductive SweepStep where
  | none
  | awaitPosition
  | awaitSample
  deriving DecidableEq, Repr

/-- The fields of a sweep record that are absent in IDLE (R108). -/
structure SweepRun where
  first : Nat
  last : Nat
  mode : SweepMode
  entry : Nat
  angular : Nat
  lateral : Nat
  epoch : BitVec 32
  material : BitVec 32
  deriving DecidableEq, Repr

/-- A sweep record (R108). -/
structure Sweep where
  state : SweepState
  run : Option SweepRun
  rowsDone : Nat
  cause : Option PauseCause
  step : SweepStep
  deriving DecidableEq, Repr

/-- The sample request made and not yet answered (R108, R115): none, the one the sweep is waiting for, or one
given up, whose answer is discarded when it comes. -/
inductive SampleRequest where
  | none
  | live
  | givenUp
  deriving DecidableEq, Repr

/-- Capture Memory. -/
structure Capture where
  areas : Four Area
  sweep : Two Sweep
  /-- The latest angle reported by each roller drive, in hundredths of a degree (R112). -/
  angle : Two Nat
  request : Two SampleRequest
  deriving DecidableEq, Repr

/-! ## Chapter 8: the measurement engine -/

/-- A run entry, with its rebound mark (R125). -/
structure RunEntry where
  station : Station
  slot : Ix
  serial : Nat
  unit : Nat
  rebound : Bool
  deriving DecidableEq, Repr

/-- The MEASURE in progress (R125). -/
structure Run where
  number : Nat
  entries : List RunEntry
  departed : Bool
  deriving DecidableEq, Repr

/-- The last search summary (R125). -/
structure SearchSummary where
  run : Nat
  siblings : Nat
  damaged : Nat
  firstDamaged : List Nat
  deriving DecidableEq, Repr

/-- The Measurement Engine. Its measuring state is MEASURING exactly while `run` is present (R125). -/
structure Engine where
  runNumber : Nat
  run : Option Run
  lastSearch : Option SearchSummary
  /-- For each station, whether it was in the latest run and its result was delivered (R145). -/
  delivered : Two Bool
  deriving DecidableEq, Repr

/-- An item of the sibling list of a SEARCH (R19). -/
structure SiblingItem where
  serial : Nat
  unit : Nat
  lastL : Int
  lastR : Int
  deriving DecidableEq, Repr

/-! ## Chapter 9: cut plans -/

/-- Source of a plan (R147). -/
inductive PlanSource where
  | auto
  | host
  deriving DecidableEq, Repr

/-- A pass of a plan (R147). -/
structure Pass where
  depth : Int
  radius : Int
  deriving DecidableEq, Repr

/-- A plan (R147). Its pass count is the length of `passes`. -/
structure Plan where
  source : PlanSource
  serial : Nat
  run : Nat
  target : Int
  removal : Int
  advisories : Advisories
  passes : List Pass
  zoneFirst : Nat
  zoneLast : Nat
  revolutions : Nat
  feed : Int
  inExecution : Bool
  passIndex : Nat
  deriving DecidableEq, Repr

/-! ## Chapter 10: cutting stations -/

/-- State of a cutting station (R160). -/
inductive CutState where
  | idle
  | approach
  | cutting
  | holding
  | held
  | retract
  | aborting
  | stopped
  deriving DecidableEq, Repr

/-- A cause that holds a station (R160). -/
inductive CutCause where
  | level
  | guard
  | silence
  | lift
  | host
  deriving DecidableEq, Repr

/-- The hold cause set of a station (R160). -/
structure CutCauses where
  level : Bool
  guard : Bool
  silence : Bool
  lift : Bool
  host : Bool
  deriving DecidableEq, Repr

/-- The abort kind of a station (R160). -/
inductive AbortKind where
  | none
  | cut
  | recovery
  deriving DecidableEq, Repr

/-- The pre-cut copy: last radii and entry list of the bound record (R160). -/
structure PreCut where
  lastRadius : Pair (Option Int)
  entries : List Entry
  deriving DecidableEq, Repr

/-- A Cutting Station (R160). -/
structure CutStation where
  state : CutState
  holds : CutCauses
  counter : Nat
  loaded : Nat
  begun : Bool
  entered : Bool
  completed : Nat
  /-- The held position: a lateral position of the tool carriage in µm from the wheel's back face. -/
  heldAt : Option Int
  abortKind : AbortKind
  preCut : Option PreCut
  material : BitVec 32
  /-- The tool carriage's last reported position: lateral and radius, in µm (R167, R173). -/
  toolLateral : Int
  toolRadius : Int
  deriving DecidableEq, Repr

/-! ## Demands given to the axis ports (00_scope.md, External lines) -/

/-- The demand last given to a roller drive. -/
inductive RollerDemand where
  | none
  | angle (hundredths : Nat)
  | turning
  | stop
  deriving DecidableEq, Repr

/-- The demand last given to a probe carriage. -/
inductive ProbeDemand where
  | none
  | park
  | pad
  | ring
  | lateral (station : Nat)
  deriving DecidableEq, Repr

/-- The demand last given to a tool carriage: a position, a feed toward a lateral position at a rate in µm per
revolution and a radius, or home. Lateral positions are in µm from the wheel's back face. -/
inductive ToolDemand where
  | none
  | position (lateral radius : Int)
  | feed (toward rate radius : Int)
  | home
  deriving DecidableEq, Repr

/-- The demands at the roller, probe carriage and tool carriage ports of both stations. The demands of the
lift rams are in the lift points. -/
structure Axes where
  roller : Two RollerDemand
  probe : Two ProbeDemand
  tool : Two ToolDemand
  deriving DecidableEq, Repr

/-! ## Chapter 12: setup tables and reference profiles -/

/-- The PIT table (R189). -/
structure Pit where
  clearance : Int
  syncBand : Int
  tripBand : Int
  /-- s -/
  moveTimeout : Nat
  relevelBand : Int
  /-- s -/
  relevelInterval : Nat
  /-- ms -/
  debounce : Nat
  /-- s -/
  probeSettle : Nat
  datum : Two Int
  ring : Two Int
  deriving DecidableEq, Repr

/-- The CUT table (R189). -/
structure CutTable where
  cleanUp : Int
  flangeLevel : Int
  bogieBand : Int
  unitBand : Int
  flangeHeightLimit : Int
  flangeThicknessMin : Int
  runoutLimit : Int
  qRough : Int
  qFinish : Int
  feed : Int
  deriving DecidableEq, Repr

/-- State of a reference profile entry (R192). -/
inductive ProfileState where
  | empty
  | loading
  | broken
  | complete
  deriving DecidableEq, Repr

/-- A reference profile entry (R192). An offset that is not listed is 0. -/
structure Profile where
  state : ProfileState
  measuring : Nat
  zoneFirst : Nat
  zoneLast : Nat
  fill : Nat
  offsets : Cells Int
  deriving DecidableEq, Repr

/-- The Setup Tables: each table unwritten (none) or written (R189), and the four profile entries (R192). -/
structure Setup where
  pit : Option Pit
  cut : Option CutTable
  profiles : Four Profile
  deriving DecidableEq, Repr

/-! ## Chapter 11: the host link -/

/-- A notice source (R184). -/
inductive Source where
  | lift
  | interlock
  | stationA
  | stationB
  | captureA
  | captureB
  | probeA
  | probeB
  | measure
  | context
  | link
  deriving DecidableEq, Repr

/-- What the notice table holds for a source: pending, its missed indication, and its bit of the notice mask
(R185, R186). -/
structure SourceState where
  pending : Bool
  missed : Bool
  masked : Bool
  deriving DecidableEq, Repr

/-- The notice table of the eleven sources, in the order in which they are served (R184). -/
structure Notices where
  lift : SourceState
  interlock : SourceState
  stationA : SourceState
  stationB : SourceState
  captureA : SourceState
  captureB : SourceState
  probeA : SourceState
  probeB : SourceState
  measure : SourceState
  context : SourceState
  link : SourceState
  deriving DecidableEq, Repr

/-- The link flags (R182). -/
structure LinkFlags where
  damaged : Bool
  overrun : Bool
  brk : Bool
  silence : Bool
  deriving DecidableEq, Repr

/-- The silence supervisor (R183). -/
inductive Supervisor where
  | stopped
  | running (length : Nat)
  | expired
  deriving DecidableEq, Repr

/-- The strapped line rate, by its place among the three rates of 00_scope.md. -/
inductive LineRate where
  | r115200
  | r460800
  | r921600
  deriving DecidableEq, Repr

/-- The receive assembler (R178): hunting, or assembling with the bytes taken since the sync byte. -/
inductive Assembler where
  | hunting
  | assembling (taken : List Byte)
  deriving DecidableEq, Repr

/-- An accepted frame of the host (R177, R179). -/
structure Frame where
  kind : Byte
  tag : Byte
  payload : List Byte
  deriving DecidableEq, Repr

/-- The result codes (section 11.9). -/
inductive Code where
  | ok
  | adjusted
  | deferred
  | restarted
  | badLength
  | unknownKind
  | notConfigured
  | wrongState
  | busy
  | interlock
  | causePresent
  | noMove
  | levelPending
  | noSlot
  | notOpen
  | alreadyOpen
  | bound
  | stationBound
  | contextBusy
  | noRecord
  | recordDamaged
  | recordOpen
  | recordExhausted
  | storeFull
  | duplicate
  | probeNotReady
  | noCapture
  | staleCapture
  | profileIncomplete
  | noMeasurement
  | verdictForbids
  | advisoryNotAccepted
  | noPlan
  | planMismatch
  | removalTooDeep
  | disregarded
  | probeUncalibrated
  | calibrationMode
  deriving DecidableEq, Repr

/-- OK, ADJUSTED, DEFERRED and RESTARTED are acceptances; every other code is a refusal (section 11.9). -/
def Code.accepts : Code → Bool
  | .ok => true
  | .adjusted => true
  | .deferred => true
  | .restarted => true
  | _ => false

/-! ### Snapshots and replies -/

/-- A lift point as a snapshot shows it (R58). -/
structure PointSnap where
  position : Int
  demand : Int
  valve : Valve
  paused : Bool
  arrived : Bool
  deriving DecidableEq, Repr

/-- The LIFT snapshot (R58, R76). -/
structure LiftSnap where
  state : LiftState
  holds : LiftCauses
  fault : Option FaultCause
  interrupted : Option LiftState
  move : Option Move
  points : Four PointSnap
  backlog : Nat
  epoch : BitVec 32
  relevel : Option (Four Bool)
  urgent : Bool
  parkStep : Option ParkStep
  dwell : Dwell
  unparkPending : Bool
  lockRaised : Bool
  relief : Bool
  intervalRunning : Bool
  deriving DecidableEq, Repr

/-- The accepted level and change latch of an input, as the INTERLOCK snapshot shows them (R82). -/
structure InputSnap where
  accepted : Bool
  latch : Bool
  deriving DecidableEq, Repr

/-- The STATION snapshot (R175, R157). `plan` is the plan in execution or in force, if there is one. -/
structure StationSnap where
  state : CutState
  holds : CutCauses
  counter : Nat
  loaded : Nat
  begun : Bool
  entered : Bool
  completed : Nat
  abortKind : AbortKind
  material : BitVec 32
  plan : Option Plan
  deriving DecidableEq, Repr

/-- How many samples of an area's window are UNSET, INVALID and radii (R122). -/
structure SampleCounts where
  unset : Nat
  invalid : Nat
  radii : Nat
  deriving DecidableEq, Repr

/-- The CAPTURE snapshot (R122). -/
structure CaptureSnap where
  sweep : Sweep
  current : Bool
  counts : Pair SampleCounts
  deriving DecidableEq, Repr

/-- The PROBE snapshot (R105). -/
structure ProbeSnap where
  state : ProbeState
  base : Option (Pair Int)
  correction : Pair Int
  calibrated : Bool
  calMode : Bool
  calFault : Bool
  /-- None, TO_RING without a count, or READING with its count. -/
  measure : Option (Option Nat)
  refOutcome : RefOutcome
  result : Option CalResult
  deriving DecidableEq, Repr

/-- The measurement record's part of the MEASURE snapshot (R145). -/
structure MeasureItem where
  verdict : Verdict
  advisories : Advisories
  fitTarget : Option Int
  target : Option Int
  removal : Option Int
  current : Bool
  deriving DecidableEq, Repr

/-- One station of the MEASURE snapshot (R145). -/
structure MeasureStation where
  delivered : Bool
  serial : Option Nat
  item : Option MeasureItem
  deriving DecidableEq, Repr

/-- The MEASURE snapshot (R145). -/
structure MeasureSnap where
  measuring : Bool
  runNumber : Nat
  lastSearch : Option SearchSummary
  stations : Two MeasureStation
  deriving DecidableEq, Repr

/-- A slot of the CONTEXT snapshot (R36). -/
structure SlotSnap where
  state : SlotState
  serial : Option Nat
  incoming : Option Nat
  binding : Option Station
  requested : Option Station
  workOrder : Option Nat
  dirty : Bool
  rank : Nat
  deriving DecidableEq, Repr

/-- The CONTEXT snapshot (R36, R18). -/
structure ContextSnap where
  slots : Four SlotSnap
  results : List ContextResult
  resultsLost : Bool
  storeResults : List StoreResult
  storeResultsLost : Bool
  deriving DecidableEq, Repr

/-- The LINK snapshot (R188). -/
structure LinkSnap where
  flags : LinkFlags
  restarted : Bool
  breakOn : Bool
  supervisor : Supervisor
  timeout : Nat
  /-- The notice mask, one member for each source in the order of R184. -/
  mask : List Bool
  rate : LineRate
  queued : Nat
  holding : Bool
  deriving DecidableEq, Repr

/-- The content of a notice, or of the STATUS reply for a source (R185, R187). -/
inductive Content where
  | lift (c : LiftSnap)
  | interlock (c : Twelve InputSnap)
  | station (c : StationSnap)
  | capture (c : CaptureSnap)
  | probe (c : ProbeSnap)
  | measure (c : MeasureSnap)
  | context (c : ContextSnap)
  | link (c : LinkSnap)
  deriving DecidableEq, Repr

/-- The fields a reply gives after its result code and link flags. -/
inductive Answer where
  | none
  /-- STATUS (R187). -/
  | content (c : Content)
  /-- SET PIT (R190). -/
  | pit (t : Pit)
  /-- SET CUT (R190). -/
  | cut (t : CutTable)
  /-- PROFILE BEGIN (R192). -/
  | profileBegin (id : Ix) (p : Profile)
  /-- PROFILE DATA and PROFILE RESUME (R192, R193): id, state and fill. -/
  | profileFill (id : Ix) (p : Profile)
  /-- READ RECORD, part HEADER (R15). -/
  | header (serial : Nat) (r : Record)
  /-- READ RECORD, part ENTRIES (R15). -/
  | entries (l : List Entry)
  /-- OPEN (R25): the chosen slot, and the victim's serial. -/
  | opened (slot : Ix) (victim : Option Nat)
  /-- SWEEP (R111). -/
  | sweep (first last : Nat) (mode : SweepMode) (entry : Nat)
  /-- SWEEP CONTINUE answered RESTARTED (R118). -/
  | restarted (entry : Nat)
  /-- READ PROFILE (R121). -/
  | profile (wheel : Wheel) (angular first : Nat) (samples : List Sample) (state : SweepState) (current : Bool)
  /-- MEASURE (R127): the run number and the stations included. -/
  | measure (run : Nat) (stations : Two Bool)
  /-- READ MEASUREMENT (R144). -/
  | measurement (record : Measurement) (serial : Option Nat) (current : Bool) (inProgress : Option Nat)
  /-- PLAN AUTO and PLAN PASSES (R153). -/
  | plan (p : Plan)
  deriving DecidableEq, Repr

/-- A reply: the kind it is sent under, the tag of the command answered, its result code and its fields. -/
structure Reply where
  kind : Byte
  tag : Byte
  code : Code
  answer : Answer
  deriving DecidableEq, Repr

/-- The frame being sent on TXD, with the bytes of the whole frame (R177, R184). -/
inductive Sending where
  | reply (bytes : List Byte)
  | notice (source : Source) (content : Content) (bytes : List Byte)
  deriving DecidableEq, Repr

/-- The Link Interface, but for the notice table. -/
structure Link where
  assembler : Assembler
  breakOn : Bool
  /-- The command queue, oldest first, and the holding slot (R179). -/
  queue : List Frame
  holding : Option Frame
  /-- The reply slot (R181). -/
  reply : Option Reply
  sending : Option Sending
  hostReady : Bool
  flags : LinkFlags
  restarted : Bool
  supervisor : Supervisor
  /-- The silence timeout of the LINK table, in s (R186). -/
  timeout : Nat
  rate : LineRate
  deriving DecidableEq, Repr

/-! ## The whole machine -/

/-- The state of the block, and the commands from outside that wait to be taken, first in, first out. -/
structure State where
  pending : List Instr
  store : Store
  context : Context
  lift : Lift
  level : Level
  inputs : Twelve InputState
  probes : Two Probe
  capture : Capture
  engine : Engine
  plans : Two (Option Plan)
  stations : Two CutStation
  axes : Axes
  setup : Setup
  link : Link
  notices : Notices
  deriving DecidableEq, Repr

/-- What stops the machine with a fault. The manual gives every command an effect or an answer in every state,
so no meaning answers with a fault. -/
inductive Fault where
  /-- Raised by no meaning of this model. Safe: a run never ends by it. -/
  | none
  deriving DecidableEq, Repr

/-- Why a step has no outcome. -/
inductive Refusal where
  /-- Raised by an arm of `exec` whose command has no meaning yet; no arm is left so. Safe: the run stops. -/
  | notModelled (mnemonic : String)
  deriving DecidableEq, Repr

/-! ## The state after reset -/

/-- The empty hold cause set of the lift. -/
def LiftCauses.empty : LiftCauses := ⟨false, false, false, false, false⟩

/-- The empty hold cause set of a station. -/
def CutCauses.empty : CutCauses := ⟨false, false, false, false, false⟩

/-- An empty advisory set. -/
def Advisories.empty : Advisories := ⟨false, false⟩

/-- A FREE slot of the given recency rank (R37). -/
def Slot.free (rank : Nat) : Slot :=
  { state := .free, serial := none, workOrder := none, incoming := none, binding := none, requested := none,
    dirty := false, rank := rank, working := none, measurement := none }

/-- The Context Table after reset (R37). -/
def Context.reset : Context :=
  { slots := ⟨Slot.free 0, Slot.free 1, Slot.free 2, Slot.free 3⟩, results := [], resultsLost := false }

/-- The History Store controller after reset, over a memory with the given places (R5, R16, R21). R16 and R21 make the
read window invalid and do not say what it holds: it holds no record and no serial (DESIGN CHOICE, log entry 24). -/
def Store.reset (places : Cells Place) : Store :=
  { places := places, scanned := false, table := [], service := none, waiting := [],
    window := ⟨false, none⟩, results := [], resultsLost := false }

/-- A lift point after reset, at the given height with the given demand (R59). -/
def Point.reset (position demand : Int) : Point :=
  { position := position, demand := demand, valve := .closed, paused := false, pausedDir := none,
    arrived := false }

/-- The reset values of Level Maintenance (R77); `parked` says that the group enters PARKED. -/
def Level.reset (parked : Bool) : Level :=
  { backlog := 0, interval := .stopped, epoch := 0, relevel := none, urgent := false, parkStep := none,
    dwell := if parked then .expired else .stopped, unparkPending := false, lockRaised := parked,
    relief := parked }

/-- An input after reset, from its sampled and raw level: a raw level that differs starts the filter
(R79, R92). -/
def InputState.reset (sampled raw : Bool) : InputState :=
  { raw := raw, accepted := sampled,
    timer := if raw = sampled then .stopped else .running Config.defaultDebounceMs, latch := false }

/-- A probe unit after reset (R106). Answers still to come to requests made before the reset are not counted: R106
says nothing of them (DESIGN CHOICE, log entry 13). -/
def Probe.reset : Probe :=
  { state := .unreferenced, base := none, correction := ⟨0, 0⟩, calibrated := false, calMode := false,
    calFault := false, measure := .none, settle := .stopped, refOutcome := .none, result := none,
    padRequested := false, lateAnswers := 0 }

/-- A sweep record in IDLE (R124). -/
def Sweep.idle : Sweep := { state := .idle, run := none, rowsDone := 0, cause := none, step := .none }

/-- Capture Memory after reset (R124). -/
def Capture.reset : Capture :=
  { areas := Four.const [], sweep := ⟨Sweep.idle, Sweep.idle⟩, angle := ⟨0, 0⟩, request := ⟨.none, .none⟩ }

/-- The Measurement Engine after reset (R146). -/
def Engine.reset : Engine :=
  { runNumber := 0, run := none, lastSearch := none, delivered := ⟨false, false⟩ }

/-- A Cutting Station after reset, from the sampled level of its TOOLHOME_x (R176). The last reported position of the
tool carriage is 0 (DESIGN CHOICE, log entry 7). -/
def CutStation.reset (toolhome : Bool) : CutStation :=
  { state := if toolhome then .idle else .stopped, holds := CutCauses.empty, counter := 0, loaded := 0,
    begun := false, entered := false, completed := 0, heldAt := none, abortKind := .none, preCut := none,
    material := 0, toolLateral := 0, toolRadius := 0 }

/-- The axis ports after reset: no demand is given (R106, R124, R176; DEDUCED, log entry 7). -/
def Axes.reset : Axes := { roller := ⟨.none, .none⟩, probe := ⟨.none, .none⟩, tool := ⟨.none, .none⟩ }

/-- A reference profile entry after reset (R192). Its measuring station and zone are 0 (DESIGN CHOICE, log
entry 11). -/
def Profile.reset : Profile :=
  { state := .empty, measuring := 0, zoneFirst := 0, zoneLast := 0, fill := 0, offsets := [] }

/-- The Setup Tables after reset (R189, R192). -/
def Setup.reset : Setup := { pit := none, cut := none, profiles := Four.const Profile.reset }

/-- No link flag set. -/
def LinkFlags.clear : LinkFlags := ⟨false, false, false, false⟩

/-- The Link Interface after reset, at the strapped rate and with the level of HOST_READY (R188). -/
def Link.reset (rate : LineRate) (hostReady : Bool) : Link :=
  { assembler := .hunting, breakOn := false, queue := [], holding := none, reply := none, sending := none,
    hostReady := hostReady, flags := LinkFlags.clear, restarted := true, supervisor := .stopped,
    timeout := Config.defaultSilenceSeconds, rate := rate }

/-- A source that is not pending, not missed and not masked. -/
def SourceState.quiet : SourceState := ⟨false, false, false⟩

/-- The notice table after reset: LINK alone is pending (R186, R188). -/
def Notices.reset : Notices :=
  { lift := .quiet, interlock := .quiet, stationA := .quiet, stationB := .quiet, captureA := .quiet,
    captureB := .quiet, probeA := .quiet, probeB := .quiet, measure := .quiet, context := .quiet,
    link := { SourceState.quiet with pending := true } }

/-- The interlock levels of the pit that `State.reset` stands in: stop circuit, pressure and guard good, the
bridges in, the clamps open, the tools home, the probes parked, the locks released (DESIGN CHOICE, log entry 1). -/
def restLevels : Twelve Bool :=
  { estopOk := true, pressureOk := true, guardClosed := true, bridgeAOut := false, bridgeBOut := false,
    holddownA := false, holddownB := false, toolhomeA := true, toolhomeB := true, probeParkedA := true,
    probeParkedB := true, locksEngaged := false }

/-- The machine right after reset, in a pit at rest with the four points at height 0 and an empty store
(DESIGN CHOICE, log entries 1 and 2): every field at the value the rules on reset give (R21, R37, R59, R77, R92,
R106, R124, R146, R159, R176, R188, R189, R192). -/
def State.reset : State :=
  { pending := [], store := Store.reset [], context := Context.reset,
    lift :=
      { state := .down, points := Four.const (Point.reset 0 0), move := none, holds := LiftCauses.empty,
        fault := none, interrupted := none, moveTimer := .stopped },
    level := Level.reset false, inputs := restLevels.map fun b => InputState.reset b b,
    probes := ⟨Probe.reset, Probe.reset⟩, capture := Capture.reset, engine := Engine.reset,
    plans := ⟨none, none⟩, stations := ⟨CutStation.reset true, CutStation.reset true⟩, axes := Axes.reset,
    setup := Setup.reset, link := Link.reset .r115200 false, notices := Notices.reset }

end Sys2Proof.Machine
end

