-- ==== Sys2Proof/Machine/Flags.lean ====
section
/-! DEFINITION. The flags of the part that events set and frames clear: the pending, missed and mask bits of
the notice sources (R184 to R186), the link flags (R182), the change latches (R81, R82), and the sets of hold
causes (R40, R160). -/

namespace Sys2Proof.Machine

/-- What the notice table holds for a source. -/
def Notices.get (n : Notices) : Source → SourceState
  | .lift => n.lift
  | .interlock => n.interlock
  | .stationA => n.stationA
  | .stationB => n.stationB
  | .captureA => n.captureA
  | .captureB => n.captureB
  | .probeA => n.probeA
  | .probeB => n.probeB
  | .measure => n.measure
  | .context => n.context
  | .link => n.link

/-- The notice table with the item of one source replaced. -/
def Notices.set (n : Notices) (src : Source) (v : SourceState) : Notices :=
  match src with
  | .lift => { n with lift := v }
  | .interlock => { n with interlock := v }
  | .stationA => { n with stationA := v }
  | .stationB => { n with stationB := v }
  | .captureA => { n with captureA := v }
  | .captureB => { n with captureB := v }
  | .probeA => { n with probeA := v }
  | .probeB => { n with probeB := v }
  | .measure => { n with measure := v }
  | .context => { n with context := v }
  | .link => { n with link := v }

/-- The sources in the order in which they are served (R184). -/
def Source.all : List Source :=
  [.lift, .interlock, .stationA, .stationB, .captureA, .captureB, .probeA, .probeB, .measure, .context, .link]

/-- The STATION source of a station (R175). -/
def Source.station : Station → Source
  | .a => .stationA
  | .b => .stationB

/-- The CAPTURE source of a station (R122). -/
def Source.capture : Station → Source
  | .a => .captureA
  | .b => .captureB

/-- The PROBE source of a station (R105). -/
def Source.probe : Station → Source
  | .a => .probeA
  | .b => .probeB

/-- A source an event makes pending: pending, or missed while it is masked (R185, R186). -/
def SourceState.event (x : SourceState) : SourceState :=
  if x.masked then { x with missed := true } else { x with pending := true }

/-- An event of a notice source (R185, R186). -/
def State.notify (src : Source) (s : State) : State :=
  { s with notices := s.notices.set src (s.notices.get src).event }

/-- The first pending source in the order of R184. -/
def Notices.first (n : Notices) : Option Source := Source.all.find? fun src => (n.get src).pending

/-- The source whose snapshot has been taken stops being pending (R184). -/
def Notices.taken (n : Notices) (src : Source) : Notices :=
  n.set src { n.get src with pending := false }

/-- What SET LINK does to one source (R186). `mask` is its bit of the new mask; `waiting` says that an
INTERLOCK latch is set, or that a CONTEXT result list holds an item. -/
def SourceState.remask (x : SourceState) (mask waiting : Bool) : SourceState :=
  if mask then { pending := false, missed := x.missed || x.pending, masked := true }
  else { pending := x.pending || x.missed || waiting, missed := false, masked := false }

/-- One link flag set (R182). -/
def LinkFlags.setDamaged (f : LinkFlags) : LinkFlags := { f with damaged := true }
def LinkFlags.setOverrun (f : LinkFlags) : LinkFlags := { f with overrun := true }
def LinkFlags.setBreak (f : LinkFlags) : LinkFlags := { f with brk := true }
def LinkFlags.setSilence (f : LinkFlags) : LinkFlags := { f with silence := true }

/-- The accepted level of an input: the level meant whenever a chapter says that an input is true or false
(R78). -/
def State.level? (s : State) (i : Input) : Bool := (s.inputs.get i).accepted

/-- Whether any change latch is set (R83). -/
def State.anyLatch (s : State) : Bool := s.inputs.toList.any fun x => x.latch

/-- The inputs with every change latch clear (R82). -/
def State.clearLatches (s : State) : State :=
  { s with inputs := s.inputs.map fun x => { x with latch := false } }

/-- A cause added to the lift's hold cause set (R53). -/
def LiftCauses.add (h : LiftCauses) : LiftCause → LiftCauses
  | .estop => { h with estop := true }
  | .pressure => { h with pressure := true }
  | .precondition => { h with precondition := true }
  | .silence => { h with silence := true }
  | .host => { h with host := true }

/-- A cause added to a station's hold cause set; one already there is not added twice (R167). -/
def CutCauses.add (h : CutCauses) : CutCause → CutCauses
  | .level => { h with level := true }
  | .guard => { h with guard := true }
  | .silence => { h with silence := true }
  | .lift => { h with lift := true }
  | .host => { h with host := true }

end Sys2Proof.Machine
end

