-- ==== Sys2Proof/Machine/Operands.lean ====
section
/-! DEFINITION. The operand forms of the host's commands and the number forms of every frame (R177): numbers
of one, two and four bytes, least significant byte first; signed lengths; named values by their position in
their list; the parameters of each command kind with the checks of R181 on length and on listed values; the
CRC-16 of a frame. -/

namespace Sys2Proof.Machine

/-! ## Numbers as bytes (R177) -/

/-- The number a list of bytes spells, least significant byte first. -/
def leNat : List Byte → Nat
  | [] => 0
  | b :: rest => b.toNat + 256 * leNat rest

/-- The unsigned field of `width` bytes that starts at byte `start` of a payload. -/
def fieldNat (p : List Byte) (start width : Nat) : Nat := leNat ((p.drop start).take width)

/-- A one-byte field. -/
def u8At (p : List Byte) (start : Nat) : Nat := fieldNat p start 1

/-- A two-byte field. -/
def u16At (p : List Byte) (start : Nat) : Nat := fieldNat p start 2

/-- A four-byte unsigned field: a serial or a work order. -/
def u32At (p : List Byte) (start : Nat) : Nat := fieldNat p start 4

/-- A four-byte signed field: a length, radius, position, offset, correction or depth in µm. -/
def i32At (p : List Byte) (start : Nat) : Int := (BitVec.ofNat 32 (u32At p start)).toInt

/-- The value that stands for an absent length (R177). -/
def absentLength : Int := -2147483648

/-- The bytes of an unsigned field of `width` bytes. -/
def natBytes : Nat → Nat → List Byte
  | 0, _ => []
  | width + 1, n => BitVec.ofNat 8 n :: natBytes width (n / 256)

/-- The byte of a one-byte field. -/
def u8Bytes (n : Nat) : List Byte := natBytes 1 n

/-- The bytes of a four-byte signed field. -/
def i32Bytes (x : Int) : List Byte := natBytes 4 (BitVec.ofInt 32 x).toNat

/-- The bytes of a length that may be absent (R177). -/
def lengthBytes (x : Option Int) : List Byte := i32Bytes (x.getD absentLength)

/-- The byte of a flag: 1 set, 0 clear (R177). -/
def flagByte (b : Bool) : List Byte := u8Bytes (if b then 1 else 0)

/-- The number of a set sent as one bit per member, the first member in bit 0 (R177). -/
def setNat : List Bool → Nat
  | [] => 0
  | b :: rest => (if b then 1 else 0) + 2 * setNat rest

/-- The members of a set of `n` members, the first member in bit 0 (R177). -/
def setBits (n v : Nat) : List Bool := (List.range n).map fun k => v.testBit k

/-! ## The check of a frame (R177) -/

/-- One byte taken into the CRC-16 with polynomial x^16 + x^12 + x^5 + 1, most significant bit first. -/
def crcByte (crc : BitVec 16) (b : Byte) : BitVec 16 :=
  (List.range 8).foldl (fun c _ => if c.msb then (c <<< 1) ^^^ 0x1021#16 else c <<< 1)
    (crc ^^^ (b.setWidth 16 <<< 8))

/-- The CRC-16 of a list of bytes, from 0xFFFF, with no final XOR. -/
def crc16 (l : List Byte) : BitVec 16 := l.foldl crcByte 0xFFFF#16

/-- The whole frame on the line: sync, length, kind, tag, payload, check (R177). -/
def frameBytes (kind tag : Byte) (payload : List Byte) : List Byte :=
  let body := BitVec.ofNat 8 payload.length :: kind :: tag :: payload
  Config.syncByte :: body ++ natBytes 2 (crc16 body).toNat

/-! ## Named values by position (R177) -/

/-- A station: A 0, B 1. -/
def stationOf : Nat → Option Station
  | 0 => some .a
  | 1 => some .b
  | _ => none

/-- A requested binding: none 0, A 1, B 2 (R22). -/
def bindingOf : Nat → Option (Option Station)
  | 0 => some none
  | 1 => some (some .a)
  | 2 => some (some .b)
  | _ => none

/-- A wheel position: A-L 0, A-R 1, B-L 2, B-R 3. -/
def wheelOf (n : Nat) : Option Wheel := (Ix.ofNum n).map Ix.wheel

/-- A sweep mode: FRESH 0, MERGE 1 (R108). -/
def modeOf : Nat → Option SweepMode
  | 0 => some .fresh
  | 1 => some .merge
  | _ => none

/-- A record state: IN_SERVICE 0, CONDEMNED 1 (R1). -/
def recordStateOf : Nat → Option RecordState
  | 0 => some .inService
  | 1 => some .condemned
  | _ => none

/-- A flag: clear 0, set 1. -/
def flagOf : Nat → Option Bool
  | 0 => some false
  | 1 => some true
  | _ => none

/-- An axle: LEADING 0; any value but TRAILING 1 is taken as LEADING (R12). -/
def axleOf (n : Nat) : Axle := if n = 1 then .trailing else .leading

/-- A notice source by its place in the order of R184, from 0. -/
def sourceOf (n : Nat) : Option Source :=
  [Source.lift, .interlock, .stationA, .stationB, .captureA, .captureB, .probeA, .probeB, .measure, .context,
    .link][n]?

/-! ## The parameters of each command kind (R177, R181) -/

/-- A payload whose length the kind fixes: BAD_LENGTH when it differs (R181, check 2). -/
def fixedLength {α : Type} (p : List Byte) (n : Nat) (params : Except Code α) : Except Code α :=
  if p.length = n then params else .error .badLength

/-- A parameter that names a member of a list: WRONG_STATE when it names none (R181, check 3). -/
def named {α : Type} : Option α → Except Code α
  | some x => .ok x
  | none => .error .wrongState

/-- A command without parameters. -/
def noParams (p : List Byte) : Except Code Unit := fixedLength p 0 (.ok ())

/-- A command whose one parameter is a station. -/
def stationParam (p : List Byte) : Except Code Station := fixedLength p 1 (named (stationOf (u8At p 0)))

/-- A command whose one parameter is a serial. -/
def serialParam (p : List Byte) : Except Code Nat := fixedLength p 4 (.ok (u32At p 0))

/-- STATUS source. A value that names no source is answered by the owner (R187). -/
def statusParams (p : List Byte) : Except Code Nat := fixedLength p 1 (.ok (u8At p 0))

/-- SET LINK timeout, mask (R186). -/
def setLinkParams (p : List Byte) : Except Code (Nat × List Bool) :=
  fixedLength p 4 (.ok (u16At p 0, setBits 11 (u16At p 2)))

/-- SET PIT: every field of the table in the order of R189. -/
def setPitParams (p : List Byte) : Except Code Pit :=
  fixedLength p 40 (.ok
    { clearance := i32At p 0, syncBand := i32At p 4, tripBand := i32At p 8, moveTimeout := u16At p 12,
      relevelBand := i32At p 14, relevelInterval := u16At p 18, debounce := u16At p 20,
      probeSettle := u16At p 22, datum := ⟨i32At p 24, i32At p 28⟩, ring := ⟨i32At p 32, i32At p 36⟩ })

/-- SET CUT: every field of the table in the order of R189. -/
def setCutParams (p : List Byte) : Except Code CutTable :=
  fixedLength p 40 (.ok
    { cleanUp := i32At p 0, flangeLevel := i32At p 4, bogieBand := i32At p 8, unitBand := i32At p 12,
      flangeHeightLimit := i32At p 16, flangeThicknessMin := i32At p 20, runoutLimit := i32At p 24,
      qRough := i32At p 28, qFinish := i32At p 32, feed := i32At p 36 })

/-- PROFILE BEGIN id, m, first, last as sent (R192). -/
structure ProfileParams where
  id : Nat
  measuring : Nat
  first : Nat
  last : Nat
  deriving DecidableEq, Repr

/-- PROFILE BEGIN id, m, first, last. An id above 3 is answered by the owner (R192). -/
def profileBeginParams (p : List Byte) : Except Code ProfileParams :=
  fixedLength p 4 (.ok ⟨u8At p 0, u8At p 1, u8At p 2, u8At p 3⟩)

/-- PROFILE RESUME id. An id above 3 is answered by the owner (R192). -/
def profileResumeParams (p : List Byte) : Except Code Nat := fixedLength p 1 (.ok (u8At p 0))

/-- `n` signed values of four bytes each, from byte `start` of a payload. -/
def i32List (p : List Byte) (start n : Nat) : List Int := (List.range n).map fun k => i32At p (start + 4 * k)

/-- A payload of one byte, a count byte, and that many values of four bytes, the count 1 to `most`: the form
of PROFILE DATA and PLAN PASSES (R177, R181 check 2). -/
def countedParams {α : Type} (p : List Byte) (most : Nat) (params : List Int → Except Code α) : Except Code α :=
  if 1 ≤ u8At p 1 ∧ u8At p 1 ≤ most ∧ p.length = 2 + 4 * u8At p 1 then params (i32List p 2 (u8At p 1))
  else .error .badLength

/-- PROFILE DATA id, count, offsets. An id above 3 is answered by the owner (R193). -/
def profileDataParams (p : List Byte) : Except Code (Nat × List Int) :=
  countedParams p 40 fun l => .ok (u8At p 0, l)

/-- ENROL as sent (R12). -/
structure EnrolParams where
  serial : Nat
  unit : Nat
  bogie : Nat
  axle : Nat
  profileId : Nat
  condemning : Int
  deriving DecidableEq, Repr

/-- ENROL serial, unit, bogie, axle, profile id, condemning radius (R12). -/
def enrolParams (p : List Byte) : Except Code EnrolParams :=
  fixedLength p 13 (.ok ⟨u32At p 0, u16At p 4, u8At p 6, u8At p 7, u8At p 8, i32At p 9⟩)

/-- AMEND as sent (R13): for each field of the change mask that is set, the value sent. -/
structure AmendParams where
  serial : Nat
  unit : Option Nat
  bogie : Option Nat
  axle : Option Nat
  profileId : Option Nat
  condemning : Option Int
  state : Option RecordState
  lastL : Option Int
  lastR : Option Int
  deriving DecidableEq, Repr

/-- The value of a field whose member of the change mask is set; a clear member's value is not read (R13). -/
def masked {α : Type} (mask member : Nat) (v : α) : Option α := if mask.testBit member then some v else none

/-- AMEND serial, change mask, values of the eight fields (R13). -/
def amendParams (p : List Byte) : Except Code AmendParams :=
  let mask := u8At p 4
  let sent (state : Option RecordState) : AmendParams :=
    { serial := u32At p 0, unit := masked mask 0 (u16At p 5), bogie := masked mask 1 (u8At p 7),
      axle := masked mask 2 (u8At p 8), profileId := masked mask 3 (u8At p 9),
      condemning := masked mask 4 (i32At p 10), state := state, lastL := masked mask 6 (i32At p 15),
      lastR := masked mask 7 (i32At p 19) }
  fixedLength p 23
    (if mask.testBit 5 then (named (recordStateOf (u8At p 14))).map fun x => sent (some x)
     else .ok (sent none))

/-- The part a READ RECORD asks for (R15). -/
inductive RecordPart where
  | header
  | entries (first count : Nat)
  deriving DecidableEq, Repr

/-- READ RECORD serial, part, first position, count (R15). The first position in the list of at most 16 entries is one
byte, like a count (DESIGN CHOICE, log entry 8). -/
def readRecordParams (p : List Byte) : Except Code (Nat × RecordPart) :=
  fixedLength p 7
    (match u8At p 4 with
     | 0 => .ok (u32At p 0, .header)
     | 1 => .ok (u32At p 0, .entries (u8At p 5) (u8At p 6))
     | _ => .error .wrongState)

/-- OPEN as sent (R25). -/
structure OpenParams where
  serial : Nat
  workOrder : Nat
  requested : Option Station
  deriving DecidableEq, Repr

/-- OPEN serial, work order, requested binding (R25). -/
def openParams (p : List Byte) : Except Code OpenParams :=
  fixedLength p 9 ((named (bindingOf (u8At p 8))).map fun b => ⟨u32At p 0, u32At p 4, b⟩)

/-- BIND serial, station (R31). -/
def bindParams (p : List Byte) : Except Code (Nat × Station) :=
  fixedLength p 5 ((named (stationOf (u8At p 4))).map fun st => (u32At p 0, st))

/-- RAISE height (R46). -/
def raiseParams (p : List Byte) : Except Code Int := fixedLength p 4 (.ok (i32At p 0))

/-- SWEEP as sent (R110). -/
structure SweepParams where
  station : Station
  first : Nat
  last : Nat
  mode : SweepMode
  deriving DecidableEq, Repr

/-- SWEEP station, first, last, mode (R110). -/
def sweepParams (p : List Byte) : Except Code SweepParams :=
  fixedLength p 4
    (match stationOf (u8At p 0), modeOf (u8At p 3) with
     | some st, some m => .ok ⟨st, u8At p 1, u8At p 2, m⟩
     | _, _ => .error .wrongState)

/-- READ PROFILE as sent (R121). -/
structure ReadProfileParams where
  wheel : Wheel
  angular : Nat
  first : Nat
  count : Nat
  deriving DecidableEq, Repr

/-- READ PROFILE wheel, angular station, first lateral, count (R121). -/
def readProfileParams (p : List Byte) : Except Code ReadProfileParams :=
  fixedLength p 4 ((named (wheelOf (u8At p 0))).map fun w => ⟨w, u8At p 1, u8At p 2, u8At p 3⟩)

/-- PLAN PASSES station, count, depths (R152). -/
def planPassesParams (p : List Byte) : Except Code (Station × List Int) :=
  countedParams p Config.planPasses fun l => (named (stationOf (u8At p 0))).map fun st => (st, l)

/-- CUT START station, accept-advisories (R161). -/
def cutStartParams (p : List Byte) : Except Code (Station × Bool) :=
  fixedLength p 2
    (match stationOf (u8At p 0), flagOf (u8At p 1) with
     | some st, some f => .ok (st, f)
     | _, _ => .error .wrongState)

/-! ## Kind codes (section 11.2) -/

/-- The kind codes of the host's commands (section 11.2). -/
def commandKinds : List Byte :=
  [0x01, 0x02, 0x10, 0x11, 0x12, 0x13, 0x14, 0x20, 0x21, 0x22, 0x23, 0x28, 0x29, 0x2A, 0x2B, 0x2C, 0x30, 0x31,
    0x32, 0x33, 0x34, 0x38, 0x39, 0x40, 0x41, 0x42, 0x43, 0x48, 0x49, 0x4A, 0x4B, 0x50, 0x51, 0x58, 0x59, 0x60,
    0x61, 0x62, 0x63]

end Sys2Proof.Machine
end

