-- ==== Sys2Proof/Machine/Encode.lean ====
section
/-! DEFINITION. The payload bytes of replies and notices (R177): every named value by its position in the list
its owner's rule gives, absent named values as 255, sets one bit per member, numbers least significant byte
first. Where R177 gives no form for a field (a list of varying length, an absent epoch), log entry 8 says what
is sent. -/

namespace Sys2Proof.Machine

/-! ## Positions of named values -/

def Axle.num : Axle → Nat
  | .leading => 0
  | .trailing => 1

def RecordState.num : RecordState → Nat
  | .inService => 0
  | .condemned => 1

def Verdict.num : Verdict → Nat
  | .withinLimits => 0
  | .reprofile => 1
  | .condemned => 2
  | .bogieLimit => 3
  | .incomplete => 4
  | .stale => 5

def CutOutcome.num : CutOutcome → Nat
  | .inProgress => 0
  | .complete => 1
  | .aborted => 2
  | .interrupted => 3

/-- Position among the seven request kinds of R7: the rule of the field, R17, names four of them and numbers none
(DESIGN CHOICE, log entry 8). -/
def ResultKind.num : ResultKind → Nat
  | .read => 3
  | .enrol => 4
  | .amend => 5
  | .retire => 6

def SlotState.num : SlotState → Nat
  | .free => 0
  | .loading => 1
  | .openSlot => 2
  | .writing => 3

def ContextOutcome.num : ContextOutcome → Nat
  | .loaded => 0
  | .noRecord => 1
  | .recordDamaged => 2
  | .writtenBack => 3

/-- A station: A 0, B 1. -/
def stationNum : Station → Nat
  | .a => 0
  | .b => 1

/-- A binding: none 0, A 1, B 2 (R22). -/
def bindingNum : Option Station → Nat
  | none => 0
  | some .a => 1
  | some .b => 2

def Dir.num : Dir → Nat
  | .up => 0
  | .down => 1

def Valve.num : Valve → Nat
  | .up => 0
  | .down => 1
  | .closed => 2

/-- Position in the table of R40. -/
def LiftState.num : LiftState → Nat
  | .down => 0
  | .raising => 1
  | .bridgeWait _ => 2
  | .raised => 3
  | .lowering => 4
  | .parking => 5
  | .parked => 6
  | .unparking => 7
  | .hold => 8
  | .fault => 9

/-- The direction of BRIDGE_WAIT, absent in every other state. -/
def LiftState.waitDir : LiftState → Option Dir
  | .bridgeWait d => some d
  | _ => none

def BridgeStage.num : BridgeStage → Nat
  | .pending => 0
  | .passed => 1

/-- TRIP, TIMEOUT, LOCK_LOST or none, in the order of R40. -/
def faultNum : Option FaultCause → Nat
  | some .trip => 0
  | some .timeout => 1
  | some .lockLost => 2
  | none => 3

/-- None, ENGAGE_WAIT, PRESSURE_WAIT or RELEASE_WAIT (R60). -/
def parkStepNum : Option ParkStep → Nat
  | none => 0
  | some .engageWait => 1
  | some .pressureWait => 2
  | some .releaseWait => 3

def Dwell.num : Dwell → Nat
  | .stopped => 0
  | .running => 1
  | .expired => 2

def ProbeState.num : ProbeState → Nat
  | .unreferenced => 0
  | .referencing => 1
  | .settling => 2
  | .ready => 3

def RefOutcome.num : RefOutcome → Nat
  | .none => 0
  | .ok => 1
  | .noContact => 2

/-- STORED, OUT_OF_RANGE and NO_CONTACT by their places in the table of R102; R103 adds ABANDONED outside that table,
numbered 3 after them (DESIGN CHOICE, log entry 8). -/
def CalOutcome.num : CalOutcome → Nat
  | .stored => 0
  | .outOfRange => 1
  | .noContact => 2
  | .abandoned => 3

def SweepState.num : SweepState → Nat
  | .idle => 0
  | .indexing => 1
  | .traversing => 2
  | .paused => 3
  | .done => 4
  | .abandoned => 5

def SweepMode.num : SweepMode → Nat
  | .fresh => 0
  | .merge => 1

/-- None, GUARD, LEVEL, SILENCE, LIFT or HOST (R108). -/
def pauseNum : Option PauseCause → Nat
  | none => 0
  | some .guard => 1
  | some .level => 2
  | some .silence => 3
  | some .lift => 4
  | some .host => 5

def SweepStep.num : SweepStep → Nat
  | .none => 0
  | .awaitPosition => 1
  | .awaitSample => 2

def PlanSource.num : PlanSource → Nat
  | .auto => 0
  | .host => 1

def CutState.num : CutState → Nat
  | .idle => 0
  | .approach => 1
  | .cutting => 2
  | .holding => 3
  | .held => 4
  | .retract => 5
  | .aborting => 6
  | .stopped => 7

def AbortKind.num : AbortKind → Nat
  | .none => 0
  | .cut => 1
  | .recovery => 2

def ProfileState.num : ProfileState → Nat
  | .empty => 0
  | .loading => 1
  | .broken => 2
  | .complete => 3

def Supervisor.num : Supervisor → Nat
  | .stopped => 0
  | .running _ => 1
  | .expired => 2

def LineRate.num : LineRate → Nat
  | .r115200 => 0
  | .r460800 => 1
  | .r921600 => 2

/-- The one-byte value of a result code (section 11.9). -/
def Code.value : Code → Nat
  | .ok => 0x00
  | .adjusted => 0x01
  | .deferred => 0x02
  | .restarted => 0x03
  | .badLength => 0x04
  | .unknownKind => 0x05
  | .notConfigured => 0x06
  | .wrongState => 0x07
  | .busy => 0x08
  | .interlock => 0x09
  | .causePresent => 0x0A
  | .noMove => 0x0B
  | .levelPending => 0x0C
  | .noSlot => 0x0D
  | .notOpen => 0x0E
  | .alreadyOpen => 0x0F
  | .bound => 0x10
  | .stationBound => 0x11
  | .contextBusy => 0x12
  | .noRecord => 0x13
  | .recordDamaged => 0x14
  | .recordOpen => 0x15
  | .recordExhausted => 0x16
  | .storeFull => 0x17
  | .duplicate => 0x18
  | .probeNotReady => 0x19
  | .noCapture => 0x1A
  | .staleCapture => 0x1B
  | .profileIncomplete => 0x1C
  | .noMeasurement => 0x1D
  | .verdictForbids => 0x1E
  | .advisoryNotAccepted => 0x1F
  | .noPlan => 0x20
  | .planMismatch => 0x21
  | .removalTooDeep => 0x22
  | .disregarded => 0x23
  | .probeUncalibrated => 0x24
  | .calibrationMode => 0x25

/-- The kind code of a notice: 0xF0 to 0xFA in the order of R184 (section 11.2). -/
def Source.kind : Source → Byte
  | .lift => 0xF0
  | .interlock => 0xF1
  | .stationA => 0xF2
  | .stationB => 0xF3
  | .captureA => 0xF4
  | .captureB => 0xF5
  | .probeA => 0xF6
  | .probeB => 0xF7
  | .measure => 0xF8
  | .context => 0xF9
  | .link => 0xFA

/-! ## Fields -/

/-- A named value that may be absent: 255 when it is (R177). -/
def optNum {α : Type} (f : α → Nat) : Option α → List Byte
  | some x => u8Bytes (f x)
  | none => u8Bytes 255

/-- A serial or work order: 0 stands for absent. -/
def serialBytes (n : Option Nat) : List Byte := natBytes 4 (n.getD 0)

/-- A sequence number: 0 stands for EXHAUSTED. -/
def sequenceBytes (n : Option Nat) : List Byte := natBytes 2 (n.getD 0)

/-- The two wheels' or heads' values of a length, left then right. -/
def pairBytes (p : Pair (Option Int)) : List Byte := lengthBytes p.l ++ lengthBytes p.r

/-- A sample: 0 stands for UNSET and -1 for INVALID. -/
def Sample.bytes : Sample → List Byte
  | .unset => i32Bytes 0
  | .invalid => i32Bytes (-1)
  | .radius r => i32Bytes r

/-- A set of up to eight members in one byte, or of up to sixteen in two. -/
def setByte (l : List Bool) : List Byte := u8Bytes (setNat l)
def setBytes2 (l : List Bool) : List Byte := natBytes 2 (setNat l)

/-- A list of varying length: its count, then its items (DESIGN CHOICE, log entry 8). -/
def listBytes {α : Type} (f : α → List Byte) (l : List α) : List Byte := u8Bytes l.length ++ l.flatMap f

/-- The link flags (R177). -/
def LinkFlags.byte (f : LinkFlags) : List Byte := setByte [f.damaged, f.overrun, f.brk, f.silence]

/-- The hold cause set of the lift (R40). -/
def LiftCauses.byte (h : LiftCauses) : List Byte :=
  setByte [h.estop, h.pressure, h.precondition, h.silence, h.host]

/-- The hold cause set of a station (R160). -/
def CutCauses.byte (h : CutCauses) : List Byte := setByte [h.level, h.guard, h.silence, h.lift, h.host]

/-- The advisory set (R142). -/
def Advisories.byte (a : Advisories) : List Byte := setByte [a.unitSpread, a.bogieUnchecked]

/-- The planned and completed passes, after radii and outcome of an entry, in the order of R2: after radius,
passes planned, passes completed, outcome. A MEASURE entry holds none of them (R2). R177 gives an absent count no
value: its passes planned and passes completed are sent as 0 each, in READ RECORD and in the body alike (DESIGN
CHOICE, log entry 8). -/
def EntryKind.tail : EntryKind → List Byte
  | .measure => pairBytes ⟨none, none⟩ ++ u8Bytes 0 ++ u8Bytes 0 ++ u8Bytes 255
  | .cut c => pairBytes c.afterRadius ++ u8Bytes c.planned ++ u8Bytes c.completed ++ u8Bytes c.outcome.num

/-- MEASURE 0, CUT 1 (R2). -/
def EntryKind.num : EntryKind → Nat
  | .measure => 0
  | .cut _ => 1

/-- A history entry, in the order of R2. -/
def Entry.bytes (e : Entry) : List Byte :=
  natBytes 2 e.sequence ++ u8Bytes e.kind.num ++ natBytes 4 e.workOrder ++ u8Bytes e.verdict.num ++
    pairBytes (e.wheels.map fun w => w.before) ++ pairBytes (e.wheels.map fun w => w.flangeHeight) ++
    pairBytes (e.wheels.map fun w => w.flangeThickness) ++ pairBytes (e.wheels.map fun w => w.runout) ++
    e.kind.tail

/-- The fields of a record but its serial and its entry list, in the order of R1, with the number of entries. -/
def Record.fieldBytes (r : Record) : List Byte :=
  natBytes 2 r.unit ++ u8Bytes r.bogie ++ u8Bytes r.axle.num ++ u8Bytes r.profileId.num ++
    i32Bytes r.condemning ++ u8Bytes r.state.num ++ pairBytes r.lastRadius ++ sequenceBytes r.nextSequence ++
    u8Bytes r.entries.length

/-- The HEADER part of a record: its serial and its fields (R15). -/
def headerBytes (serial : Nat) (r : Record) : List Byte := natBytes 4 serial ++ r.fieldBytes

/-- The body of a record place without its check value: every field of the record but its serial, then its entries,
oldest first (R4). The widths and the order in the memory are those of the frames (DESIGN CHOICE, log entry 12). -/
def Record.bodyBytes (r : Record) : List Byte := r.fieldBytes ++ r.entries.flatMap Entry.bytes

/-- A pass: its depth and its pass radius. -/
def Pass.bytes (p : Pass) : List Byte := i32Bytes p.depth ++ i32Bytes p.radius

/-- The PIT table in the order of R189. -/
def Pit.bytes (t : Pit) : List Byte :=
  i32Bytes t.clearance ++ i32Bytes t.syncBand ++ i32Bytes t.tripBand ++ natBytes 2 t.moveTimeout ++
    i32Bytes t.relevelBand ++ natBytes 2 t.relevelInterval ++ natBytes 2 t.debounce ++
    natBytes 2 t.probeSettle ++ i32Bytes t.datum.a ++ i32Bytes t.datum.b ++ i32Bytes t.ring.a ++ i32Bytes t.ring.b

/-- The CUT table in the order of R189. -/
def CutTable.bytes (t : CutTable) : List Byte :=
  i32Bytes t.cleanUp ++ i32Bytes t.flangeLevel ++ i32Bytes t.bogieBand ++ i32Bytes t.unitBand ++
    i32Bytes t.flangeHeightLimit ++ i32Bytes t.flangeThicknessMin ++ i32Bytes t.runoutLimit ++
    i32Bytes t.qRough ++ i32Bytes t.qFinish ++ i32Bytes t.feed

/-! ## Snapshots -/

def PointSnap.bytes (p : PointSnap) : List Byte :=
  i32Bytes p.position ++ i32Bytes p.demand ++ u8Bytes p.valve.num ++ flagByte p.paused ++ flagByte p.arrived

/-- The LIFT snapshot in the order of R58 and R76. R177 gives a set no absent form: with no re-level under way the set
of moved points is sent as the empty set, 0 (DESIGN CHOICE, log entry 8). -/
def LiftSnap.bytes (c : LiftSnap) : List Byte :=
  u8Bytes c.state.num ++ optNum Dir.num c.state.waitDir ++ c.holds.byte ++ u8Bytes (faultNum c.fault) ++
    optNum LiftState.num c.interrupted ++ lengthBytes (c.move.map fun m => m.target) ++
    optNum Dir.num (c.move.map fun m => m.dir) ++ optNum BridgeStage.num (c.move.map fun m => m.stage) ++
    c.points.toList.flatMap PointSnap.bytes ++ u8Bytes c.backlog ++ natBytes 4 c.epoch.toNat ++
    flagByte c.relevel.isSome ++ setByte ((c.relevel.getD (Four.const false)).toList) ++ flagByte c.urgent ++
    u8Bytes (parkStepNum c.parkStep) ++ u8Bytes c.dwell.num ++ flagByte c.unparkPending ++
    u8Bytes (if c.lockRaised then 0 else 1) ++ u8Bytes (if c.relief then 0 else 1) ++ flagByte c.intervalRunning

/-- Every field of a plan in the order of R147. -/
def Plan.bytes (p : Plan) : List Byte :=
  u8Bytes p.source.num ++ natBytes 4 p.serial ++ natBytes 2 p.run ++ i32Bytes p.target ++ i32Bytes p.removal ++
    p.advisories.byte ++ u8Bytes p.passes.length ++ p.passes.flatMap Pass.bytes ++ u8Bytes p.zoneFirst ++
    u8Bytes p.zoneLast ++ natBytes 2 p.revolutions ++ i32Bytes p.feed ++ flagByte p.inExecution ++
    u8Bytes p.passIndex

/-- A plan in execution 0, a plan in force 1, neither 2, and the plan's fields (R157). With no plan the content ends
with the byte 2: no plan fields are sent at absent values (DESIGN CHOICE, log entry 8). -/
def planBytes : Option Plan → List Byte
  | some p => u8Bytes (if p.inExecution then 0 else 1) ++ p.bytes
  | none => u8Bytes 2

def StationSnap.bytes (c : StationSnap) : List Byte :=
  u8Bytes c.state.num ++ c.holds.byte ++ natBytes 2 c.counter ++ natBytes 2 c.loaded ++ flagByte c.begun ++
    flagByte c.entered ++ u8Bytes c.completed ++ u8Bytes c.abortKind.num ++ natBytes 4 c.material.toNat ++
    planBytes c.plan

def SampleCounts.bytes (c : SampleCounts) : List Byte :=
  natBytes 2 c.unset ++ natBytes 2 c.invalid ++ natBytes 2 c.radii

/-- Every field of a sweep record in the order of R108. In IDLE an absent mode is sent as 255, as
R177 has it; R177 gives no absent form to the numbers: the window, the entry station and the address are sent as 255
each, the level epoch and the material count as 0 (DESIGN CHOICE, log entry 8). -/
def Sweep.bytes (w : Sweep) : List Byte :=
  u8Bytes w.state.num ++ optNum SweepRun.first w.run ++ optNum SweepRun.last w.run ++
    optNum SweepMode.num (w.run.map fun r => r.mode) ++ optNum SweepRun.entry w.run ++
    optNum SweepRun.angular w.run ++ optNum SweepRun.lateral w.run ++ u8Bytes w.rowsDone ++
    natBytes 4 ((w.run.map fun r => r.epoch.toNat).getD 0) ++
    natBytes 4 ((w.run.map fun r => r.material.toNat).getD 0) ++ u8Bytes (pauseNum w.cause) ++
    u8Bytes w.step.num

def CaptureSnap.bytes (c : CaptureSnap) : List Byte :=
  c.sweep.bytes ++ flagByte c.current ++ c.counts.l.bytes ++ c.counts.r.bytes

/-- None 0, TO_RING 1, READING 2, with the count (R93). Only READING has a count, and R177 gives an absent count no
value: with none and with TO_RING the count byte is sent as 0 (DESIGN CHOICE, log entry 8). -/
def calMeasureBytes : Option (Option Nat) → List Byte
  | none => u8Bytes 0 ++ u8Bytes 0
  | some none => u8Bytes 1 ++ u8Bytes 0
  | some (some n) => u8Bytes 2 ++ u8Bytes n

/-- Mean, error and proposed correction of a head, each absent when there is none. -/
def headBytes (h : Option HeadResult) : List Byte :=
  lengthBytes (h.map fun x => x.mean) ++ lengthBytes (h.map fun x => x.error) ++
    lengthBytes (h.map fun x => x.proposed)

def ProbeSnap.bytes (c : ProbeSnap) : List Byte :=
  u8Bytes c.state.num ++ lengthBytes (c.base.map fun b => b.l) ++ lengthBytes (c.base.map fun b => b.r) ++
    i32Bytes c.correction.l ++ i32Bytes c.correction.r ++ flagByte c.calibrated ++ flagByte c.calMode ++
    flagByte c.calFault ++ calMeasureBytes c.measure ++ u8Bytes c.refOutcome.num ++
    optNum CalOutcome.num (c.result.map fun r => r.outcome) ++
    headBytes ((c.result.bind fun r => r.heads).map fun h => h.l) ++
    headBytes ((c.result.bind fun r => r.heads).map fun h => h.r)

/-- A station's part of the MEASURE snapshot in the order of R145. R177 gives a set and a flag no absent form: with no
measurement record the advisory set is sent as the empty set, 0, and the current flag as clear, 0 (DESIGN CHOICE,
log entry 8). -/
def MeasureStation.bytes (m : MeasureStation) : List Byte :=
  flagByte m.delivered ++ serialBytes m.serial ++ optNum Verdict.num (m.item.map fun x => x.verdict) ++
    ((m.item.map fun x => x.advisories).getD Advisories.empty).byte ++
    lengthBytes (m.item.bind fun x => x.fitTarget) ++ lengthBytes (m.item.bind fun x => x.target) ++
    lengthBytes (m.item.bind fun x => x.removal) ++ flagByte ((m.item.map fun x => x.current).getD false)

/-- The last search summary: run number, siblings, damaged serials and the first eight of them. The first damaged
serials are always eight serials with no count byte, those that are absent 0, and without a summary the run number,
the sibling count and the count of damaged serials are 0 (DESIGN CHOICE, log entry 8). -/
def searchBytes (x : Option SearchSummary) : List Byte :=
  natBytes 2 ((x.map fun y => y.run).getD 0) ++ natBytes 2 ((x.map fun y => y.siblings).getD 0) ++
    natBytes 2 ((x.map fun y => y.damaged).getD 0) ++
    (List.range 8).flatMap fun k => serialBytes ((x.map fun y => y.firstDamaged).getD [])[k]?

def MeasureSnap.bytes (c : MeasureSnap) : List Byte :=
  u8Bytes (if c.measuring then 1 else 0) ++ natBytes 2 c.runNumber ++ searchBytes c.lastSearch ++
    c.stations.a.bytes ++ c.stations.b.bytes

def SlotSnap.bytes (c : SlotSnap) : List Byte :=
  u8Bytes c.state.num ++ serialBytes c.serial ++ serialBytes c.incoming ++ u8Bytes (bindingNum c.binding) ++
    u8Bytes (bindingNum c.requested) ++ serialBytes c.workOrder ++ flagByte c.dirty ++ u8Bytes c.rank

def ContextResult.bytes (r : ContextResult) : List Byte :=
  u8Bytes r.slot.num ++ natBytes 4 r.serial ++ u8Bytes r.outcome.num

def StoreResult.bytes (r : StoreResult) : List Byte :=
  u8Bytes r.kind.num ++ natBytes 4 r.serial ++ [r.tag] ++ u8Bytes (if r.damaged then 1 else 0)

def ContextSnap.bytes (c : ContextSnap) : List Byte :=
  c.slots.toList.flatMap SlotSnap.bytes ++ listBytes ContextResult.bytes c.results ++ flagByte c.resultsLost ++
    listBytes StoreResult.bytes c.storeResults ++ flagByte c.storeResultsLost

def LinkSnap.bytes (c : LinkSnap) : List Byte :=
  c.flags.byte ++ flagByte c.restarted ++ flagByte c.breakOn ++ u8Bytes c.supervisor.num ++
    natBytes 2 c.timeout ++ setBytes2 c.mask ++ u8Bytes c.rate.num ++ u8Bytes c.queued ++ flagByte c.holding

/-- The payload of a notice, and what STATUS sends for its source (R177, R185, R187). An accepted level is sent as a
flag, true 1 and false 0 (DESIGN CHOICE, log entry 8). -/
def Content.bytes : Content → List Byte
  | .lift c => c.bytes
  | .interlock c => c.toList.flatMap fun x => flagByte x.accepted ++ flagByte x.latch
  | .station c => c.bytes
  | .capture c => c.bytes
  | .probe c => c.bytes
  | .measure c => c.bytes
  | .context c => c.bytes
  | .link c => c.bytes

/-! ## Replies -/

/-- A measurement record in the order of R142. The usable row counts of a record without them are sent as 255 each,
the sibling count of a record without it as 0 (DESIGN CHOICE, log entry 8). -/
def Measurement.bytes (m : Measurement) : List Byte :=
  natBytes 2 m.run ++ natBytes 4 m.epoch.toNat ++ natBytes 4 m.material.toNat ++ flagByte m.stale ++
    u8Bytes m.verdict.num ++ m.advisories.byte ++ optNum (fun p => p.l) m.usableRows ++
    optNum (fun p => p.r) m.usableRows ++ pairBytes (m.wheels.map fun w => w.before) ++
    pairBytes (m.wheels.map fun w => w.flangeHeight) ++ pairBytes (m.wheels.map fun w => w.runout) ++
    pairBytes (m.wheels.map fun w => w.flangeThickness) ++ lengthBytes (m.fitRadius.map fun p => p.l) ++
    lengthBytes (m.fitRadius.map fun p => p.r) ++ lengthBytes m.fitTarget ++ lengthBytes m.target ++
    lengthBytes m.removal ++ natBytes 2 ((m.siblings.map fun x => x.count).getD 0) ++
    lengthBytes (m.siblings.bind fun x => x.range.map fun y => y.1) ++
    lengthBytes (m.siblings.bind fun x => x.range.map fun y => y.2) ++
    lengthBytes (m.cutUsed.map fun x => x.1) ++ lengthBytes (m.cutUsed.map fun x => x.2)

/-- The fields a reply gives after its result code and link flags. The run number of READ MEASUREMENT is 0 with no
run in progress (DESIGN CHOICE, log entry 8). -/
def Answer.bytes : Answer → List Byte
  | .none => []
  | .content c => c.bytes
  | .pit t => t.bytes
  | .cut t => t.bytes
  | .profileBegin id p =>
    u8Bytes id.num ++ u8Bytes p.state.num ++ u8Bytes p.measuring ++ u8Bytes p.zoneFirst ++ u8Bytes p.zoneLast ++
      u8Bytes p.fill
  | .profileFill id p => u8Bytes id.num ++ u8Bytes p.state.num ++ u8Bytes p.fill
  | .header n r => headerBytes n r
  | .entries l => listBytes Entry.bytes l
  | .opened i v => u8Bytes i.num ++ serialBytes v
  | .sweep f l m e => u8Bytes f ++ u8Bytes l ++ u8Bytes m.num ++ u8Bytes e
  | .restarted e => u8Bytes e
  | .profile w k f l st cur =>
    u8Bytes w.ix.num ++ u8Bytes k ++ u8Bytes f ++ listBytes Sample.bytes l ++ u8Bytes st.num ++ flagByte cur
  | .measure n sts => natBytes 2 n ++ setByte [sts.a, sts.b]
  | .measurement m n cur run =>
    m.bytes ++ serialBytes n ++ flagByte cur ++ flagByte run.isSome ++ natBytes 2 (run.getD 0)
  | .plan p =>
    u8Bytes p.source.num ++ listBytes Pass.bytes p.passes ++ natBytes 2 p.revolutions ++ i32Bytes p.target ++
      i32Bytes p.removal ++ p.advisories.byte

/-- The bytes of a reply frame, with the link flags as they stand when it starts (R177, R182). -/
def Reply.frame (r : Reply) (f : LinkFlags) : List Byte :=
  frameBytes r.kind r.tag (u8Bytes r.code.value ++ f.byte ++ r.answer.bytes)

/-- The bytes of a notice frame: its tag is 0 (R177). -/
def Content.frame (c : Content) (src : Source) : List Byte := frameBytes src.kind 0 c.bytes

end Sys2Proof.Machine
end

