-- ==== Sys2Proof/Machine/Memory.lean ====
section
/-! DEFINITION. Reading and writing addressed cells (the record places, the place table, the capture areas,
the offsets of a profile), and the canonical form every such list keeps. -/

namespace Sys2Proof.Machine

/-- What an address reads as: its listed content, or the content `d` of an unlisted cell. -/
def Cells.read {α : Type} (d : α) : Cells α → Nat → α
  | [], _ => d
  | (k, v) :: rest, a => if a = k then v else Cells.read d rest a

/-- The cells with one address written; writing what an unlisted cell reads as removes the item. -/
def Cells.write {α : Type} [DecidableEq α] (d : α) (a : Nat) (v : α) : Cells α → Cells α
  | [] => if v = d then [] else [(a, v)]
  | (k, w) :: rest =>
    if a < k then (if v = d then (k, w) :: rest else (a, v) :: (k, w) :: rest)
    else if a = k then (if v = d then rest else (a, v) :: rest)
    else (k, w) :: Cells.write d a v rest

/-- The cells without those whose address meets `p`: each of these then reads as unlisted. -/
def Cells.clear {α : Type} (p : Nat → Bool) (c : Cells α) : Cells α := c.filter fun x => !p x.1

/-- The canonical form: addresses strictly rising, nothing listed that an unlisted cell reads as. -/
abbrev Cells.wf {α : Type} [DecidableEq α] (d : α) (c : Cells α) : Prop :=
  c.Pairwise (fun x y => x.1 < y.1) ∧ ∀ x ∈ c, x.2 ≠ d

/-! ## Record places (R4) -/

/-- The fields a memory holds that nothing has written: zero everywhere, the last radii absent. -/
def Record.blank : Record :=
  { unit := 0, bogie := 0, axle := .leading, profileId := .i0, condemning := 0, state := .inService,
    lastRadius := ⟨none, none⟩, nextSequence := none, entries := [] }

/-- What a place no write has reached reads as: an empty header, and a blank body whose stored check value 0 is not
the one computed from it, so that it fails its check (DESIGN CHOICE, log entry 2). -/
def Place.blank : Place := ⟨none, Record.blank, 0⟩

/-- The body of a place as it is read: the record it holds when the stored check value is the CRC-16 computed from it,
and none when it fails its check (R4). -/
def Place.body (p : Place) : Option Record :=
  if crc16 p.content.bodyBytes = p.check then some p.content else none

/-- A place with its body written whole, its check value with it; the header is left (R4). -/
def Place.write (r : Record) (p : Place) : Place := { p with content := r, check := crc16 r.bodyBytes }

/-- A place with a body write begun and not finished, which fails its check (R4). What the memory then holds is read by
no rule but for its failing the check: the earlier fields stand with a check value that is not theirs (DESIGN CHOICE,
log entry 12). -/
def Place.tear (p : Place) : Place := { p with check := ~~~ crc16 p.content.bodyBytes }

/-- A record place of the external memory (R4). -/
def Store.place (st : Store) (n : Nat) : Place := Cells.read Place.blank st.places n

/-- The external memory with one record place written. -/
def Store.setPlace (st : Store) (n : Nat) (p : Place) : Store :=
  { st with places := Cells.write Place.blank n p st.places }

/-- An item of the place table (R5). -/
def Store.item (st : Store) (n : Nat) : TableItem := Cells.read TableItem.blank st.table n

/-- The place table with one item written. -/
def Store.setItem (st : Store) (n : Nat) (t : TableItem) : Store :=
  { st with table := Cells.write TableItem.blank n t st.table }

/-- The address of a sample in its area (R107). -/
def sampleAddress (angular lateral : Nat) : Nat := angular * Config.lateralStations + lateral

/-- A sample of an area (R107). -/
def Area.sample (c : Area) (angular lateral : Nat) : Sample :=
  Cells.read Sample.unset c (sampleAddress angular lateral)

/-- An area with one sample written (R114). -/
def Area.put (c : Area) (angular lateral : Nat) (v : Sample) : Area :=
  Cells.write Sample.unset (sampleAddress angular lateral) v c

/-- An area with the samples of lateral stations `first` to `last` UNSET in every row (R112, step 2). -/
def Area.clearWindow (c : Area) (first last : Nat) : Area :=
  Cells.clear (fun a => first ≤ a % Config.lateralStations && a % Config.lateralStations ≤ last) c

/-- A row of an area, lateral stations 0 to 159 in order (00_scope.md: row). -/
def Area.row (c : Area) (angular : Nat) : List Sample :=
  (List.range Config.lateralStations).map fun k => Area.sample c angular k

/-- How many samples of an area are UNSET, INVALID and radii within a range of lateral stations, over all 8
rows (R122). -/
def Area.count (c : Area) (first last : Nat) : SampleCounts :=
  let inside := c.filter fun x =>
    first ≤ x.1 % Config.lateralStations && x.1 % Config.lateralStations ≤ last
  let bad := inside.countP fun x => x.2 = Sample.invalid
  { unset := Config.angularStations * (last + 1 - first) - inside.length, invalid := bad,
    radii := inside.length - bad }

/-- An offset of a reference profile (R192). -/
def Profile.offset (p : Profile) (lateral : Nat) : Int := Cells.read 0 p.offsets lateral

/-- Every addressed list of the state has the canonical form. -/
abbrev Memory.wf (s : State) : Prop :=
  Cells.wf Place.blank s.store.places ∧ Cells.wf TableItem.blank s.store.table ∧
    (∀ c ∈ s.capture.areas.toList, Cells.wf Sample.unset c) ∧
    ∀ p ∈ s.setup.profiles.toList, Cells.wf 0 p.offsets

end Sys2Proof.Machine
end

