-- ==== Sys2Proof/Machine/Ops.lean ====
section
/-! DEFINITION. The operations the blocks share: looking up slots and stations, writing a block's state with
the notices its changes owe, the recency ranks, the store request FIFO, currency, and the tests one block
makes of another. -/

namespace Sys2Proof.Machine

/-- Four values made place by place. -/
def Four.mapIx {α β : Type} (g : Ix → α → β) (f : Four α) : Four β :=
  ⟨g .i0 f.e0, g .i1 f.e1, g .i2 f.e2, g .i3 f.e3⟩

/-! ## Context slots and bindings (chapter 2) -/

/-- A context slot. -/
def State.slot (s : State) (i : Ix) : Slot := s.context.slots.get i

/-- The state with one context slot replaced. -/
def State.setSlot (i : Ix) (sl : Slot) (s : State) : State :=
  { s with context := { s.context with slots := s.context.slots.set i sl } }

/-- Whether a slot holds a serial: as its own, or as that of its incoming (R22). -/
def Slot.holds (sl : Slot) (n : Nat) : Bool :=
  sl.serial = some n || (sl.incoming.map fun x => x.serial) = some n

/-- The slot that holds a serial (R22). -/
def State.holder (s : State) (n : Nat) : Option Ix := Ix.all.find? fun i => (s.slot i).holds n

/-- The slot bound to a station (R22). -/
def State.boundSlot (s : State) (st : Station) : Option Ix :=
  Ix.all.find? fun i => (s.slot i).binding = some st

/-- Whether a station is the requested binding of a slot or of a slot's incoming (R25, R31). -/
def State.stationRequested (s : State) (st : Station) : Bool :=
  Ix.all.any fun i =>
    (s.slot i).requested = some st || ((s.slot i).incoming.bind fun x => x.requested) = some st

/-- A slot made most recent (R23). -/
def Context.touch (i : Ix) (c : Context) : Context :=
  let old := (c.slots.get i).rank
  { c with
    slots := Four.mapIx (fun j sl =>
      if j = i then { sl with rank := 0 }
      else if sl.rank < old then { sl with rank := sl.rank + 1 } else sl) c.slots }

/-- A slot that becomes FREE, with rank 3 (R23, R37). -/
def Context.release (i : Ix) (c : Context) : Context :=
  let old := (c.slots.get i).rank
  { c with
    slots := Four.mapIx (fun j sl =>
      if j = i then Slot.free 3
      else if old < sl.rank then { sl with rank := sl.rank - 1 } else sl) c.slots }

/-- The state with a slot made most recent (R23). -/
def State.touchSlot (i : Ix) (s : State) : State := { s with context := s.context.touch i }

/-- The state with the slot bound to a station, if any, made most recent (R23). -/
def State.touchStation (st : Station) (s : State) : State :=
  match s.boundSlot st with
  | some i => s.touchSlot i
  | none => s

/-- The state with a slot become FREE (R23). -/
def State.freeSlot (i : Ix) (s : State) : State := { s with context := s.context.release i }

/-- An item added to a list of at most eight: the oldest is lost when the list is full (R17, R36). -/
def addResult {α : Type} (l : List α) (x : α) : List α :=
  if l.length < Config.resultSlots then l ++ [x] else l.drop 1 ++ [x]

/-- A context result added, with its notice (R36). -/
def State.addContextResult (i : Ix) (n : Nat) (o : ContextOutcome) (s : State) : State :=
  State.notify .context
    { s with
      context :=
        { s.context with
          results := addResult s.context.results ⟨i, n, o⟩
          resultsLost := s.context.resultsLost || decide (Config.resultSlots ≤ s.context.results.length) } }

/-! ## The store request FIFO (chapter 1) -/

/-- The requests of the FIFO, oldest first, the one in service at the head (R7). -/
def Store.fifo (st : Store) : List Request := (st.service.map fun x => x.request).toList ++ st.waiting

/-- Whether a command of the host may add `n` requests (R8). -/
def Store.room (st : Store) (n : Nat) : Bool := st.fifo.length + n ≤ Config.hostRequestLimit

/-- The oldest request goes into service when the header scan is done and none is in service. A WRITE takes
its content from the slot's working copy at this moment, and the slot becomes clean (R5, R7, R10, R24). -/
def State.serve (s : State) : State :=
  match s.store.scanned, s.store.service, s.store.waiting with
  | true, none, .write n i :: rest =>
    { s.setSlot i { s.slot i with dirty := false } with
      store := { s.store with service := some ⟨.write n i, (s.slot i).working⟩, waiting := rest } }
  | true, none, r :: rest => { s with store := { s.store with service := some ⟨r, none⟩, waiting := rest } }
  | _, _, _ => s

/-- A request joins the FIFO at its tail (R7). -/
def State.enqueue (r : Request) (s : State) : State :=
  State.serve { s with store := { s.store with waiting := s.store.waiting ++ [r] } }

/-- The read window made invalid for a serial whose store copy is about to change (R16). -/
def State.spoilWindow (n : Nat) (s : State) : State :=
  if (s.store.window.content.map fun x => x.1) = some n then
    { s with store := { s.store with window := { s.store.window with valid := false } } }
  else s

/-- Whether a WRITE of a serial is waiting, not yet in service (R9). -/
def Store.writeWaiting (st : Store) (n : Nat) : Bool :=
  st.waiting.any fun r => match r with
    | .write m _ => m = n
    | _ => false

/-- A WRITE for a slot joins the FIFO, or merges into one waiting for its serial (R9, R16). -/
def State.queueWrite (n : Nat) (i : Ix) (s : State) : State :=
  let s1 := s.spoilWindow n
  if s1.store.writeWaiting n then s1 else s1.enqueue (.write n i)

/-- The request in service ends, and the next goes into service (R7). -/
def State.endService (s : State) : State := State.serve { s with store := { s.store with service := none } }

/-- The place whose header holds a serial, by the place table (R5). -/
def Store.placeOf (st : Store) (n : Nat) : Option Nat :=
  (st.table.find? fun x => x.2.serial = some n).map fun x => x.1

/-- Whether the place of a serial is marked damaged (R5). -/
def Store.marked (st : Store) (n : Nat) : Bool :=
  match st.placeOf n with
  | some k => (st.item k).damaged
  | none => false

/-- Whether an ENROL of a serial is queued (R5). -/
def Store.enrolQueued (st : Store) (n : Nat) : Bool :=
  st.fifo.any fun r => match r with
    | .enrol m _ _ _ => m = n
    | _ => false

/-- Whether a serial counts as enrolled: as the store will stand once every queued request has been served,
so the newest queued ENROL or RETIRE of it decides, and the place table when there is none (R5, R14;
log entry 5). -/
def Store.enrolled (st : Store) (n : Nat) : Bool :=
  match (st.fifo.filterMap fun r => match r with
    | .enrol m _ _ _ => if m = n then some true else none
    | .retire m _ => if m = n then some false else none
    | _ => none).getLast? with
  | some b => b
  | none => (st.placeOf n).isSome

/-- Whether a place is chosen by a queued ENROL (R12). -/
def Store.chosen (st : Store) (k : Nat) : Bool :=
  st.fifo.any fun r => match r with
    | .enrol _ _ p _ => p = k
    | _ => false

/-- The lowest-numbered place that is empty in the place table and not chosen by a queued ENROL (R12). -/
def Store.freePlace (st : Store) : Option Nat :=
  (List.range Config.places).find? fun k => (st.item k).serial = none && !st.chosen k

/-- A store result added, with its notice (R17, R18). -/
def State.addStoreResult (r : StoreResult) (s : State) : State :=
  State.notify .context
    { s with
      store :=
        { s.store with
          results := addResult s.store.results r
          resultsLost := s.store.resultsLost || decide (Config.resultSlots ≤ s.store.results.length) } }

/-! ## History entries (R2, R3) -/

/-- The newest entry of a record changed. -/
def Record.mapNewest (f : Entry → Entry) (r : Record) : Record :=
  match r.entries.getLast? with
  | some e => { r with entries := r.entries.dropLast ++ [f e] }
  | none => r

/-- A CUT entry in progress becomes INTERRUPTED, its other fields kept (R3, step 2). -/
def Entry.interrupt (e : Entry) : Entry :=
  match e.kind with
  | .cut c => if c.outcome = .inProgress then { e with kind := .cut { c with outcome := .interrupted } } else e
  | .measure => e

/-- An entry appended by the five steps of R3, the entry's sequence number being the one the record gives;
none when the record is exhausted. -/
def Record.append (e : Entry) (r : Record) : Option Record :=
  match r.nextSequence with
  | none => none
  | some n =>
    let r1 := r.mapNewest Entry.interrupt
    let kept := if Config.historyEntries ≤ r1.entries.length then r1.entries.drop 1 else r1.entries
    some
      { r1 with
        nextSequence := if n = Config.lastSequence then none else some (n + 1)
        entries := kept ++ [{ e with sequence := n }] }

/-! ## Station conditions -/

/-- The Cutting Station of a station is in work (R160). -/
def CutState.inWork : CutState → Bool
  | .approach => true
  | .cutting => true
  | .holding => true
  | _ => false

/-- A sweep is in motion (R108). -/
def SweepState.inMotion : SweepState → Bool
  | .indexing => true
  | .traversing => true
  | _ => false

/-- A station has a sweep on it (R93, R108). -/
def SweepState.onStation : SweepState → Bool
  | .indexing => true
  | .traversing => true
  | .paused => true
  | _ => false

/-- The Cutting Station of a station. -/
def State.cut (s : State) (st : Station) : CutStation := s.stations.get st

/-- The sweep record of a station. -/
def State.sweepOf (s : State) (st : Station) : Sweep := s.capture.sweep.get st

/-- The probe unit of a station. -/
def State.probe (s : State) (st : Station) : Probe := s.probes.get st

/-- The plan record of a station. -/
def State.plan (s : State) (st : Station) : Option Plan := s.plans.get st

/-- The pit is idle (R64). -/
def State.pitIdle (s : State) : Bool :=
  !(s.cut .a).state.inWork && !(s.cut .b).state.inWork && !(s.sweepOf .a).state.inMotion &&
    !(s.sweepOf .b).state.inMotion

/-- The part is configured (R191). -/
def State.configured (s : State) : Bool := s.setup.pit.isSome && s.setup.cut.isSome

/-- The level check of Level Maintenance fails (R69). -/
def State.levelOwed (s : State) : Bool :=
  s.level.backlog = 3 || s.level.relevel.isSome || s.level.urgent

/-- A station's capture is current (R109). -/
def State.captureCurrent (s : State) (st : Station) : Bool :=
  match (s.sweepOf st).run with
  | some r => r.epoch = s.level.epoch && r.material = (s.cut st).material
  | none => false

/-- A measurement record of the slot bound to a station is current (R143). -/
def State.measurementCurrent (s : State) (st : Station) (m : Measurement) : Bool :=
  !m.stale && m.epoch = s.level.epoch && m.material = (s.cut st).material

/-- A plan not in execution is in force (R148). -/
def State.planInForce (s : State) (st : Station) (p : Plan) : Bool :=
  match s.boundSlot st with
  | none => false
  | some i =>
    (s.slot i).serial = some p.serial &&
      (match (s.slot i).measurement with
       | some m => m.run = p.run && s.measurementCurrent st m
       | none => false)

/-- The plan a station has: in execution, or in force; a lapsed plan is no plan (R148). -/
def State.planOf (s : State) (st : Station) : Option Plan :=
  (s.plan st).filter fun p => p.inExecution || s.planInForce st p

/-! ## Writing a block with the notices it owes -/

/-- The changes of the Lift Group that make LIFT pending (R58). -/
def Lift.seen (l : Lift) : LiftState × LiftCauses × Option FaultCause × Option Move :=
  (l.state, l.holds, l.fault, l.move)

/-- The changes of Level Maintenance that make LIFT pending (R76): every field but the interval timer. -/
def Level.seen (v : Level) : Level := { v with interval := .stopped }

/-- A point is driven (R39). -/
def Lift.driven (l : Lift) (relevel : Option (Four Bool)) (i : Ix) : Bool :=
  (match l.state with
   | .raising => true
   | .lowering => true
   | .raised => (relevel.map fun m => m.get i).getD false
   | _ => false) && !(l.points.get i).arrived && !(l.points.get i).paused

/-- The valve of a point (R39). -/
def Point.valveFor (p : Point) (driven : Bool) : Valve :=
  if driven then (if p.position < p.demand then .up else if p.demand < p.position then .down else .closed)
  else .closed

/-- The four valves set by R39. -/
def Lift.revalve (l : Lift) (relevel : Option (Four Bool)) : Lift :=
  { l with points := Four.mapIx (fun i p => { p with valve := p.valveFor (l.driven relevel i) }) l.points }

/-- The Lift Group and Level Maintenance written together: the valves are set again by R39, and LIFT becomes
pending when a field of R58 or R76 has changed. -/
def State.putLift (l : Lift) (v : Level) (s : State) : State :=
  let s1 := { s with lift := l.revalve v.relevel, level := v }
  if l.seen = s.lift.seen ∧ v.seen = s.level.seen then s1 else s1.notify .lift

/-- The changes of a Cutting Station that make its STATION source pending (R175). -/
def CutStation.seen (c : CutStation) : CutState × CutCauses × Nat × BitVec 32 :=
  (c.state, c.holds, c.completed, c.material)

/-- A Cutting Station written, with the notice its changes owe (R175). -/
def State.putCut (st : Station) (c : CutStation) (s : State) : State :=
  let s1 := { s with stations := s.stations.set st c }
  if c.seen = (s.cut st).seen then s1 else s1.notify (.station st)

/-- The changes of a probe unit that make its PROBE source pending (R105), but for the start of a calibration
measure and the replacement of the calibration result, which notify by themselves. -/
def Probe.seen (p : Probe) : ProbeState × Bool × Bool × Bool × Pair Int × RefOutcome :=
  (p.state, p.calibrated, p.calMode, p.calFault, p.correction, p.refOutcome)

/-- A probe unit written, with the notice its changes owe (R105). -/
def State.putProbe (st : Station) (p : Probe) (s : State) : State :=
  let s1 := { s with probes := s.probes.set st p }
  if p.seen = (s.probe st).seen then s1 else s1.notify (.probe st)

/-- A sweep record written. -/
def State.putSweep (st : Station) (w : Sweep) (s : State) : State :=
  { s with capture := { s.capture with sweep := s.capture.sweep.set st w } }

/-- The sample request of a station written. -/
def State.putRequest (st : Station) (r : SampleRequest) (s : State) : State :=
  { s with capture := { s.capture with request := s.capture.request.set st r } }

/-- A plan record written, with its notice (R157). -/
def State.putPlan (st : Station) (p : Option Plan) (s : State) : State :=
  State.notify (.station st) { s with plans := s.plans.set st p }

/-- A plan removed from its record; nothing becomes pending for an empty record (R156). -/
def State.removePlan (st : Station) (s : State) : State :=
  if (s.plan st).isSome then s.putPlan st none else s

/-- A plan not in execution removed (R141, R156, R190). -/
def State.removeIdlePlan (st : Station) (s : State) : State :=
  match s.plan st with
  | some p => if p.inExecution then s else s.putPlan st none
  | none => s

/-- A demand given to a roller drive. -/
def State.driveRoller (st : Station) (d : RollerDemand) (s : State) : State :=
  { s with axes := { s.axes with roller := s.axes.roller.set st d } }

/-- A demand given to a probe carriage. -/
def State.driveProbe (st : Station) (d : ProbeDemand) (s : State) : State :=
  { s with axes := { s.axes with probe := s.axes.probe.set st d } }

/-- A demand given to a tool carriage. -/
def State.driveTool (st : Station) (d : ToolDemand) (s : State) : State :=
  { s with axes := { s.axes with tool := s.axes.tool.set st d } }

/-! ## Measurement records -/

/-- Every measurement record made stale (R56, R190). -/
def State.staleMeasurements (s : State) : State :=
  { s with
    context :=
      { s.context with
        slots := s.context.slots.map fun sl =>
          { sl with measurement := sl.measurement.map fun m => { m with stale := true } } } }

/-! ## Answers of an owner -/

/-- What the owner of a command answers: the state it leaves, the result code and the fields of the reply. -/
structure Answered where
  state : State
  code : Code
  answer : Answer
  deriving DecidableEq, Repr

/-- A refusal: the state is left as it was (section 11.9). -/
def State.refuse (s : State) (c : Code) : Answered := ⟨s, c, .none⟩

/-- An acceptance with reply OK and no further fields. -/
def State.accept (s : State) : Answered := ⟨s, .ok, .none⟩

/-- ADJUSTED when a field was changed, and OK otherwise. -/
def adjustedIf (changed : Bool) : Code := if changed then .adjusted else .ok

end Sys2Proof.Machine
end

