-- ==== Sys2Proof/Machine/LinkOps.lean ====
section
/-! DEFINITION. The receive side of the link and the taking of commands (R178 to R183, R193): placing an
accepted frame, the assembler byte by byte, taking the oldest frame, the checks on it, the load it breaks, and
the reply it gets. -/

namespace Sys2Proof.Machine

/-- A frame placed in the command queue, in the holding slot, or over the frame held there (R179). -/
def Link.place (f : Frame) (l : Link) : Link :=
  if l.queue.length < Config.queueSlots then { l with queue := l.queue ++ [f] }
  else if l.holding.isNone then { l with holding := some f }
  else { l with holding := some f, flags := l.flags.setOverrun }

/-- The silence supervisor started afresh with the timeout of the LINK table (R183). -/
def Link.restart (l : Link) : Link := { l with supervisor := .running (l.timeout * 1000) }

/-- An accepted frame: it restarts the silence supervisor and is placed (R178, R179, R183). -/
def State.acceptFrame (f : Frame) (s : State) : State := { s with link := s.link.restart.place f }

/-- The oldest frame leaves the queue, and a frame in the holding slot moves in as its newest (R179). -/
def Link.pop (l : Link) : Link := { l with queue := l.queue.drop 1 ++ l.holding.toList, holding := none }

/-- The state in which a frame is being taken, when it can be (R181): the reply slot is empty, and the frame
is the oldest of the queue, which it leaves, or the queue is empty, so that the frame passes through it as it
arrives. None when the frame cannot be taken now (DESIGN CHOICE, log entry 3). -/
def State.takeFrame (f : Frame) (s : State) : Option State :=
  if s.link.reply.isSome then none
  else
    match s.link.queue with
    | [] => some { s with link := s.link.restart }
    | g :: _ => if g = f then some { s with link := s.link.pop } else none

/-- The reply to a command, or to a frame of unknown kind, put in the reply slot (R181). -/
def State.putReply (r : Reply) (s : State) : State := { s with link := { s.link with reply := some r } }

/-- The kind of the reply to a command: the command's code plus 0x80 (section 11.2). -/
def replyKind (kind : Byte) : Byte := kind + 0x80

/-- The LOADING entry becomes BROKEN, unless it is the one entry that `keep` names (R192, R193). -/
def State.breakLoad (keep : Option Ix) (s : State) : State :=
  { s with
    setup :=
      { s.setup with
        profiles := Four.mapIx (fun i (p : Profile) =>
          if p.state = .loading ∧ keep ≠ some i then { p with state := .broken } else p) s.setup.profiles } }

/-- A command of the host (R181, R193). When its frame can be taken now it leaves the queue; a failed check of
its length or its listed parameters is answered by the link; otherwise it is handed to its owner, which breaks
a load, and the owner answers. When it cannot be taken now, the frame is accepted and waits (R179). -/
def State.command {α : Type} (kind tag : Byte) (payload : List Byte) (params : Except Code α)
    (keep : α → Option Ix) (owner : α → State → Answered) (s : State) : State :=
  match s.takeFrame ⟨kind, tag, payload⟩ with
  | none => s.acceptFrame ⟨kind, tag, payload⟩
  | some s1 =>
    match params with
    | .error c => s1.putReply ⟨replyKind kind, tag, c, .none⟩
    | .ok x =>
      let r := owner x (s1.breakLoad (keep x))
      r.state.putReply ⟨replyKind kind, tag, r.code, r.answer⟩

/-- A command that keeps no LOADING entry: every one but PROFILE DATA (R193). -/
def State.plainCommand {α : Type} (kind tag : Byte) (payload : List Byte) (params : Except Code α)
    (owner : α → State → Answered) (s : State) : State :=
  s.command kind tag payload params (fun _ => none) owner

/-- One byte taken by the receive assembler (R178): the frame it completes, if its check agrees, and whether a
frame was discarded. `taken` holds the bytes since the sync byte, in order. -/
def Assembler.feed (a : Assembler) (b : Byte) : Assembler × Option Frame × Bool :=
  match a with
  | .hunting => (if b = Config.syncByte then .assembling [] else .hunting, none, false)
  | .assembling [] =>
    if Config.payloadMax < b.toNat then (.hunting, none, true) else (.assembling [b], none, false)
  | .assembling (n :: rest) =>
    let bytes := n :: rest ++ [b]
    if bytes.length < n.toNat + 5 then (.assembling bytes, none, false)
    else
      let body := bytes.take (n.toNat + 3)
      if leNat (bytes.drop (n.toNat + 3)) = (crc16 body).toNat then
        match body with
        | _ :: kind :: tag :: payload => (.hunting, some ⟨kind, tag, payload⟩, false)
        | _ => (.hunting, none, true)
      else (.hunting, none, true)

/-- One byte received on RXD (R178). -/
def State.receiveByte (s : State) (b : Byte) : State :=
  let (a, frame, bad) := s.link.assembler.feed b
  let l := { s.link with assembler := a, flags := if bad then s.link.flags.setDamaged else s.link.flags }
  match frame with
  | some f => State.acceptFrame f { s with link := l }
  | none => { s with link := l }

/-- What the start and the end of a break both do (R180). -/
def State.breakEdge (on : Bool) (s : State) : State :=
  State.notify .link
    { s with
      link :=
        { s.link with
          assembler := .hunting
          queue := []
          holding := none
          flags := s.link.flags.setBreak
          breakOn := on } }

end Sys2Proof.Machine
end

