-- ==== Sys2Proof/Machine/PitOps.lean ====
section
/-! DEFINITION. What the blocks of the pit do to one another: pausing and abandoning sweeps, holding, aborting
and stopping a Cutting Station, the re-levels, urgent demands, the departure from RAISED and the entry to it,
the legs of a lift move, holds and faults of the lift, and the waits of parking. -/

namespace Sys2Proof.Machine

/-! ## Sweeps (chapter 7) -/

/-- An outstanding sample request given up: its answer is discarded when it comes (R115). -/
def SampleRequest.giveUp : SampleRequest → SampleRequest
  | .live => .givenUp
  | x => x

/-- The demands of a sweep that stops: the rollers stop at their present angle and the carriage goes to park
(R116, R119). -/
def State.stopSweepAxes (st : Station) (s : State) : State :=
  ((s.putRequest st (s.capture.request.get st).giveUp).driveRoller st (.angle (s.capture.angle.get st))).driveProbe
    st .park

/-- A sweep in motion paused; any other sweep is left as it is (R116). Its departure from motion is handed to
Level Maintenance by the caller, which tests the start condition. -/
def State.pauseSweep (c : PauseCause) (st : Station) (s : State) : State :=
  if (s.sweepOf st).state.inMotion then
    State.notify (.capture st)
      ((s.stopSweepAxes st).putSweep st { s.sweepOf st with state := .paused, cause := some c, step := .none })
  else s

/-- A sweep abandoned: in motion or paused it becomes ABANDONED with its samples and fields kept; any other
sweep is left as it is (R119). -/
def State.abandonSweep (st : Station) (s : State) : State :=
  if (s.sweepOf st).state.onStation then
    State.notify (.capture st)
      ((s.stopSweepAxes st).putSweep st { s.sweepOf st with state := .abandoned, cause := none, step := .none })
  else s

/-- The two capture areas of a station passed through `f`. -/
def State.mapAreas (st : Station) (f : Area → Area) (s : State) : State :=
  let a := s.capture.areas
  let l := (st.wheel .l).ix
  let r := (st.wheel .r).ix
  { s with capture := { s.capture with areas := (a.set l (f (a.get l))).set r (f (a.get r)) } }

/-- The rollers sent to the row at a sweep's address counter: the sweep enters INDEXING (R113). -/
def State.beginIndexing (st : Station) (w : Sweep) (s : State) : State :=
  State.driveRoller st (.angle ((w.run.map fun r => r.angular).getD 0 * Config.angularPitch))
    (s.putSweep st { w with state := .indexing, cause := none, step := .none })

/-! ## Bindings (chapter 2) -/

/-- The run entry of a station rebound during a run (R128). -/
def Engine.markRebound (st : Station) (e : Engine) : Engine :=
  { e with
    run := e.run.map fun r =>
      { r with entries := r.entries.map fun x => if x.station = st then { x with rebound := true } else x } }

/-- A binding made (R31, R123, R128): the slot takes it with no measurement record, the station's areas become
UNSET and its sweep record IDLE, and a run in progress marks the station. -/
def State.makeBinding (i : Ix) (st : Station) (s : State) : State :=
  let s1 := s.setSlot i { s.slot i with binding := some st, requested := none, measurement := none }
  let s2 := (s1.mapAreas st fun _ => []).putSweep st Sweep.idle
  State.notify (.capture st)
    { s2.putRequest st (s2.capture.request.get st).giveUp with engine := s2.engine.markRebound st }

/-! ## Cutting Stations (chapter 10) -/

/-- The pass at the plan's pass index (R154, R155). -/
def Plan.pass (p : Plan) : Option Pass := p.passes[p.passIndex - 1]?

/-- The radius of the pass at the plan's pass index. -/
def State.passRadius (s : State) (st : Station) : Option Int :=
  ((s.plan st).bind fun p => p.pass).map fun x => x.radius

/-- The lateral position of a lateral station, 1 mm apart from the wheel's back face (00_scope.md). -/
def lateralPosition (k : Nat) : Int := (k : Int) * 1000

/-- The tool carriage given the approach position of the pass at the index (R163): the held position for a
pass begun, and the zone's first lateral station otherwise. -/
def State.driveApproach (st : Station) (s : State) : State :=
  match s.plan st, s.passRadius st with
  | some p, some radius =>
    let zone := lateralPosition p.zoneFirst
    s.driveTool st (.position (if (s.cut st).begun then (s.cut st).heldAt.getD zone else zone) radius)
  | _, _ => s

/-- A station in APPROACH or CUTTING takes its first hold cause and backs its tools off (R167). -/
def State.enterHolding (c : CutCause) (st : Station) (s : State) : State :=
  let x := s.cut st
  let s1 := s.putCut st { x with state := .holding, holds := CutCauses.empty.add c, heldAt := some x.toolLateral }
  match s.passRadius st with
  | some radius => s1.driveTool st (.position x.toolLateral (radius + Config.backOff))
  | none => s1

/-- A hold cause handed to a station (R167): SILENCE leaves a station that has drawn clear as it is, and no
cause reaches IDLE, RETRACT, ABORTING or STOPPED. -/
def State.giveCause (c : CutCause) (st : Station) (s : State) : State :=
  match (s.cut st).state with
  | .approach => s.enterHolding c st
  | .cutting => s.enterHolding c st
  | .holding => if c = .silence then s else s.putCut st { s.cut st with holds := (s.cut st).holds.add c }
  | .held => if c = .silence then s else s.putCut st { s.cut st with holds := (s.cut st).holds.add c }
  | _ => s

/-- A HELD station with an empty hold cause set leaves HELD for APPROACH (R170). -/
def State.leaveHeld (st : Station) (s : State) : State :=
  if (s.cut st).state = .held ∧ (s.cut st).holds = CutCauses.empty then
    State.driveApproach st ((s.putCut st { s.cut st with state := .approach }).driveRoller st .turning)
  else s

/-- The tools sent home with the rollers stopped (R165, R172). -/
def State.sendHome (st : Station) (s : State) : State := (s.driveRoller st .stop).driveTool st .home

/-- The working copy of a bound slot changed, with a WRITE of it queued: the slot becomes dirty and a WRITE
joins or merges (R162 step 5, R166 step 3, R172 step 2). -/
def State.rewriteBound (st : Station) (f : Record → Record) (s : State) : State :=
  match s.boundSlot st with
  | none => s
  | some i =>
    let sl := s.slot i
    let s1 := s.setSlot i { sl with working := sl.working.map f, dirty := true }
    match sl.serial with
    | some n => s1.queueWrite n i
    | none => s1

/-- A CUT entry in progress given its outcome, passes completed and after radii (R166, R172). -/
def Entry.finishCut (o : CutOutcome) (completed : Nat) (after : Pair (Option Int)) (e : Entry) : Entry :=
  match e.kind with
  | .cut c =>
    if c.outcome = .inProgress then
      { e with kind := .cut { c with outcome := o, completed := completed, afterRadius := after } }
    else e
  | .measure => e

/-- The entry treatment of an abort (R172, step 1): an aborted entry when a pass has entered CUTTING, and the
pre-cut copy put back when none has. -/
def CutStation.treatEntry (x : CutStation) (r : Record) : Record :=
  if x.entered then r.mapNewest (Entry.finishCut .aborted x.completed ⟨none, none⟩)
  else
    match x.preCut with
    | some p => { r with lastRadius := p.lastRadius, entries := p.entries }
    | none => r

/-- Steps 1 to 3 of the completion of an abort (R172): the entry treatment, the write, the plan removed. -/
def State.treatCut (st : Station) (s : State) : State :=
  (s.rewriteBound st (s.cut st).treatEntry).removePlan st

/-- An ABORTING station whose tools are home enters IDLE (R172, R174): an abort of kind CUT completes with its
treatment, a recovery touches no entry, write or plan. -/
def State.completeAbort (st : Station) (s : State) : State :=
  let s1 := if (s.cut st).abortKind = .cut then s.treatCut st else s
  s1.putCut st
    { s1.cut st with
      state := .idle
      abortKind := .none
      preCut := if (s.cut st).abortKind = .cut then none else (s.cut st).preCut }

/-- A cut that completes in RETRACT (R166). -/
def State.completeCut (st : Station) (s : State) : State :=
  let target := (s.plan st).map fun p => p.target
  let done (r : Record) : Record :=
    { (r.mapNewest (Entry.finishCut .complete (s.cut st).completed ⟨target, target⟩)) with
      lastRadius := ⟨target, target⟩ }
  let s1 := (s.rewriteBound st done).removePlan st
  s1.putCut st { s1.cut st with state := .idle, preCut := none }

/-- The wait of RETRACT and ABORTING for TOOLHOME_x, tested on entry and on its accepted rise (R90, R165,
R172, R174). -/
def State.testHome (st : Station) (s : State) : State :=
  if s.level? st.toolhome then
    match (s.cut st).state with
    | .retract => s.completeCut st
    | .aborting => s.completeAbort st
    | _ => s
  else s

/-- A station brought to ABORTING with its tools sent home, and TOOLHOME_x tested (R172); a recovery gives the
roller drive no demand (R174). -/
def State.enterAborting (k : AbortKind) (st : Station) (s : State) : State :=
  let s1 := s.putCut st { s.cut st with state := .aborting, abortKind := k, holds := CutCauses.empty }
  State.testHome st (if k = .cut then s1.sendHome st else s1.driveTool st .home)

/-- A station stopped by an accepted fall of ESTOP_OK; IDLE and STOPPED are not affected (R173). -/
def State.stopStation (st : Station) (s : State) : State :=
  let x := s.cut st
  if x.state = .idle ∨ x.state = .stopped then s
  else
    let cutUnderWay := ¬(x.state = .aborting ∧ x.abortKind = .recovery)
    let s1 := if cutUnderWay then s.treatCut st else s
    let s2 := s1.putCut st
      { x with
        state := .stopped
        holds := CutCauses.empty
        heldAt := none
        abortKind := .none
        preCut := if cutUnderWay then none else x.preCut }
    (s2.driveTool st (.position x.toolLateral x.toolRadius)).driveRoller st .stop

/-! ## Re-levels and urgent demands (chapter 4) -/

/-- The start condition of a re-level (R64). -/
def State.startCondition (s : State) : Bool :=
  s.lift.state = .raised && s.level.relevel = none && 0 < s.level.backlog && s.pitIdle

/-- The points a re-level moves: those further from their demand than the band (R65). -/
def Lift.offLevel (l : Lift) (band : Int) : Four Bool :=
  l.points.map fun p => decide (band < p.position - p.demand ∨ band < p.demand - p.position)

/-- LEVEL removed from a station, which leaves HELD when its set is left empty (R68, R170). -/
def State.removeLevel (st : Station) (s : State) : State :=
  let x := s.cut st
  State.leaveHeld st (s.putCut st { x with holds := { x.holds with level := false } })

/-- The end of an urgent demand (R68). -/
def State.endUrgent (s : State) : State :=
  ((s.putLift s.lift { s.level with urgent := false }).removeLevel .a).removeLevel .b

/-- Steps 1 to 5 of the completion of a re-level (R65); `moved` says that its set was not empty. -/
def State.completeRelevel (moved : Bool) (s : State) : State :=
  let s1 := s.putLift { s.lift with moveTimer := .stopped }
    { s.level with
      epoch := if moved then s.level.epoch + 1 else s.level.epoch
      backlog := s.level.backlog - 1
      relevel := none }
  if s1.level.backlog = 0 ∧ s1.level.urgent then s1.endUrgent else s1

/-- A re-level that moves the points of `m` (R65): their demands are given again and the move timeout
starts. -/
def State.beginRelevel (m : Four Bool) (pit : Pit) (s : State) : State :=
  s.putLift
    { s.lift with
      points := Four.zipWith (fun (b : Bool) p => if b then { p with arrived := false } else p) m s.lift.points
      moveTimer := .running (pit.moveTimeout * 1000) }
    { s.level with relevel := some m }

/-- Re-levels begun while the start condition holds, at most `n` of them: one that moves nothing completes at
once and the condition is tested again (R64, R65). -/
def State.startRelevels : Nat → State → State
  | 0, s => s
  | n + 1, s =>
    match s.setup.pit with
    | none => s
    | some pit =>
      if s.startCondition then
        let m := s.lift.offLevel pit.relevelBand
        if m.toList.any id then s.beginRelevel m pit else State.startRelevels n (s.completeRelevel false)
      else s

/-- The test of the start condition (R64). The backlog bounds how many re-levels that move nothing can follow
one another. -/
def State.testStart (s : State) : State := State.startRelevels s.level.backlog s

/-- The test of the urgent condition after a change of the backlog to 3 (R67). -/
def State.testUrgent (s : State) : State :=
  if s.lift.state = .raised ∧ s.level.backlog = 3 ∧ s.pitIdle = false ∧ s.level.urgent = false then
    let s1 := s.putLift s.lift { s.level with urgent := true }
    let s2 := (s1.giveCause .level .a).giveCause .level .b
    (s2.pauseSweep .level .a).pauseSweep .level .b
  else s

/-! ## Entering and leaving RAISED (R56, R57, R61) -/

/-- The departure flag of a run in progress set (R128). -/
def Engine.markDeparted (e : Engine) : Engine :=
  { e with run := e.run.map fun r => { r with departed := true } }

/-- The state with the departure flag of a run in progress set (R128). -/
def State.markDeparted (s : State) : State := { s with engine := s.engine.markDeparted }

/-- The departure from RAISED handed to Level Maintenance, the Cutting Stations, the Measurement Engine and
Capture Memory (R56, R61, R128). The lift state has been changed before. -/
def State.departRaised (s : State) : State :=
  let s1 := s.putLift s.lift { s.level with backlog := 0, interval := .stopped, relevel := none }
  let s2 := (s1.giveCause .lift .a).giveCause .lift .b
  (s2.staleMeasurements.markDeparted.pauseSweep .lift .a).pauseSweep .lift .b

/-- The entry to RAISED handed to Level Maintenance (R57, R61). The lift state has been changed before. -/
def State.enterRaised (s : State) : State :=
  let s1 := s.putLift s.lift
    { s.level with
      backlog := 3
      epoch := s.level.epoch + 1
      interval :=
        match s.setup.pit with
        | some pit => .running (pit.relevelInterval * 1000)
        | none => .stopped }
  s1.testUrgent.testStart

/-! ## Moves of the lift (chapter 3) -/

/-- The lowest and the highest position of the four points. -/
def Lift.lowest (l : Lift) : Int :=
  min (min l.points.e0.position l.points.e1.position) (min l.points.e2.position l.points.e3.position)
def Lift.highest (l : Lift) : Int :=
  max (max l.points.e0.position l.points.e1.position) (max l.points.e2.position l.points.e3.position)

/-- The group is at rail (R38). -/
def Lift.atRail (l : Lift) : Bool := l.highest ≤ Config.atRailHeight

/-- A point with its paused flag clear. -/
def Point.unpause (p : Point) : Point := { p with paused := false, pausedDir := none }

/-- The group's present leg is to 0 (R43). -/
def Lift.legToRail (l : Lift) : Bool :=
  l.state = .lowering &&
    (match l.move with
     | some m => m.stage = .passed && m.target = 0
     | none => false)

/-- The end of a leg to 0 once the group is at rail: DOWN (R43). -/
def State.arriveAtRail (s : State) : State :=
  if s.lift.legToRail && s.lift.atRail then
    s.putLift
      { s.lift with
        state := .down
        move := none
        moveTimer := .stopped
        points := s.lift.points.map fun p => { p.unpause with demand := 0 } }
      s.level
  else s

/-- A move set going (R42): the move record is set, the group enters RAISING or LOWERING, leaving a hold or a
re-level behind, and the first leg begins toward the clearance height or the target. A leg to 0 with the group
at rail ends at once (R43). -/
def State.enterLeg (m : Move) (s : State) : State :=
  match s.setup.pit with
  | none => s
  | some pit =>
    let demand := if m.stage = .pending then pit.clearance else m.target
    let s1 := s.putLift
      { s.lift with
        state := match m.dir with
          | .up => .raising
          | .down => .lowering
        move := some m
        holds := LiftCauses.empty
        moveTimer := .running (pit.moveTimeout * 1000)
        points := s.lift.points.map fun p => { p.unpause with demand := demand, arrived := false } }
      { s.level with relevel := none }
    (if s.lift.state = .raised then s1.departRaised else s1).arriveAtRail

/-- The move of a new move start toward a target (R42). -/
def Lift.newMove (l : Lift) (clearance target : Int) (raise : Bool) : Move :=
  if raise ∧ l.lowest < target then
    { target := target, dir := .up, stage := if l.lowest ≤ clearance then .pending else .passed }
  else
    { target := target, dir := .down,
      stage := if clearance ≤ l.highest ∧ target < clearance then .pending else .passed }

/-- A move start toward a target (R42). -/
def State.moveStart (target : Int) (raise : Bool) (s : State) : State :=
  match s.setup.pit with
  | none => s
  | some pit => s.enterLeg (s.lift.newMove pit.clearance target raise)

/-- BRIDGE_WAIT ends when the bridges agree with the move's direction (R44). -/
def State.testBridges (s : State) : State :=
  match s.lift.state, s.lift.move with
  | .bridgeWait .up, some m =>
    if s.level? .bridgeAOut && s.level? .bridgeBOut then s.enterLeg { m with stage := .passed } else s
  | .bridgeWait .down, some m =>
    if !s.level? .bridgeAOut && !s.level? .bridgeBOut then s.enterLeg { m with stage := .passed } else s
  | _, _ => s

/-- The end of a leg whose points have all arrived (R43). -/
def State.endLeg (s : State) : State :=
  match s.lift.move with
  | none => s
  | some m =>
    let l := { s.lift with moveTimer := .stopped, points := s.lift.points.map Point.unpause }
    if m.stage = .pending then (s.putLift { l with state := .bridgeWait m.dir } s.level).testBridges
    else if 0 < m.target then (s.putLift { l with state := .raised, move := none } s.level).enterRaised
    else s.arriveAtRail

/-- Level Maintenance's outputs, step, dwell and flag as a HOLD or FAULT from a parking state leaves them
(R75); from any other state they stay. -/
def Level.leaveParking (v : Level) (was : LiftState) : Level :=
  if was = .parking ∨ was = .parked ∨ was = .unparking then
    { v with parkStep := none, relief := false, lockRaised := false, dwell := .stopped, unparkPending := false }
  else v

/-- The Lift Group stopped where it stands: valves closed, paused flags clear, timeout stopped, the state left
recorded (R51, R52). -/
def Lift.stopped (l : Lift) (entered : LiftState) : Lift :=
  { l with
    state := entered
    interrupted := some l.state
    moveTimer := .stopped
    points := l.points.map Point.unpause }

/-- Entry to HOLD from a state other than HOLD (R52, R75). -/
def State.enterHold (c : LiftCause) (s : State) : State :=
  let was := s.lift.state
  let s1 := s.putLift { (s.lift.stopped .hold) with holds := LiftCauses.empty.add c }
    { Level.leaveParking s.level was with relevel := none }
  if was = .raised then s1.departRaised else s1

/-- Entry to FAULT (R51, R75). -/
def State.enterFault (c : FaultCause) (s : State) : State :=
  let was := s.lift.state
  let s1 := s.putLift { (s.lift.stopped .fault) with fault := some c }
    { Level.leaveParking s.level was with relevel := none }
  if was = .raised then s1.departRaised else s1

/-- A hold cause added in HOLD (R53). -/
def State.addLiftCause (c : LiftCause) (s : State) : State :=
  s.putLift { s.lift with holds := s.lift.holds.add c } s.level

/-- The unpark-pending flag cleared (R75). -/
def State.cancelUnpark (s : State) : State := s.putLift s.lift { s.level with unparkPending := false }

/-- A hold cause taken by the lift, by the tables of R53 and R75. -/
def State.giveLiftCause (c : LiftCause) (s : State) : State :=
  match c, s.lift.state with
  | .estop, .hold | .pressure, .hold | .host, .hold => s.addLiftCause c
  | .precondition, .hold => if s.lift.move.isSome then s.addLiftCause c else s
  | .silence, .raised => if s.level.relevel.isSome then s.enterHold c else s
  | .silence, .bridgeWait _ => s
  | .precondition, .raised => s
  | _, .raising | _, .lowering | _, .bridgeWait _ | _, .raised => s.enterHold c
  | .estop, .parking | .host, .parking | .estop, .unparking | .host, .unparking => s.enterHold c
  | .estop, .parked | .host, .parked => s.cancelUnpark
  | _, _ => s

/-! ## Parking and unparking (R70 to R75) -/

/-- ENGAGE_WAIT ends when LOCKS_ENGAGED is true: the group enters PARKED and the dwell starts (R70, R71). -/
def State.testEngage (s : State) : State :=
  if s.lift.state = .parking ∧ s.level.parkStep = some .engageWait ∧ s.level? .locksEngaged = true then
    s.putLift { s.lift with state := .parked }
      { s.level with relief := true, parkStep := none, dwell := .running, unparkPending := false }
  else s

/-- RELEASE_WAIT ends when LOCKS_ENGAGED is false: the group enters RAISED (R73). -/
def State.testRelease (s : State) : State :=
  if s.lift.state = .unparking ∧ s.level.parkStep = some .releaseWait ∧ s.level? .locksEngaged = false then
    (s.putLift { s.lift with state := .raised, points := s.lift.points.map Point.unpause }
      { s.level with parkStep := none }).enterRaised
  else s

/-- PRESSURE_WAIT ends when PRESSURE_OK is true: the lock demand is dropped and RELEASE_WAIT begins (R73). -/
def State.testPressure (s : State) : State :=
  if s.lift.state = .unparking ∧ s.level.parkStep = some .pressureWait ∧ s.level? .pressureOk = true then
    (s.putLift s.lift { s.level with lockRaised := false, parkStep := some .releaseWait }).testRelease
  else s

/-- UNPARKING begins: relief is switched off and PRESSURE_WAIT begins (R73). -/
def State.beginUnparking (s : State) : State :=
  (s.putLift { s.lift with state := .unparking }
    { s.level with relief := false, unparkPending := false, parkStep := some .pressureWait }).testPressure

end Sys2Proof.Machine
end

