-- ==== Sys2Proof/Machine/ProbeUnits.lean ====
section
/-! DEFINITION. Chapter 6: the probe units. The meanings of PROBE_REFERENCE, CALIBRATE_ON, CALIBRATE_MEASURE,
CALIBRATE_OFF, PROBE_PAD_IN_POSITION, REFERENCE_READING, SETTLE_EXPIRY, RING_IN_POSITION and
CALIBRATION_READING, and the composing of a sample. -/

namespace Sys2Proof.Machine

/-- The lift is moving or waits at the bridges (R95 check 5, R101 check 4). -/
def LiftState.moving : LiftState → Bool
  | .raising => true
  | .lowering => true
  | .bridgeWait _ => true
  | _ => false

/-- PROBE REFERENCE (R95). -/
def State.probeReference (st : Station) (s : State) : Answered :=
  let p := s.probe st
  if p.calMode then s.refuse .calibrationMode
  else if p.state = .referencing ∨ p.state = .settling then s.refuse .wrongState
  else if (s.cut st).state ≠ .idle ∨ (s.sweepOf st).state.onStation = true then s.refuse .wrongState
  else if s.setup.pit.isNone then s.refuse .notConfigured
  else if s.lift.state.moving then s.refuse .wrongState
  else
    State.accept
      (((s.putProbe st
        { p with state := .referencing, base := none, settle := .stopped, padRequested := false }).driveProbe st
          .pad).touchStation st)

/-- CALIBRATE ON (R99). With the flag already set nothing of the unit changes, and the bound slot is still made most
recent, as R23 gives for every accepted CALIBRATE ON (DESIGN CHOICE, log entry 21). -/
def State.calibrateOn (st : Station) (s : State) : Answered :=
  let p := s.probe st
  if p.calMode then State.accept (s.touchStation st)
  else if p.state ≠ .ready then s.refuse .probeNotReady
  else if (s.cut st).state ≠ .idle ∨ (s.sweepOf st).state.onStation = true then s.refuse .wrongState
  else State.accept ((s.putProbe st { p with calMode := true }).touchStation st)

/-- CALIBRATE MEASURE (R101). -/
def State.calibrateMeasure (st : Station) (s : State) : Answered :=
  let p := s.probe st
  if !p.calMode then s.refuse .wrongState
  else if p.measure ≠ .none then s.refuse .busy
  else if s.setup.pit.isNone then s.refuse .notConfigured
  else if s.lift.state.moving then s.refuse .wrongState
  else
    State.accept
      (((State.notify (.probe st) (s.putProbe st { p with measure := .toRing })).driveProbe st .ring).touchStation
        st)

/-- The requests of a calibration measure whose answers are still to come when it is abandoned: one while it
is READING, which asks for the next pair as each is taken (R101, R103). -/
def CalMeasure.outstanding : CalMeasure → Nat
  | .reading _ => 1
  | _ => 0

/-- CALIBRATE OFF (R103): a calibration measure under way is abandoned. With the flag already clear nothing of the unit
changes, and the bound slot is still made most recent, as R23 gives for every accepted CALIBRATE OFF (DESIGN CHOICE,
log entry 21). -/
def State.calibrateOff (st : Station) (s : State) : Answered :=
  let p := s.probe st
  if !p.calMode then State.accept (s.touchStation st)
  else if p.measure = .none then State.accept ((s.putProbe st { p with calMode := false }).touchStation st)
  else
    State.accept
      (((State.notify (.probe st)
        (s.putProbe st
          { p with
            calMode := false
            measure := .none
            lateAnswers := p.lateAnswers + p.measure.outstanding
            result := some ⟨.abandoned, none⟩ })).driveProbe st .park).touchStation st)

/-! ## Referencing -/

/-- The in-position event at the datum pad: one reading of each head is requested (R96). -/
def State.padReached (st : Station) (s : State) : State :=
  if (s.probe st).state = .referencing then s.putProbe st { s.probe st with padRequested := true } else s

/-- The reference base a head takes from its reading at the pad; none for NO_CONTACT and for a base out of
range (R96). -/
def padBase (datum : Int) : Reading → Option Int
  | none => none
  | some d => if Config.baseMin ≤ datum - d ∧ datum - d ≤ Config.baseMax then some (datum - d) else none

/-- The two readings at the pad, when they are awaited (R96, R97). -/
def State.padReading (st : Station) (l r : Reading) (s : State) : State :=
  let p := s.probe st
  match p.state, p.padRequested, s.setup.pit with
  | .referencing, true, some pit =>
    (match padBase (pit.datum.get st) l, padBase (pit.datum.get st) r with
     | some bl, some br =>
       s.putProbe st
         { p with
           state := .settling, base := some ⟨bl, br⟩, refOutcome := .ok, padRequested := false,
           settle := .running (pit.probeSettle * 1000) }
     | _, _ =>
       s.putProbe st
         { p with
           state := .unreferenced, base := none, refOutcome := .noContact, padRequested := false }).driveProbe
      st .park
  | _, _, _ => s

/-- The expiry of the settle timer, while it runs (R97). -/
def State.settles (st : Station) (s : State) : State :=
  match (s.probe st).settle with
  | .stopped => s
  | .running _ => s.putProbe st { s.probe st with state := .ready, settle := .stopped }

/-! ## Calibration -/

/-- The in-position event at the master ring, when a measure is on its way there (R101, R103). -/
def State.ringReached (st : Station) (s : State) : State :=
  if (s.probe st).measure = .toRing then s.putProbe st { s.probe st with measure := .reading [] } else s

/-- The result of a head from its eight raw readings (R102). -/
def headResult (raw : List Int) (correction ring : Int) : HeadResult :=
  let mean := floorMean (raw.map fun x => x + correction)
  { mean := mean, error := mean - ring, proposed := correction - (mean - ring) }

/-- A proposed correction lies within the range that may be stored (R102). -/
def HeadResult.plausible (h : HeadResult) : Bool :=
  -Config.correctionMax ≤ h.proposed && h.proposed ≤ Config.correctionMax

/-- A calibration measure that ends (R102): the result is replaced, the measure is over, the carriage goes to
park and PROBE becomes pending. -/
def State.endCalibration (st : Station) (p : Probe) (res : CalResult) (s : State) : State :=
  (State.notify (.probe st) (s.putProbe st { p with measure := .none, result := some res })).driveProbe st .park

/-- The end of a calibration measure by its eighth pair (R102). -/
def State.finishCalibration (st : Station) (taken : List (Pair Int)) (ring : Int) (s : State) : State :=
  let p := s.probe st
  let l := headResult (taken.map fun x => x.l) p.correction.l ring
  let r := headResult (taken.map fun x => x.r) p.correction.r ring
  if l.plausible && r.plausible then
    s.endCalibration st
      { p with correction := ⟨l.proposed, r.proposed⟩, calibrated := true, calFault := false }
      ⟨.stored, some ⟨l, r⟩⟩
  else
    s.endCalibration st { p with calibrated := false, calFault := true } ⟨.outOfRange, some ⟨l, r⟩⟩

/-- A pair of answers at the ring (R101 to R103): the answers of an abandoned measure are discarded first; a
NO_CONTACT ends the measure, and so does the eighth pair (DESIGN CHOICE on the count of late answers, log entry 13). -/
def State.calibrationReading (st : Station) (l r : Reading) (s : State) : State :=
  let p := s.probe st
  if 0 < p.lateAnswers then s.putProbe st { p with lateAnswers := p.lateAnswers - 1 }
  else
    match p.measure with
    | .reading taken =>
      match l, r, p.base, s.setup.pit with
      | some dl, some dr, some b, some pit =>
        let pairs := ⟨dl + b.l, dr + b.r⟩ :: taken
        if pairs.length = Config.calibrationPairs then s.finishCalibration st pairs (pit.ring.get st)
        else s.putProbe st { p with measure := .reading pairs }
      | _, _, _, _ =>
        s.endCalibration st { p with calibrated := false, calFault := true } ⟨.noContact, none⟩
    | _ => s

/-! ## Samples -/

/-- A sample composed from a head's answer (R104). -/
def composeSample (base : Option Int) (correction : Int) (d : Reading) : Sample :=
  match base, d with
  | some b, some x =>
    let v := x + b + correction
    if v < Config.radiusMin ∨ Config.radiusMax < v then .invalid else .radius v
  | _, _ => .invalid

/-! ## Meanings -/

/-- PROBE_REFERENCE (R95). -/
def execProbeReference (tag : Byte) (payload : List Byte) (s : State) : Host.Outcome State Fault Refusal :=
  .next (s.plainCommand 0x40 tag payload (stationParam payload) State.probeReference)

/-- CALIBRATE_ON (R99). -/
def execCalibrateOn (tag : Byte) (payload : List Byte) (s : State) : Host.Outcome State Fault Refusal :=
  .next (s.plainCommand 0x41 tag payload (stationParam payload) State.calibrateOn)

/-- CALIBRATE_MEASURE (R101). -/
def execCalibrateMeasure (tag : Byte) (payload : List Byte) (s : State) : Host.Outcome State Fault Refusal :=
  .next (s.plainCommand 0x42 tag payload (stationParam payload) State.calibrateMeasure)

/-- CALIBRATE_OFF (R103). -/
def execCalibrateOff (tag : Byte) (payload : List Byte) (s : State) : Host.Outcome State Fault Refusal :=
  .next (s.plainCommand 0x43 tag payload (stationParam payload) State.calibrateOff)

/-- PROBE_PAD_IN_POSITION (R96). -/
def execProbePadInPosition (st : Station) (s : State) : Host.Outcome State Fault Refusal :=
  .next (s.padReached st)

/-- REFERENCE_READING (R96). -/
def execReferenceReading (st : Station) (l r : Reading) (s : State) : Host.Outcome State Fault Refusal :=
  .next (s.padReading st l r)

/-- SETTLE_EXPIRY (R97). -/
def execSettleExpiry (st : Station) (s : State) : Host.Outcome State Fault Refusal := .next (s.settles st)

/-- RING_IN_POSITION (R101). -/
def execRingInPosition (st : Station) (s : State) : Host.Outcome State Fault Refusal := .next (s.ringReached st)

/-- CALIBRATION_READING (R101). -/
def execCalibrationReading (st : Station) (l r : Reading) (s : State) : Host.Outcome State Fault Refusal :=
  .next (s.calibrationReading st l r)

end Sys2Proof.Machine
end

