-- ==== Sys2Proof/Machine/CaptureMemory.lean ====
section
/-! DEFINITION. Chapter 7: the sweeps and the capture areas. The meanings of SWEEP, SWEEP_CONTINUE, SWEEP_STOP,
READ_PROFILE, ROLLER_ANGLE_REPORT, ROLLER_IN_POSITION, SWEEP_CARRIAGE_IN_POSITION and SAMPLE_ANSWER. -/

namespace Sys2Proof.Machine

/-! ## Starting, continuing and stopping (R110 to R112, R117, R118) -/

/-- The checks of SWEEP, in order: the first that fails (R110). -/
def State.sweepRefusal (s : State) (st : Station) : Option Code :=
  let p := s.probe st
  if p.calMode then some .calibrationMode
  else if p.state ≠ .ready then some .probeNotReady
  else if !p.calibrated then some .probeUncalibrated
  else if !s.configured then some .notConfigured
  else if s.lift.state ≠ .raised then some .wrongState
  else if (s.boundSlot st).isNone then some .wrongState
  else if (s.cut st).state ≠ .idle then some .wrongState
  else if (s.sweepOf st).state.inMotion then some .wrongState
  else if s.levelOwed then some .levelPending
  else if !s.level? .guardClosed then some .interlock
  else none

/-- The window a SWEEP settles: each station clamped, then the two exchanged when reversed (R111). -/
def SweepParams.window (x : SweepParams) : Nat × Nat :=
  let f := clampNat 0 (Config.lateralStations - 1) x.first
  let l := clampNat 0 (Config.lateralStations - 1) x.last
  if l < f then (l, f) else (f, l)

/-- The mode carried out: a MERGE on a capture that is not current is carried out as FRESH (R111). -/
def State.sweepMode (s : State) (st : Station) : SweepMode → SweepMode
  | .fresh => .fresh
  | .merge => if s.captureCurrent st then .merge else .fresh

/-- The entry station: the angular station at or below the latest angle of the roller drive (R112, step 3). -/
def State.entryStation (s : State) (st : Station) : Nat := s.capture.angle.get st / Config.angularPitch

/-- Steps 2 to 5 of an accepted SWEEP, and the notice: the areas are cleared by the mode, the sweep record is
set up, and the sweep enters INDEXING (R112, R122). -/
def State.setUpSweep (st : Station) (first last : Nat) (mode : SweepMode) (s : State) : State :=
  let s1 := s.mapAreas st fun c => match mode with
    | .fresh => []
    | .merge => c.clearWindow first last
  let entry := s.entryStation st
  State.notify (.capture st)
    (s1.beginIndexing st
      { state := .indexing
        run := some
          { first := first, last := last, mode := mode, entry := entry, angular := entry, lateral := first,
            epoch := s.level.epoch, material := (s.cut st).material }
        rowsDone := 0
        cause := none
        step := .none })

/-- A paused sweep abandoned by a new one; any other record is left as it is (R112, step 1). -/
def State.abandonPaused (st : Station) (s : State) : State :=
  if (s.sweepOf st).state = .paused then s.abandonSweep st else s

/-- SWEEP (R110 to R112). -/
def State.sweep (x : SweepParams) (s : State) : Answered :=
  let st := x.station
  match s.sweepRefusal st with
  | some c => s.refuse c
  | none =>
    let w := x.window
    let mode := s.sweepMode st x.mode
    ⟨((s.abandonPaused st).setUpSweep st w.1 w.2 mode).touchStation st,
      adjustedIf (decide (w ≠ (x.first, x.last)) || decide (mode ≠ x.mode)),
      .sweep w.1 w.2 mode (s.entryStation st)⟩

/-- The checks of SWEEP CONTINUE, in order: the first that fails (R118). -/
def State.continueRefusal (s : State) (st : Station) : Option Code :=
  if (s.sweepOf st).state ≠ .paused then some .wrongState
  else if (s.probe st).calMode then some .calibrationMode
  else if s.lift.state ≠ .raised then some .wrongState
  else if (s.boundSlot st).isNone then some .wrongState
  else if s.levelOwed then some .levelPending
  else if !s.level? .guardClosed then some .interlock
  else none

/-- SWEEP CONTINUE (R118): a current capture resumes at its address, any other starts again under FRESH. -/
def State.sweepContinue (st : Station) (s : State) : Answered :=
  match s.continueRefusal st with
  | some c => s.refuse c
  | none =>
    if s.captureCurrent st then
      State.accept ((State.notify (.capture st) (s.beginIndexing st (s.sweepOf st))).touchStation st)
    else
      let first := ((s.sweepOf st).run.map fun r => r.first).getD 0
      let last := ((s.sweepOf st).run.map fun r => r.last).getD (Config.lateralStations - 1)
      ⟨(s.setUpSweep st first last .fresh).touchStation st, .restarted, .restarted (s.entryStation st)⟩

/-- SWEEP STOP (R117). -/
def State.sweepStop (st : Station) (s : State) : Answered :=
  if (s.sweepOf st).state.inMotion then
    State.accept ((s.pauseSweep .host st).testStart.touchStation st)
  else if (s.sweepOf st).state = .paused then State.accept ((s.abandonSweep st).touchStation st)
  else s.refuse .wrongState

/-- READ PROFILE (R121): the samples of a row from the first lateral station given, clipped at 159. -/
def State.readProfile (x : ReadProfileParams) (s : State) : Answered :=
  let st := x.wheel.station
  let angular := clampNat 0 (Config.angularStations - 1) x.angular
  let first := clampNat 0 (Config.lateralStations - 1) x.first
  let count := clampNat 1 40 x.count
  let samples := ((Area.row (s.capture.areas.get x.wheel.ix) angular).drop first).take count
  ⟨s.touchStation st,
    adjustedIf (decide (angular ≠ x.angular) || decide (first ≠ x.first) || decide (count ≠ x.count)),
    .profile x.wheel angular first samples (s.sweepOf st).state (s.captureCurrent st)⟩

/-! ## Indexing and traversing (R113 to R115) -/

/-- The latest angle of a roller drive taken (R112). -/
def State.putAngle (st : Station) (angle : Nat) (s : State) : State :=
  { s with capture := { s.capture with angle := s.capture.angle.set st angle } }

/-- The lateral station at a sweep's address counter. -/
def Sweep.lateral (w : Sweep) : Nat := (w.run.map fun r => r.lateral).getD 0

/-- A sweep that waits for its carriage at the lateral station of the address counter, which the carriage is
given as its demand (R113, R114). -/
def State.awaitPosition (st : Station) (w : Sweep) (s : State) : State :=
  (s.putSweep st { w with state := .traversing, step := .awaitPosition }).driveProbe st (.lateral w.lateral)

/-- The roller drive's in-position event (R113): it updates the latest angle, and ends INDEXING. -/
def State.rollerArrives (st : Station) (angle : Nat) (s : State) : State :=
  let s1 := s.putAngle st angle
  if (s.sweepOf st).state = .indexing then s1.awaitPosition st (s.sweepOf st) else s1

/-- The sample request of AWAIT_SAMPLE made, unless one given up is still outstanding (R114, R115). -/
def SampleRequest.ask : SampleRequest → SampleRequest
  | .givenUp => .givenUp
  | _ => .live

/-- The carriage's in-position event, when a sweep waits for it (R114, step 1; R115). -/
def State.carriageArrives (st : Station) (s : State) : State :=
  let w := s.sweepOf st
  if w.state = .traversing ∧ w.step = .awaitPosition then
    (s.putSweep st { w with step := .awaitSample }).putRequest st (s.capture.request.get st).ask
  else s

/-- The pair of samples composed from the heads' answers (R104). -/
def State.composed (s : State) (st : Station) (l r : Reading) : Pair Sample :=
  let p := s.probe st
  ⟨composeSample (p.base.map fun b => b.l) p.correction.l l,
    composeSample (p.base.map fun b => b.r) p.correction.r r⟩

/-- A pair of samples written at an address of a station's two areas (R114, step 2). -/
def State.writePair (st : Station) (angular lateral : Nat) (x : Pair Sample) (s : State) : State :=
  let a := s.capture.areas
  let l := (st.wheel .l).ix
  let r := (st.wheel .r).ix
  { s with
    capture :=
      { s.capture with
        areas := (a.set l ((a.get l).put angular lateral x.l)).set r ((a.get r).put angular lateral x.r) } }

/-- Entry to DONE (R114): the step becomes none, the carriage goes to park, CAPTURE becomes pending and the
departure from TRAVERSING is handed to Level Maintenance. -/
def State.finishSweep (st : Station) (w : Sweep) (s : State) : State :=
  State.testStart
    (State.notify (.capture st) ((s.putSweep st { w with state := .done, step := .none }).driveProbe st .park))

/-- The address counter after a pair is written (R114, steps 3 and 4). -/
def State.advance (st : Station) (w : Sweep) (r : SweepRun) (s : State) : State :=
  if r.lateral < r.last then s.awaitPosition st { w with run := some { r with lateral := r.lateral + 1 } }
  else
    let w1 : Sweep :=
      { w with
        run := some { r with angular := (r.angular + 1) % Config.angularStations, lateral := r.first }
        rowsDone := w.rowsDone + 1 }
    if w1.rowsDone < Config.angularStations then s.beginIndexing st w1 else s.finishSweep st w1

/-- The answer to a request given up (R115): it is discarded, and a sweep that stands at AWAIT_SAMPLE makes its
request now. -/
def State.discardAnswer (st : Station) (s : State) : State :=
  let w := s.sweepOf st
  s.putRequest st (if w.state = .traversing ∧ w.step = .awaitSample then .live else .none)

/-- The answer to the request of the step a sweep stands at (R114, steps 2 to 4). -/
def State.takeSample (st : Station) (l r : Reading) (s : State) : State :=
  let w := s.sweepOf st
  match w.run with
  | some x => ((s.putRequest st .none).writePair st x.angular x.lateral (s.composed st l r)).advance st w x
  | none => s.putRequest st .none

/-- The probe unit's answer to a sample request (R114, R115). -/
def State.sampleAnswer (st : Station) (l r : Reading) (s : State) : State :=
  match s.capture.request.get st with
  | .none => s
  | .givenUp => s.discardAnswer st
  | .live =>
    if (s.sweepOf st).state = .traversing ∧ (s.sweepOf st).step = .awaitSample then s.takeSample st l r
    else s.discardAnswer st

/-! ## Meanings -/

/-- SWEEP (R112). -/
def execSweep (tag : Byte) (payload : List Byte) (s : State) : Host.Outcome State Fault Refusal :=
  .next (s.plainCommand 0x48 tag payload (sweepParams payload) State.sweep)

/-- SWEEP_CONTINUE (R118). -/
def execSweepContinue (tag : Byte) (payload : List Byte) (s : State) : Host.Outcome State Fault Refusal :=
  .next (s.plainCommand 0x49 tag payload (stationParam payload) State.sweepContinue)

/-- SWEEP_STOP (R117). -/
def execSweepStop (tag : Byte) (payload : List Byte) (s : State) : Host.Outcome State Fault Refusal :=
  .next (s.plainCommand 0x4A tag payload (stationParam payload) State.sweepStop)

/-- READ_PROFILE (R121). -/
def execReadProfile (tag : Byte) (payload : List Byte) (s : State) : Host.Outcome State Fault Refusal :=
  .next (s.plainCommand 0x4B tag payload (readProfileParams payload) State.readProfile)

/-- ROLLER_ANGLE_REPORT (R112). -/
def execRollerAngleReport (st : Station) (angle : Fin 36000) (s : State) : Host.Outcome State Fault Refusal :=
  .next (s.putAngle st angle)

/-- ROLLER_IN_POSITION (R113). -/
def execRollerInPosition (st : Station) (angle : Fin 36000) (s : State) : Host.Outcome State Fault Refusal :=
  .next (s.rollerArrives st angle)

/-- SWEEP_CARRIAGE_IN_POSITION (R114). -/
def execSweepCarriageInPosition (st : Station) (s : State) : Host.Outcome State Fault Refusal :=
  .next (s.carriageArrives st)

/-- SAMPLE_ANSWER (R114). -/
def execSampleAnswer (st : Station) (l r : Reading) (s : State) : Host.Outcome State Fault Refusal :=
  .next (s.sampleAnswer st l r)

end Sys2Proof.Machine
end

