-- ==== Sys2Proof/Machine/History.lean ====
section
/-! DEFINITION. Chapter 1: the record commands and the completions of the store requests they queue. The
meanings of ENROL, AMEND, RETIRE, READ_RECORD, HEADER_SCAN_COMPLETE, READ_COMPLETE, ENROL_COMPLETE,
AMEND_COMPLETE and RETIRE_COMPLETE. -/

namespace Sys2Proof.Machine

/-- A serial that names a record that can exist (R11). -/
def validSerial (n : Nat) : Bool := 1 ≤ n && n ≤ Config.lastSerial

/-- A radius of a record clamped into its range (R12, R13). -/
def clampRadius (x : Int) : Int := clampInt Config.radiusMin Config.radiusMax x

/-- A profile id clamped into 0 to 3 (R12). -/
def clampProfile (n : Nat) : Ix := (Ix.ofNum (clampNat 0 3 n)).getD .i3

/-- The record an ENROL writes: the fields clamped, in service, no last radii, an empty history (R12). -/
def EnrolParams.record (x : EnrolParams) : Record :=
  { unit := clampNat 1 65535 x.unit, bogie := clampNat 1 32 x.bogie, axle := axleOf x.axle,
    profileId := clampProfile x.profileId, condemning := clampRadius x.condemning, state := .inService,
    lastRadius := ⟨none, none⟩, nextSequence := some 1, entries := [] }

/-- Whether clamping changed a field of an ENROL (R12). -/
def EnrolParams.changed (x : EnrolParams) : Bool :=
  decide (x.record.unit ≠ x.unit ∨ x.record.bogie ≠ x.bogie ∨ 1 < x.axle ∨
    x.record.profileId.num ≠ x.profileId ∨ x.record.condemning ≠ x.condemning)

/-- The place an ENROL chooses (R12, cases 2 and 3): that of the damaged record of its serial, or the lowest
free one. -/
def Store.enrolPlace (st : Store) (n : Nat) : Option Nat :=
  if st.enrolled n then st.placeOf n else st.freePlace

/-- A store request of a host command that changes the store copy of a serial: the read window is made invalid
for it and the request joins the FIFO (R16). -/
def State.enqueueChange (n : Nat) (r : Request) (s : State) : State := (s.spoilWindow n).enqueue r

/-- ENROL (R11, R12, R5). -/
def State.enrol (tag : Byte) (x : EnrolParams) (s : State) : Answered :=
  if !validSerial x.serial then s.refuse .noRecord
  else if !s.store.scanned then s.refuse .busy
  else if s.store.enrolled x.serial && (!s.store.marked x.serial || s.store.enrolQueued x.serial) then
    s.refuse .duplicate
  else
    match s.store.enrolPlace x.serial with
    | none => s.refuse .storeFull
    | some k =>
      if s.store.room 1 then
        ⟨s.enqueueChange x.serial (.enrol x.serial x.record k tag), adjustedIf x.changed, .none⟩
      else s.refuse .busy

/-- The changes an AMEND makes, clamped; a last radius with the absent value is made absent (R13). -/
def AmendParams.changes (x : AmendParams) : Changes :=
  let last (r : Int) : Option Int := if r = absentLength then none else some (clampRadius r)
  { unit := x.unit.map (clampNat 1 65535), bogie := x.bogie.map (clampNat 1 32), axle := x.axle.map axleOf,
    profileId := x.profileId.map clampProfile, condemning := x.condemning.map clampRadius, state := x.state,
    lastL := x.lastL.map last, lastR := x.lastR.map last }

/-- Whether clamping changed a field of an AMEND (R13). -/
def AmendParams.changed (x : AmendParams) : Bool :=
  (x.unit.any fun v => clampNat 1 65535 v ≠ v) || (x.bogie.any fun v => clampNat 1 32 v ≠ v) ||
    (x.axle.any fun v => decide (1 < v)) || (x.profileId.any fun v => decide (3 < v)) ||
    (x.condemning.any fun v => clampRadius v ≠ v) ||
    (x.lastL.any fun v => v ≠ absentLength && clampRadius v ≠ v) ||
    (x.lastR.any fun v => v ≠ absentLength && clampRadius v ≠ v)

/-- A record with the changes of an AMEND applied; the history and the sequence number are out of its reach
(R13). -/
def Record.amend (c : Changes) (r : Record) : Record :=
  { r with
    unit := c.unit.getD r.unit
    bogie := c.bogie.getD r.bogie
    axle := c.axle.getD r.axle
    profileId := c.profileId.getD r.profileId
    condemning := c.condemning.getD r.condemning
    state := c.state.getD r.state
    lastRadius := ⟨c.lastL.getD r.lastRadius.l, c.lastR.getD r.lastRadius.r⟩ }

/-- AMEND (R11, R13, R5). -/
def State.amend (tag : Byte) (x : AmendParams) (s : State) : Answered :=
  if !validSerial x.serial then s.refuse .noRecord
  else if !s.store.scanned then s.refuse .busy
  else
    match s.holder x.serial with
    | some i =>
      let sl := s.slot i
      if sl.state ≠ .openSlot then s.refuse .contextBusy
      else if sl.binding.isSome then s.refuse .bound
      else
        ⟨(s.setSlot i { sl with working := sl.working.map (Record.amend x.changes), dirty := true }).touchSlot i,
          adjustedIf x.changed, .none⟩
    | none =>
      if !s.store.enrolled x.serial then s.refuse .noRecord
      else if s.store.marked x.serial && !s.store.enrolQueued x.serial then s.refuse .recordDamaged
      else if s.store.room 1 then
        ⟨s.enqueueChange x.serial (.amend x.serial x.changes tag), adjustedIf x.changed, .none⟩
      else s.refuse .busy

/-- RETIRE (R11, R14, R5). -/
def State.retire (tag : Byte) (n : Nat) (s : State) : Answered :=
  if !validSerial n then s.refuse .noRecord
  else if !s.store.scanned then s.refuse .busy
  else if (s.holder n).isSome then s.refuse .recordOpen
  else if !s.store.enrolled n then s.refuse .noRecord
  else if s.store.room 1 then State.accept (s.enqueueChange n (.retire n tag))
  else s.refuse .busy

/-- The part of a record a READ RECORD returns, and whether its count was clamped (R15). -/
def RecordPart.answer (part : RecordPart) (n : Nat) (r : Record) : Answer :=
  match part with
  | .header => .header n r
  | .entries first count => .entries ((r.entries.drop first).take (clampNat 1 4 count))

/-- The reply code of a READ RECORD answered at once (R15). -/
def RecordPart.code : RecordPart → Code
  | .header => .ok
  | .entries _ count => adjustedIf (clampNat 1 4 count ≠ count)

/-- The record the read window holds for a serial, while it is valid (R16). -/
def ReadWindow.record (w : ReadWindow) (n : Nat) : Option Record :=
  if w.valid then (w.content.filter fun x => x.1 = n).map fun x => x.2 else none

/-- READ RECORD (R11, R15, R5). -/
def State.readRecord (tag : Byte) (x : Nat × RecordPart) (s : State) : Answered :=
  let n := x.1
  if !validSerial n then s.refuse .noRecord
  else if !s.store.scanned then s.refuse .busy
  else
    match s.holder n with
    | some i =>
      match (s.slot i).state, (s.slot i).working with
      | .openSlot, some r => ⟨s.touchSlot i, x.2.code, x.2.answer n r⟩
      | _, _ => s.refuse .contextBusy
    | none =>
      match s.store.window.record n with
      | some r => ⟨s, x.2.code, x.2.answer n r⟩
      | none =>
        if !s.store.enrolled n then s.refuse .noRecord
        else if s.store.marked n && !s.store.enrolQueued n then s.refuse .recordDamaged
        else if s.store.room 1 then ⟨s.enqueue (.read n tag), .deferred, .none⟩
        else s.refuse .busy

/-! ## Completions -/

/-- The place table as the header scan reads it: the header of every place, no mark set (R5). -/
def Store.scanTable (st : Store) : Cells TableItem :=
  st.places.filterMap fun x => x.2.header.map fun n => (x.1, ⟨some n, false⟩)

/-- The body read for a serial: the place that holds the serial, and its body when it passes its check (R4, R5, R6). -/
def Store.readBody (st : Store) (n : Nat) : Option (Nat × Option Record) :=
  (st.placeOf n).map fun k => (k, (st.place k).body)

/-- A place's damaged mark set or cleared (R5). -/
def Store.setMark (st : Store) (k : Nat) (b : Bool) : Store := st.setItem k { st.item k with damaged := b }

/-- A body rewritten whole in its place with a new check value, which clears the mark (R4, R5, R10). -/
def Store.rewrite (st : Store) (k : Nat) (r : Record) : Store :=
  (st.setPlace k ((st.place k).write r)).setMark k false

/-- The store of a state changed. -/
def State.mapStore (f : Store → Store) (s : State) : State := { s with store := f s.store }

/-- A READ that completes (R6, R15, R16, R17). The case of a place that is gone arises in no run (DESIGN CHOICE, log
entry 17). -/
def State.completeRead (n : Nat) (tag : Byte) (s : State) : State :=
  match s.store.readBody n with
  | some (_, some r) =>
    (s.mapStore fun st => { st with window := ⟨true, some (n, r)⟩ }).addStoreResult ⟨.read, n, tag, false⟩
  | some (k, none) => (s.mapStore fun st => st.setMark k true).addStoreResult ⟨.read, n, tag, true⟩
  | none => s.addStoreResult ⟨.read, n, tag, true⟩

/-- An ENROL that completes: the body, then the header (R12). -/
def State.completeEnrol (n : Nat) (r : Record) (k : Nat) (tag : Byte) (s : State) : State :=
  (s.mapStore fun st =>
    (st.setPlace k { (st.place k).write r with header := some n }).setItem k ⟨some n, false⟩).addStoreResult
    ⟨.enrol, n, tag, false⟩

/-- An AMEND that completes (R6, R13). The case of a place that is gone arises in no run (DESIGN CHOICE, log
entry 17). -/
def State.completeAmend (n : Nat) (c : Changes) (tag : Byte) (s : State) : State :=
  match s.store.readBody n with
  | some (k, some r) =>
    (s.mapStore fun st => st.rewrite k (r.amend c)).addStoreResult ⟨.amend, n, tag, false⟩
  | some (k, none) => (s.mapStore fun st => st.setMark k true).addStoreResult ⟨.amend, n, tag, true⟩
  | none => s.addStoreResult ⟨.amend, n, tag, true⟩

/-- A RETIRE that completes: the header is emptied and the mark cleared; the body is left (R14). -/
def State.completeRetire (n : Nat) (tag : Byte) (s : State) : State :=
  (match s.store.placeOf n with
   | some k => s.mapStore fun st => (st.setPlace k { st.place k with header := none }).setItem k TableItem.blank
   | none => s).addStoreResult ⟨.retire, n, tag, false⟩

/-! ## Meanings -/

/-- ENROL (R12). -/
def execEnrol (tag : Byte) (payload : List Byte) (s : State) : Host.Outcome State Fault Refusal :=
  .next (s.plainCommand 0x20 tag payload (enrolParams payload) (State.enrol tag))

/-- AMEND (R13). -/
def execAmend (tag : Byte) (payload : List Byte) (s : State) : Host.Outcome State Fault Refusal :=
  .next (s.plainCommand 0x21 tag payload (amendParams payload) (State.amend tag))

/-- RETIRE (R14). -/
def execRetire (tag : Byte) (payload : List Byte) (s : State) : Host.Outcome State Fault Refusal :=
  .next (s.plainCommand 0x22 tag payload (serialParam payload) (State.retire tag))

/-- READ_RECORD (R15). -/
def execReadRecord (tag : Byte) (payload : List Byte) (s : State) : Host.Outcome State Fault Refusal :=
  .next (s.plainCommand 0x23 tag payload (readRecordParams payload) (State.readRecord tag))

/-- HEADER_SCAN_COMPLETE (R5): the place table is built and the FIFO begins to be served. -/
def execHeaderScanComplete (s : State) : Host.Outcome State Fault Refusal :=
  .next
    (if s.store.scanned then s
     else (s.mapStore fun st => { st with scanned := true, table := st.scanTable }).serve)

/-- READ_COMPLETE (R16): the READ in service completes; with none in service nothing happens. -/
def execReadComplete (s : State) : Host.Outcome State Fault Refusal :=
  .next
    (match s.store.service with
     | some ⟨.read n tag, _⟩ => (s.completeRead n tag).endService
     | _ => s)

/-- ENROL_COMPLETE (R12). -/
def execEnrolComplete (s : State) : Host.Outcome State Fault Refusal :=
  .next
    (match s.store.service with
     | some ⟨.enrol n r k tag, _⟩ => (s.completeEnrol n r k tag).endService
     | _ => s)

/-- AMEND_COMPLETE (R13). -/
def execAmendComplete (s : State) : Host.Outcome State Fault Refusal :=
  .next
    (match s.store.service with
     | some ⟨.amend n c tag, _⟩ => (s.completeAmend n c tag).endService
     | _ => s)

/-- RETIRE_COMPLETE (R14). -/
def execRetireComplete (s : State) : Host.Outcome State Fault Refusal :=
  .next
    (match s.store.service with
     | some ⟨.retire n tag, _⟩ => (s.completeRetire n tag).endService
     | _ => s)

end Sys2Proof.Machine
end

