-- ==== Sys2Proof/Machine/Contexts.lean ====
section
/-! DEFINITION. Chapter 2: the Context Table. The meanings of OPEN, CLOSE, BIND, UNBIND, LOG_MEASUREMENT,
LOAD_COMPLETE and WRITE_COMPLETE. -/

namespace Sys2Proof.Machine

/-- The lowest-numbered FREE slot (R25, case 5). -/
def State.freeSlotIx (s : State) : Option Ix := Ix.all.find? fun i => (s.slot i).state = .free

/-- The victim: the OPEN slot with no binding whose recency rank is highest (R25, case 5). -/
def State.victim (s : State) : Option Ix :=
  Ix.all.foldl (fun best i =>
    if (s.slot i).state = .openSlot ∧ (s.slot i).binding = none then
      match best with
      | none => some i
      | some j => if (s.slot j).rank < (s.slot i).rank then some i else best
    else best) none

/-- A slot taken by an OPEN at once: LOADING, with the OPEN's serial, work order and requested binding, and a
LOAD joining the FIFO (R26). -/
def State.beginLoad (i : Ix) (x : OpenParams) (s : State) : State :=
  State.enqueue (.load x.serial i)
    ((s.setSlot i
      { Slot.free (s.slot i).rank with
        state := .loading, serial := some x.serial, workOrder := some x.workOrder, requested := x.requested }).touchSlot
      i)

/-- A dirty victim's slot: WRITING with the OPEN as its incoming, a WRITE of the victim joining or merging and
the LOAD joining behind it (R27). -/
def State.beginEviction (i : Ix) (n : Nat) (x : OpenParams) (s : State) : State :=
  State.enqueue (.load x.serial i)
    (State.queueWrite n i
      ((s.setSlot i
        { s.slot i with
          state := .writing, incoming := some ⟨x.serial, x.workOrder, x.requested⟩ }).touchSlot i))

/-- Whether a requested station is bound or requested already (R25, case 4). -/
def State.stationTaken (s : State) : Option Station → Bool
  | none => false
  | some st => (s.boundSlot st).isSome || s.stationRequested st

/-- Requests an eviction adds: a LOAD, and a WRITE that does not merge (R8, R25 case 6). -/
def Store.evictionRequests (st : Store) (n : Nat) : Nat := if st.writeWaiting n then 1 else 2

/-- Cases 5 to 7 of OPEN (R25): the slot chosen, the room in the FIFO, the acceptance. -/
def State.openInto (x : OpenParams) (code : Code) (s : State) : Answered :=
  match s.freeSlotIx with
  | some i =>
    if s.store.room 1 then ⟨s.beginLoad i x, code, .opened i none⟩ else s.refuse .busy
  | none =>
    match s.victim with
    | none => s.refuse .noSlot
    | some i =>
      if (s.slot i).dirty then
        let n := (s.slot i).serial.getD 0
        if s.store.room (s.store.evictionRequests n) then
          ⟨s.beginEviction i n x, code, .opened i (s.slot i).serial⟩
        else s.refuse .busy
      else if s.store.room 1 then ⟨s.beginLoad i x, code, .opened i (s.slot i).serial⟩
      else s.refuse .busy

/-- OPEN (R25): the cases in order. -/
def State.openRecord (x : OpenParams) (s : State) : Answered :=
  let wo := clampNat 1 999999 x.workOrder
  if !validSerial x.serial then s.refuse .noRecord
  else
    match s.holder x.serial with
    | some i =>
      if (s.slot i).state = .writing ∧ (s.slot i).serial = some x.serial then s.refuse .contextBusy
      else s.refuse .alreadyOpen
    | none =>
      if s.stationTaken x.requested then s.refuse .stationBound
      else s.openInto { x with workOrder := wo } (adjustedIf (wo ≠ x.workOrder))

/-- CLOSE (R30). -/
def State.closeRecord (n : Nat) (s : State) : Answered :=
  match s.holder n with
  | none => s.refuse .notOpen
  | some i =>
    let sl := s.slot i
    if sl.state ≠ .openSlot then s.refuse .contextBusy
    else if sl.binding.isSome then s.refuse .bound
    else if sl.dirty then
      if s.store.writeWaiting n || s.store.room 1 then
        State.accept (State.queueWrite n i ((s.setSlot i { sl with state := .writing, incoming := none }).touchSlot i))
      else s.refuse .busy
    else State.accept (s.freeSlot i)

/-- BIND (R31). -/
def State.bindStation (x : Nat × Station) (s : State) : Answered :=
  match s.holder x.1 with
  | none => s.refuse .notOpen
  | some i =>
    let sl := s.slot i
    if sl.state ≠ .openSlot then s.refuse .contextBusy
    else if sl.binding.isSome then s.refuse .bound
    else if (s.boundSlot x.2).isSome || s.stationRequested x.2 then s.refuse .stationBound
    else State.accept ((s.makeBinding i x.2).touchSlot i)

/-- UNBIND (R32). -/
def State.unbindStation (st : Station) (s : State) : Answered :=
  match s.boundSlot st with
  | none => s.refuse .wrongState
  | some i =>
    if s.lift.state = .down ∧ (s.cut st).state = .idle then
      State.accept
        (((s.setSlot i { s.slot i with binding := none, measurement := none }).touchSlot i).removePlan st)
    else s.refuse .wrongState

/-- A history entry made from a measurement record; its sequence number is given by the append (R2, R33,
R162). -/
def Measurement.entry (m : Measurement) (kind : EntryKind) (workOrder : Nat) : Entry :=
  { sequence := 0, kind := kind, workOrder := workOrder, verdict := m.verdict, wheels := m.wheels }

/-- LOG MEASUREMENT (R33). -/
def State.logMeasurement (st : Station) (s : State) : Answered :=
  match s.boundSlot st with
  | none => s.refuse .wrongState
  | some i =>
    let sl := s.slot i
    if (s.cut st).state ≠ .idle ∧ (s.cut st).state ≠ .stopped then s.refuse .wrongState
    else
      match sl.measurement, sl.working with
      | some m, some r =>
        match r.append (m.entry .measure (sl.workOrder.getD 0)) with
        | none => s.refuse .recordExhausted
        | some r1 =>
          let r2 := if m.verdict = .condemned then { r1 with state := .condemned } else r1
          State.accept ((s.setSlot i { sl with working := some r2, dirty := true }).touchSlot i)
      | _, _ => s.refuse .noMeasurement

/-! ## Completions -/

/-- A LOAD that completes with OK (R29): the record becomes the slot's working copy, the slot becomes OPEN and
clean, and a requested binding is made. -/
def State.loaded (n : Nat) (i : Ix) (r : Record) (s : State) : State :=
  let sl := s.slot i
  let s1 := s.setSlot i
    { sl with state := .openSlot, working := some r, dirty := false, measurement := none, requested := none }
  State.addContextResult i n .loaded
    (match sl.requested with
     | some st => s1.makeBinding i st
     | none => s1)

/-- A LOAD that completes (R6, R10, R29). -/
def State.completeLoad (n : Nat) (i : Ix) (s : State) : State :=
  match s.store.readBody n with
  | some (_, some r) => s.loaded n i r
  | some (k, none) =>
    State.addContextResult i n .recordDamaged ((s.mapStore fun st => st.setMark k true).freeSlot i)
  | none => State.addContextResult i n .noRecord (s.freeSlot i)

/-- The WRITE's effect on the store: the body of the place that holds the serial is rewritten (R10). -/
def Store.writeBody (st : Store) (n : Nat) (content : Option Record) : Store :=
  match st.placeOf n, content with
  | some k, some r => st.rewrite k r
  | _, _ => st

/-- Whether a WRITE for a slot is still waiting in the FIFO (R28). -/
def Store.slotWriteWaiting (st : Store) (i : Ix) : Bool :=
  st.waiting.any fun r => match r with
    | .write _ j => j = i
    | _ => false

/-- The end of a write-back (R28): the slot becomes LOADING its incoming record, or FREE. -/
def State.endWriteBack (n : Nat) (i : Ix) (s : State) : State :=
  let sl := s.slot i
  State.addContextResult i n .writtenBack
    (match sl.incoming with
     | some x =>
       s.setSlot i
         { Slot.free sl.rank with
           state := .loading, serial := some x.serial, workOrder := some x.workOrder, requested := x.requested }
     | none => s.freeSlot i)

/-- A WRITE that completes (R10, R28). -/
def State.completeWrite (n : Nat) (i : Ix) (content : Option Record) (s : State) : State :=
  let s1 := s.mapStore fun st => st.writeBody n content
  if (s.slot i).state = .writing ∧ (s.slot i).serial = some n ∧ s.store.slotWriteWaiting i = false then
    s1.endWriteBack n i
  else s1

/-! ## Meanings -/

/-- OPEN (R25). -/
def execOpen (tag : Byte) (payload : List Byte) (s : State) : Host.Outcome State Fault Refusal :=
  .next (s.plainCommand 0x28 tag payload (openParams payload) State.openRecord)

/-- CLOSE (R30). -/
def execClose (tag : Byte) (payload : List Byte) (s : State) : Host.Outcome State Fault Refusal :=
  .next (s.plainCommand 0x29 tag payload (serialParam payload) State.closeRecord)

/-- BIND (R31). -/
def execBind (tag : Byte) (payload : List Byte) (s : State) : Host.Outcome State Fault Refusal :=
  .next (s.plainCommand 0x2A tag payload (bindParams payload) State.bindStation)

/-- UNBIND (R32). -/
def execUnbind (tag : Byte) (payload : List Byte) (s : State) : Host.Outcome State Fault Refusal :=
  .next (s.plainCommand 0x2B tag payload (stationParam payload) State.unbindStation)

/-- LOG_MEASUREMENT (R33). -/
def execLogMeasurement (tag : Byte) (payload : List Byte) (s : State) : Host.Outcome State Fault Refusal :=
  .next (s.plainCommand 0x2C tag payload (stationParam payload) State.logMeasurement)

/-- LOAD_COMPLETE (R29): the LOAD in service completes; with none in service nothing happens. -/
def execLoadComplete (s : State) : Host.Outcome State Fault Refusal :=
  .next
    (match s.store.service with
     | some ⟨.load n i, _⟩ => (s.completeLoad n i).endService
     | _ => s)

/-- WRITE_COMPLETE (R28). -/
def execWriteComplete (s : State) : Host.Outcome State Fault Refusal :=
  .next
    (match s.store.service with
     | some ⟨.write n i, content⟩ => (s.completeWrite n i content).endService
     | _ => s)

end Sys2Proof.Machine
end

