-- ==== Sys2Proof/Machine/Measurement.lean ====
section
/-! DEFINITION. Chapter 8: the Measurement Engine, and the sibling search of chapter 1 that it waits for. The
meanings of MEASURE, READ_MEASUREMENT and SEARCH_COMPLETE, with the nine stages of the arithmetic. -/

namespace Sys2Proof.Machine

/-! ## MEASURE and READ MEASUREMENT (R126, R127, R144) -/

/-- Checks 5 to 7 of MEASURE at one station; a station that is not bound passes them (R126). -/
def State.captureRefusal (s : State) (st : Station) : Option Code :=
  match s.boundSlot st with
  | none => none
  | some i =>
    if (s.sweepOf st).state ≠ .done then some .noCapture
    else if !s.captureCurrent st then some .staleCapture
    else if ((s.slot i).working.map fun r => (s.setup.profiles.get r.profileId).state) ≠ some .complete then
      some .profileIncomplete
    else none

/-- The checks of MEASURE, in order: the first that fails (R126). -/
def State.measureRefusal (s : State) : Option Code :=
  if s.engine.run.isSome then some .busy
  else if !s.configured then some .notConfigured
  else if s.lift.state ≠ .raised then some .wrongState
  else if (s.boundSlot .a).isNone && (s.boundSlot .b).isNone then some .wrongState
  else
    match s.captureRefusal .a, s.captureRefusal .b with
    | some c, _ => some c
    | none, some c => some c
    | none, none => if s.store.room 1 then none else some .busy

/-- The run entry of a bound station (R125, R127). -/
def State.runEntry (s : State) (st : Station) : Option RunEntry :=
  (s.boundSlot st).map fun i =>
    { station := st, slot := i, serial := (s.slot i).serial.getD 0,
      unit := ((s.slot i).working.map fun r => r.unit).getD 0, rebound := false }

/-- The run number after a number: 65,535 is followed by 1 (R125). -/
def nextRun (n : Nat) : Nat := if n = 65535 then 1 else n + 1

/-- MEASURE (R126, R127). -/
def State.measure (s : State) : Answered :=
  match s.measureRefusal with
  | some c => s.refuse c
  | none =>
    let n := nextRun s.engine.runNumber
    let entries := [s.runEntry .a, s.runEntry .b].filterMap id
    let s1 : State :=
      { s with
        engine :=
          { s.engine with
            runNumber := n
            run := some { number := n, entries := entries, departed := false }
            delivered := ⟨false, false⟩ } }
    let search := Request.search (entries.map fun x => x.unit).dedup (entries.map fun x => x.serial)
    ⟨State.notify .measure (s1.enqueue search), .ok,
      .measure n ⟨(s.boundSlot .a).isSome, (s.boundSlot .b).isSome⟩⟩

/-- READ MEASUREMENT (R144). -/
def State.readMeasurement (st : Station) (s : State) : Answered :=
  match s.boundSlot st with
  | none => s.refuse .wrongState
  | some i =>
    match (s.slot i).measurement with
    | none => s.refuse .noMeasurement
    | some m =>
      ⟨s.touchSlot i, .ok,
        .measurement m (s.slot i).serial (s.measurementCurrent st m) (s.engine.run.map fun r => r.number)⟩

/-! ## The sibling search (R19, R20) -/

/-- The working copy a search takes in place of the store's: that of an OPEN or WRITING slot (R20). -/
def State.searchCopy (s : State) (n : Nat) : Option Record :=
  Ix.all.findSome? fun i =>
    let sl := s.slot i
    if (sl.state = .openSlot ∨ sl.state = .writing) ∧ sl.serial = some n then sl.working else none

/-- The serials the store holds, in order of place, each with its working copy or its body as read: none for a
body that failed its check (R19, R20). -/
def State.searched (s : State) : List (Nat × Option Record) :=
  s.store.table.filterMap fun x => x.2.serial.map fun n =>
    (n, match s.searchCopy n with
      | some r => some r
      | none => (s.store.place x.1).body)

/-- The item a record gives the sibling list, when it meets the conditions (R19). -/
def siblingItem (units bound : List Nat) (n : Nat) (r : Record) : Option SiblingItem :=
  match r.lastRadius.l, r.lastRadius.r with
  | some l, some q =>
    if r.unit ∈ units ∧ n ∉ bound ∧ r.state = .inService then
      some { serial := n, unit := r.unit, lastL := l, lastR := q }
    else none
  | _, _ => none

/-- The sibling list of a SEARCH (R19). -/
def State.siblingList (s : State) (units bound : List Nat) : List SiblingItem :=
  s.searched.filterMap fun x => x.2.bind fun r => siblingItem units bound x.1 r

/-- The damaged list of a SEARCH (R19). -/
def State.damagedList (s : State) : List Nat :=
  s.searched.filterMap fun x => if x.2.isNone then some x.1 else none

/-- The damaged marks a SEARCH sets: those of the places whose body it read and found failing (R6, R19;
DEDUCED, log entry 19). -/
def Store.markFailing (st : Store) : Store :=
  { st with
    table := st.table.map fun x =>
      if x.2.serial.isSome ∧ (st.place x.1).body.isNone then (x.1, { x.2 with damaged := true }) else x }

/-! ## Stages 1 and 2: the wheel parameters (R130 to R133) -/

/-- The radius a sample holds, if it is one. -/
def Sample.value : Sample → Option Int
  | .radius r => some r
  | .unset => none
  | .invalid => none

/-- The radius of a row at a lateral station, if it holds one there. -/
def rowValue (row : List Sample) (k : Nat) : Option Int := row[k]?.bind Sample.value

/-- The zone stations of a profile (section 8.3). -/
def Profile.zone (p : Profile) : List Nat := List.range' p.zoneFirst (p.zoneLast + 1 - p.zoneFirst)

/-- A row is usable (R130). -/
def Profile.usable (p : Profile) (row : List Sample) : Bool :=
  (rowValue row p.measuring).isSome && (p.zone.countP fun k => (rowValue row k).isNone) ≤ 4

/-- The usable rows of a wheel (R130). -/
def Profile.usableRows (p : Profile) (c : Area) : List (List Sample) :=
  ((List.range Config.angularStations).map c.row).filter p.usable

/-- The sample of a usable row at m. -/
def Profile.treadValue (p : Profile) (row : List Sample) : Int := (rowValue row p.measuring).getD 0

/-- The flange tip of the rest of a row that starts at lateral station `k`: the station and value of its
largest radius, the lowest such station among equals (R132). -/
def flangeTip (k : Nat) : List Sample → Option (Nat × Int)
  | [] => none
  | x :: rest =>
    match x.value, flangeTip (k + 1) rest with
    | some v, some (j, w) => if w ≤ v then some (k, v) else some (j, w)
    | some v, none => some (k, v)
    | none, t => t

/-- The walk down the flange flank from station `i`, whose sample is `v`, through the samples beyond it
(R133, steps 3 to 5). -/
def flankWalk (level : Int) (i : Nat) (v : Int) : List Sample → Option Int
  | [] => none
  | x :: rest =>
    match x.value with
    | none => none
    | some w =>
      if level ≤ w then flankWalk level (i + 1) w rest
      else some ((i : Int) * 1000 + (v - level) * 1000 / (v - w))

/-- The row flange height (R132). -/
def Profile.rowHeight (p : Profile) (row : List Sample) : Int :=
  match flangeTip 0 row with
  | some (_, v) => v - p.treadValue row
  | none => 0

/-- The row flange thickness at the height `h` above the tread; none when the row gives none (R133). -/
def Profile.rowThickness (p : Profile) (h : Int) (row : List Sample) : Option Int :=
  match flangeTip 0 row with
  | some (i, v) =>
    let level := p.treadValue row + h
    if v < level then none else flankWalk level i v (row.drop (i + 1))
  | none => none

/-- The largest and the smallest of a list of lengths; 0 for an empty list. -/
def largest (l : List Int) : Int := l.max?.getD 0
def smallest (l : List Int) : Int := l.min?.getD 0

/-- The stage 2 values of a wheel, from its usable rows (R131 to R133). -/
def Profile.wheelValues (p : Profile) (h : Int) (rows : List (List Sample)) : WheelValues :=
  let tread := rows.map p.treadValue
  let thick := rows.filterMap (p.rowThickness h)
  { before := some (floorMean tread)
    flangeHeight := some (floorMean (rows.map p.rowHeight))
    flangeThickness := if thick.isEmpty then none else some (floorMean thick)
    runout := some (largest tread - smallest tread) }

/-! ## Stages 3 to 5: fit radius, axle target and unit cap (R134 to R136) -/

/-- The samples of the zone of the usable rows that are radii, each less the offset of its station. -/
def Profile.zoneTerms (p : Profile) (rows : List (List Sample)) : List Int :=
  rows.flatMap fun row => p.zone.filterMap fun k => (rowValue row k).map fun v => v - p.offset k

/-- The fit radius of a wheel under the clean-up allowance `c` (R134). -/
def Profile.fitRadius (p : Profile) (c : Int) (rows : List (List Sample)) : Int :=
  roundDown10 (smallest ((p.zoneTerms rows).map fun x => x - c))

/-- The sibling value of an item: the smaller of its two last radii (R136). -/
def SiblingItem.value (x : SiblingItem) : Int := min x.lastL x.lastR

/-- The sibling values of a unit: their count, and the smallest and largest of them (R136). -/
def siblingsOf (items : List SiblingItem) (unit : Nat) : Siblings :=
  let values := (items.filter fun x => x.unit = unit).map SiblingItem.value
  { count := values.length, range := values.min?.bind fun lo => values.max?.map fun hi => (lo, hi) }

/-- The unit cap (R136): the target it leaves, and whether it sets UNIT_SPREAD. -/
def unitCap (target condemning unitBand : Int) (sib : Siblings) : Int × Bool :=
  match sib.range with
  | none => (target, false)
  | some (lo, _) =>
    let cap := roundDown10 (lo + unitBand)
    if cap < target then (if condemning ≤ cap then (cap, false) else (target, true)) else (target, false)

/-- A wheelset that has passed stage 5. -/
structure Wheelset where
  profile : Profile
  condemning : Int
  rows : Pair (List (List Sample))
  values : Pair WheelValues
  fit : Pair Int
  siblings : Siblings
  target : Int
  unitSpread : Bool
  deriving DecidableEq, Repr

/-- How far the arithmetic of stages 1 to 5 takes a run entry: STALE, INCOMPLETE by stage 1, INCOMPLETE by
stage 2, or a target. -/
inductive Gauged where
  | stale
  | fewRows (usable : Pair Nat)
  | noThickness (usable : Pair Nat) (values : Pair WheelValues)
  | targeted (w : Wheelset)
  deriving DecidableEq, Repr

/-- Stages 1 to 5 on a live wheelset (R130 to R136). -/
def gauge (cut : CutTable) (p : Profile) (r : Record) (areas : Pair Area) (items : List SiblingItem) : Gauged :=
  let rows := areas.map p.usableRows
  let usable := rows.map List.length
  if usable.l < 6 ∨ usable.r < 6 then .fewRows usable
  else
    let values := rows.map (p.wheelValues cut.flangeLevel)
    if values.l.flangeThickness.isNone ∨ values.r.flangeThickness.isNone then .noThickness usable values
    else
      let fit := rows.map (p.fitRadius cut.cleanUp)
      let sib := siblingsOf items r.unit
      let capped := unitCap (min fit.l fit.r) r.condemning cut.unitBand sib
      .targeted
        { profile := p, condemning := r.condemning, rows := rows, values := values, fit := fit, siblings := sib,
          target := capped.1, unitSpread := capped.2 }

/-! ## The re-check (R129) -/

/-- A run entry is live: not STALE by the re-check (R129). -/
def State.entryLive (s : State) (departed : Bool) (e : RunEntry) : Bool :=
  !departed && !e.rebound && (s.sweepOf e.station).state = .done && s.captureCurrent e.station

/-- A run entry gauged with the inputs as they stand (R129). A live entry without a working copy or a CUT table arises
in no run (DESIGN CHOICE, log entry 17). -/
def State.gaugeEntry (s : State) (departed : Bool) (items : List SiblingItem) (e : RunEntry) : Gauged :=
  match s.entryLive departed e, (s.slot e.slot).working, s.setup.cut with
  | true, some r, some cut =>
    gauge cut (s.setup.profiles.get r.profileId) r
      ⟨s.capture.areas.get (e.station.wheel .l).ix, s.capture.areas.get (e.station.wheel .r).ix⟩ items
  | _, _, _ => .stale

/-! ## Stages 6 to 9: bogie band, unit spread, verdict and removal (R137 to R140) -/

/-- The target a gauged wheelset has (R137). -/
def Gauged.target : Gauged → Option Int
  | .targeted w => some w.target
  | _ => none

/-- The target of a wheelset after the bogie band, beside the target of the other station (R137). -/
def bogieTarget (band target : Int) : Option Int → Int
  | some other => if other < target ∧ band < target - other then other + band else target
  | none => target

/-- The verdict of a wheelset that has passed stage 7 (R139). -/
def verdictOf (cut : CutTable) (condemning fitTarget target : Int) (values : Pair WheelValues) : Verdict :=
  let exceeds (w : WheelValues) : Bool :=
    cut.flangeHeightLimit < w.flangeHeight.getD 0 || w.flangeThickness.getD 0 < cut.flangeThicknessMin ||
      cut.runoutLimit < w.runout.getD 0
  if target < condemning then (if fitTarget < condemning then .condemned else .bogieLimit)
  else if exceeds values.l || exceeds values.r then .reprofile
  else .withinLimits

/-- The removal of a wheel to a target (R140). -/
def Profile.removal (p : Profile) (target : Int) (rows : List (List Sample)) : Int :=
  largest ((p.zoneTerms rows).map fun x => x - target)

/-- A measurement record with no values: what every verdict holds (R142). -/
def Measurement.bare (run : Nat) (epoch material : BitVec 32) (verdict : Verdict) : Measurement :=
  { run := run, epoch := epoch, material := material, stale := decide (verdict = .stale), verdict := verdict,
    advisories := Advisories.empty, usableRows := none,
    wheels := ⟨⟨none, none, none, none⟩, ⟨none, none, none, none⟩⟩, fitRadius := none, fitTarget := none,
    target := none, removal := none, siblings := none, cutUsed := none }

/-- Stages 6 to 9 on a wheelset with a target, beside the target of the other station (R137 to R140, R142). -/
def Wheelset.measurement (w : Wheelset) (cut : CutTable) (other : Option Int) (base : Verdict → Measurement) :
    Measurement :=
  let target := bogieTarget cut.bogieBand w.target other
  let fitTarget := min w.fit.l w.fit.r
  let below := match w.siblings.range with
    | some (_, hi) => decide (target < hi - cut.unitBand)
    | none => false
  { base (verdictOf cut w.condemning fitTarget target w.values) with
    advisories := ⟨w.unitSpread || below, other.isNone⟩
    usableRows := some (w.rows.map List.length)
    wheels := w.values
    fitRadius := some w.fit
    fitTarget := some fitTarget
    target := some target
    removal := some (max (w.profile.removal target w.rows.l) (w.profile.removal target w.rows.r))
    siblings := some w.siblings
    cutUsed := some (cut.cleanUp, cut.bogieBand) }

/-- The measurement record a gauged run entry gives (R142). One made INCOMPLETE by stage 2 holds the usable row counts
and its stage 2 values, and no clean-up allowance or bogie band: whether it holds those two R142 leaves open, and
leaving them absent is the model's choice (DESIGN CHOICE, unsafe; log entry 22). -/
def Gauged.measurement (g : Gauged) (cut : Option CutTable) (other : Option Int) (base : Verdict → Measurement) :
    Measurement :=
  match g, cut with
  | .fewRows usable, _ => { base .incomplete with usableRows := some usable }
  | .noThickness usable values, _ => { base .incomplete with usableRows := some usable, wheels := values }
  | .targeted w, some c => w.measurement c other base
  | _, _ => base .stale

/-! ## Delivery (R141) -/

/-- The target of the run entry at a station, if it has one (R137). -/
def targetAt (st : Station) (l : List (RunEntry × Gauged)) : Option Int :=
  (l.find? fun x => x.1.station = st).bind fun x => x.2.target

/-- The measurement record of a run entry (R142). -/
def State.entryRecord (s : State) (run : Nat) (all : List (RunEntry × Gauged)) (x : RunEntry × Gauged) :
    Measurement :=
  let w := (s.sweepOf x.1.station).run
  x.2.measurement s.setup.cut (targetAt x.1.station.other all)
    (Measurement.bare run ((w.map fun r => r.epoch).getD 0) ((w.map fun r => r.material).getD 0))

/-- Whether a run entry's result is delivered: its slot still holds the serial in OPEN, bound to its station,
and its rebound mark is clear (R141, step 1). -/
def State.delivers (s : State) (e : RunEntry) : Bool :=
  let sl := s.slot e.slot
  decide (sl.state = .openSlot) && decide (sl.serial = some e.serial) && decide (sl.binding = some e.station) &&
    !e.rebound

/-- One result delivered or dropped (R141, step 1). -/
def State.deliver (s : State) (x : RunEntry × Measurement) : State :=
  if s.delivers x.1 then
    { s.setSlot x.1.slot { s.slot x.1.slot with measurement := some x.2 } with
      engine := { s.engine with delivered := s.engine.delivered.set x.1.station true } }
  else s

/-- The results of a run delivered, in the order of R141. -/
def State.deliverRun (r : Run) (items : List SiblingItem) (s : State) : State :=
  let all := r.entries.map fun e => (e, s.gaugeEntry r.departed items e)
  let records := all.map fun x => (x.1, s.entryRecord r.number all x)
  let s1 := ((records.foldl State.deliver s).removeIdlePlan .a).removeIdlePlan .b
  State.notify .measure { s1 with engine := { s1.engine with run := none } }

/-- A SEARCH that completes (R19, R129, R141): the marks are set, the last search summary is replaced, and the
run's results are computed and delivered. -/
def State.completeSearch (units bound : List Nat) (s : State) : State :=
  let items := s.siblingList units bound
  let damaged := s.damagedList
  let s1 := s.mapStore Store.markFailing
  match s.engine.run with
  | none => s1
  | some r =>
    let summary : SearchSummary := ⟨r.number, items.length, damaged.length, damaged.take 8⟩
    State.deliverRun r items { s1 with engine := { s1.engine with lastSearch := some summary } }

/-! ## Meanings -/

/-- MEASURE (R127). -/
def execMeasure (tag : Byte) (payload : List Byte) (s : State) : Host.Outcome State Fault Refusal :=
  .next (s.plainCommand 0x50 tag payload (noParams payload) fun _ => State.measure)

/-- READ_MEASUREMENT (R144). -/
def execReadMeasurement (tag : Byte) (payload : List Byte) (s : State) : Host.Outcome State Fault Refusal :=
  .next (s.plainCommand 0x51 tag payload (stationParam payload) State.readMeasurement)

/-- SEARCH_COMPLETE (R19): the SEARCH in service completes; with none in service nothing happens. -/
def execSearchComplete (s : State) : Host.Outcome State Fault Refusal :=
  .next
    (match s.store.service with
     | some ⟨.search units bound, _⟩ => (s.completeSearch units bound).endService
     | _ => s)

end Sys2Proof.Machine
end

