-- ==== Sys2Proof/Machine/Cutting.lean ====
section
/-! DEFINITION. Chapter 10: the Cutting Stations. The meanings of CUT_START, FEED_HOLD, RESUME, CUT_ABORT,
TOOL_POSITION_REPORT, TOOL_APPROACH_ARRIVAL, TOOL_BACKOFF_ARRIVAL and REVOLUTION_PULSE. -/

namespace Sys2Proof.Machine

/-! ## CUT START (R161, R162) -/

/-- Checks 1 to 8 of CUT START, in order: the first that fails (R161). -/
def State.cutRefusal (s : State) (st : Station) : Option Code :=
  if (s.probe st).calMode then some .calibrationMode
  else if !s.configured then some .notConfigured
  else if (s.cut st).state ≠ .idle then some .wrongState
  else if (s.sweepOf st).state.onStation then some .wrongState
  else if s.lift.state ≠ .raised then some .wrongState
  else if (s.boundSlot st).isNone then some .wrongState
  else if s.levelOwed then some .levelPending
  else if !(s.level? .guardClosed && s.level? st.holddown) then some .interlock
  else none

/-- The plan CUT START finds: one not in execution and in force (R154). -/
def State.startPlan (s : State) (st : Station) : Option Plan :=
  (s.plan st).filter fun p => !p.inExecution && s.planInForce st p

/-- Checks 9 to 12 of CUT START, in order, with the plan they find (R161). -/
def State.cutPlan (s : State) (st : Station) (i : Ix) (accept : Bool) : Except Code Plan :=
  match s.startPlan st with
  | none => .error .noPlan
  | some p =>
    if p.advisories ≠ Advisories.empty ∧ accept = false then .error .advisoryNotAccepted
    else if ((s.slot i).working.map fun r => r.state) = some .condemned then .error .verdictForbids
    else if ((s.slot i).working.bind fun r => r.nextSequence).isNone then .error .recordExhausted
    else .ok p

/-- The record of a cut that starts: the IN_PROGRESS entry appended and both last radii absent (R162, step 4). -/
def Record.beginCut (e : Entry) (r : Record) : Record :=
  { (r.append e).getD r with lastRadius := ⟨none, none⟩ }

/-- The IN_PROGRESS CUT entry of a cut that starts (R162, step 4). -/
def Slot.cutEntry (sl : Slot) (planned : Nat) : Entry :=
  let kind := EntryKind.cut ⟨⟨none, none⟩, planned, 0, .inProgress⟩
  match sl.measurement with
  | some m => m.entry kind (sl.workOrder.getD 0)
  | none => (Measurement.bare 0 0 0 .incomplete).entry kind (sl.workOrder.getD 0)

/-- The effect of an accepted CUT START, in the steps of R162. -/
def State.startCut (st : Station) (i : Ix) (p : Plan) (s : State) : State :=
  let sl := s.slot i
  let x := s.cut st
  let s1 := s.putPlan st (some { p with inExecution := true, passIndex := 1 })
  let s2 := s1.putCut st
    { x with
      material := x.material + 1
      completed := 0
      begun := false
      entered := false
      preCut := sl.working.map fun r => ⟨r.lastRadius, r.entries⟩ }
  let s3 := s2.rewriteBound st (Record.beginCut (sl.cutEntry p.passes.length))
  let s4 := (s3.driveRoller st .turning).putCut st { s3.cut st with state := .approach }
  (s4.driveApproach st).touchStation st

/-- CUT START (R161, R162). -/
def State.cutStart (x : Station × Bool) (s : State) : Answered :=
  match s.cutRefusal x.1, s.boundSlot x.1 with
  | some c, _ => s.refuse c
  | none, none => s.refuse .wrongState
  | none, some i =>
    match s.cutPlan x.1 i x.2 with
    | .error c => s.refuse c
    | .ok p => State.accept (s.startCut x.1 i p)

/-! ## FEED HOLD, RESUME and CUT ABORT (R168, R169, R172, R174) -/

/-- A station that FEED HOLD reaches (R168). -/
def CutState.holdable : CutState → Bool
  | .approach => true
  | .cutting => true
  | .holding => true
  | .held => true
  | _ => false

/-- FEED HOLD (R168). -/
def State.feedHold (st : Station) (s : State) : Answered :=
  if (s.cut st).state.holdable then State.accept ((s.giveCause .host st).touchStation st) else s.refuse .wrongState

/-- The hold cause set an accepted RESUME leaves: HOST, SILENCE, LIFT and GUARD are removed (R169). -/
def CutCauses.resumed (h : CutCauses) : CutCauses := { CutCauses.empty with level := h.level }

/-- RESUME (R169, R170). -/
def State.resumeCut (st : Station) (s : State) : Answered :=
  let x := s.cut st
  if x.state ≠ .holding ∧ x.state ≠ .held then s.refuse .wrongState
  else if s.lift.state ≠ .raised then s.refuse .causePresent
  else if !s.level? .guardClosed then s.refuse .causePresent
  else if s.levelOwed then s.refuse .levelPending
  else State.accept (((s.putCut st { x with holds := x.holds.resumed }).leaveHeld st).touchStation st)

/-- CUT ABORT (R172, R174): the departure from a state in work is handed to Level Maintenance. -/
def State.cutAbort (st : Station) (s : State) : Answered :=
  match (s.cut st).state with
  | .approach => State.accept ((s.enterAborting .cut st).testStart.touchStation st)
  | .cutting => State.accept ((s.enterAborting .cut st).testStart.touchStation st)
  | .holding => State.accept ((s.enterAborting .cut st).testStart.touchStation st)
  | .held => State.accept ((s.enterAborting .cut st).touchStation st)
  | .aborting => State.accept (s.touchStation st)
  | .stopped =>
    if s.level? .estopOk then State.accept ((s.enterAborting .recovery st).touchStation st)
    else s.refuse .causePresent
  | .idle => s.refuse .wrongState
  | .retract => s.refuse .wrongState

/-! ## Reports, arrivals and pulses (R163, R164, R167, R170) -/

/-- A position report of the tool carriage (R167, R173: 'last reported'). -/
def State.reportTool (st : Station) (lateral radius : Int) (s : State) : State :=
  s.putCut st { s.cut st with toolLateral := lateral, toolRadius := radius }

/-- The feed of the pass at the plan's pass index (R163). -/
def State.driveFeed (st : Station) (s : State) : State :=
  match s.plan st, s.passRadius st with
  | some p, some radius => s.driveTool st (.feed (lateralPosition p.zoneLast) p.feed radius)
  | _, _ => s

/-- The in-position event of the tool carriage at the approach position (R163); it is taken only in
APPROACH. -/
def State.approachArrives (st : Station) (s : State) : State :=
  let x := s.cut st
  if x.state = .approach then
    let turns := ((s.plan st).map fun p => p.revolutions).getD 0
    State.driveFeed st
      (s.putCut st
        { x with
          state := .cutting
          counter := if x.begun then x.counter else turns
          loaded := if x.begun then x.loaded else turns
          begun := true
          entered := true })
  else s

/-- The in-position event of the tool carriage clear of the wheel (R167, R170); it is taken only in HOLDING. -/
def State.backoffArrives (st : Station) (s : State) : State :=
  let x := s.cut st
  if x.state = .holding then
    let s1 := (s.driveRoller st .stop).putCut st { x with state := .held }
    if x.holds = CutCauses.empty then s1.leaveHeld st else s1.testStart
  else s

/-- The end of a pass handed to the Plan Table (R155, R164): the next pass, or RETRACT after the last. -/
def State.endPass (st : Station) (s : State) : State :=
  let x : CutStation := { s.cut st with counter := 0, begun := false, completed := (s.cut st).completed + 1 }
  match s.plan st with
  | some p =>
    if p.passIndex < p.passes.length then
      ((s.putPlan st (some { p with passIndex := p.passIndex + 1 })).putCut st { x with state := .approach }).driveApproach
        st
    else (((s.putCut st { x with state := .retract }).sendHome st).testHome st).testStart
  | none => (((s.putCut st { x with state := .retract }).sendHome st).testHome st).testStart

/-- A revolution pulse (R164): it counts only in CUTTING. -/
def State.pulse (st : Station) (s : State) : State :=
  let x := s.cut st
  if x.state = .cutting then
    if x.counter ≤ 1 then s.endPass st else s.putCut st { x with counter := x.counter - 1 }
  else s

/-! ## Meanings -/

/-- CUT_START (R162). -/
def execCutStart (tag : Byte) (payload : List Byte) (s : State) : Host.Outcome State Fault Refusal :=
  .next (s.plainCommand 0x60 tag payload (cutStartParams payload) State.cutStart)

/-- FEED_HOLD (R168). -/
def execFeedHold (tag : Byte) (payload : List Byte) (s : State) : Host.Outcome State Fault Refusal :=
  .next (s.plainCommand 0x61 tag payload (stationParam payload) State.feedHold)

/-- RESUME (R169). -/
def execResume (tag : Byte) (payload : List Byte) (s : State) : Host.Outcome State Fault Refusal :=
  .next (s.plainCommand 0x62 tag payload (stationParam payload) State.resumeCut)

/-- CUT_ABORT (R172). -/
def execCutAbort (tag : Byte) (payload : List Byte) (s : State) : Host.Outcome State Fault Refusal :=
  .next (s.plainCommand 0x63 tag payload (stationParam payload) State.cutAbort)

/-- TOOL_POSITION_REPORT (R167). -/
def execToolPositionReport (st : Station) (lateral radius : Int) (s : State) :
    Host.Outcome State Fault Refusal := .next (s.reportTool st lateral radius)

/-- TOOL_APPROACH_ARRIVAL (R163). -/
def execToolApproachArrival (st : Station) (s : State) : Host.Outcome State Fault Refusal :=
  .next (s.approachArrives st)

/-- TOOL_BACKOFF_ARRIVAL (R167). -/
def execToolBackoffArrival (st : Station) (s : State) : Host.Outcome State Fault Refusal :=
  .next (s.backoffArrives st)

/-- REVOLUTION_PULSE (R164). -/
def execRevolutionPulse (st : Station) (s : State) : Host.Outcome State Fault Refusal := .next (s.pulse st)

end Sys2Proof.Machine
end

