-- ==== Sys2Proof/Machine/Snapshot.lean ====
section
/-! DEFINITION. The content of each notice source as its owner's state stands (R58, R76, R82, R105, R122, R145,
R157, R175, R188, R36), which a notice carries when its frame starts (R185) and STATUS returns at any time
(R187). -/

namespace Sys2Proof.Machine

/-- The LIFT snapshot (R58, R76). -/
def State.liftSnap (s : State) : LiftSnap :=
  { state := s.lift.state, holds := s.lift.holds, fault := s.lift.fault, interrupted := s.lift.interrupted,
    move := s.lift.move,
    points := s.lift.points.map fun p => ⟨p.position, p.demand, p.valve, p.paused, p.arrived⟩,
    backlog := s.level.backlog, epoch := s.level.epoch, relevel := s.level.relevel, urgent := s.level.urgent,
    parkStep := s.level.parkStep, dwell := s.level.dwell, unparkPending := s.level.unparkPending,
    lockRaised := s.level.lockRaised, relief := s.level.relief,
    intervalRunning := decide (s.level.interval ≠ .stopped) }

/-- The STATION snapshot of a station; a lapsed plan is reported as none (R175, R157). -/
def State.stationSnap (s : State) (st : Station) : StationSnap :=
  let x := s.cut st
  { state := x.state, holds := x.holds, counter := x.counter, loaded := x.loaded, begun := x.begun,
    entered := x.entered, completed := x.completed, abortKind := x.abortKind, material := x.material,
    plan := s.planOf st }

/-- The CAPTURE snapshot of a station; without a window the counts are taken over the whole area (R122). -/
def State.captureSnap (s : State) (st : Station) : CaptureSnap :=
  let w := s.sweepOf st
  let first := (w.run.map fun r => r.first).getD 0
  let last := (w.run.map fun r => r.last).getD (Config.lateralStations - 1)
  { sweep := w, current := s.captureCurrent st,
    counts :=
      ⟨Area.count (s.capture.areas.get (st.wheel .l).ix) first last,
        Area.count (s.capture.areas.get (st.wheel .r).ix) first last⟩ }

/-- The calibration measure with its count. -/
def CalMeasure.snap : CalMeasure → Option (Option Nat)
  | .none => Option.none
  | .toRing => some Option.none
  | .reading l => some (some l.length)

/-- The PROBE snapshot of a station (R105). -/
def State.probeSnap (s : State) (st : Station) : ProbeSnap :=
  let p := s.probe st
  { state := p.state, base := p.base, correction := p.correction, calibrated := p.calibrated,
    calMode := p.calMode, calFault := p.calFault, measure := p.measure.snap, refOutcome := p.refOutcome,
    result := p.result }

/-- One station of the MEASURE snapshot (R145). -/
def State.measureStation (s : State) (st : Station) : MeasureStation :=
  { delivered := s.engine.delivered.get st,
    serial := (s.boundSlot st).bind fun i => (s.slot i).serial,
    item := ((s.boundSlot st).bind fun i => (s.slot i).measurement).map fun m =>
      ⟨m.verdict, m.advisories, m.fitTarget, m.target, m.removal, s.measurementCurrent st m⟩ }

/-- The MEASURE snapshot (R145). -/
def State.measureSnap (s : State) : MeasureSnap :=
  { measuring := s.engine.run.isSome, runNumber := s.engine.runNumber, lastSearch := s.engine.lastSearch,
    stations := ⟨s.measureStation .a, s.measureStation .b⟩ }

/-- A slot as the CONTEXT snapshot shows it (R36). -/
def Slot.snap (sl : Slot) : SlotSnap :=
  { state := sl.state, serial := sl.serial, incoming := sl.incoming.map fun x => x.serial,
    binding := sl.binding,
    requested := match sl.incoming with
      | some x => x.requested
      | none => sl.requested
    workOrder := sl.workOrder, dirty := sl.dirty, rank := sl.rank }

/-- The CONTEXT snapshot (R36, R18). -/
def State.contextSnap (s : State) : ContextSnap :=
  { slots := s.context.slots.map Slot.snap, results := s.context.results, resultsLost := s.context.resultsLost,
    storeResults := s.store.results, storeResultsLost := s.store.resultsLost }

/-- The LINK snapshot (R188). -/
def State.linkSnap (s : State) : LinkSnap :=
  { flags := s.link.flags, restarted := s.link.restarted, breakOn := s.link.breakOn,
    supervisor := s.link.supervisor, timeout := s.link.timeout,
    mask := Source.all.map fun src => (s.notices.get src).masked, rate := s.link.rate,
    queued := s.link.queue.length, holding := s.link.holding.isSome }

/-- The content a source's snapshot holds as the state stands (R185, R187). -/
def State.content (s : State) : Source → Content
  | .lift => .lift s.liftSnap
  | .interlock => .interlock (s.inputs.map fun x => ⟨x.accepted, x.latch⟩)
  | .stationA => .station (s.stationSnap .a)
  | .stationB => .station (s.stationSnap .b)
  | .captureA => .capture (s.captureSnap .a)
  | .captureB => .capture (s.captureSnap .b)
  | .probeA => .probe (s.probeSnap .a)
  | .probeB => .probe (s.probeSnap .b)
  | .measure => .measure s.measureSnap
  | .context => .context s.contextSnap
  | .link => .link s.linkSnap

/-- What taking a snapshot does to its source's owner: the INTERLOCK latches are cleared, the CONTEXT result
lists and their indications emptied, the LINK restarted indication cleared (R18, R36, R82, R185, R188). -/
def State.snapshotTaken (s : State) : Source → State
  | .interlock => s.clearLatches
  | .context =>
    { s with
      context := { s.context with results := [], resultsLost := false }
      store := { s.store with results := [], resultsLost := false } }
  | .link => { s with link := { s.link with restarted := false } }
  | _ => s

end Sys2Proof.Machine
end

