-- ==== Sys2Proof/Machine/HostLink.lean ====
section
/-! DEFINITION. Chapter 11: the host link. The meanings of STATUS, SET_LINK, UNKNOWN_KIND, FRAME_ACCEPTED,
RECEIVE_GAP, BREAK_START, BREAK_END, SILENCE_EXPIRY, HOST_READY_CHANGE, REPLY_FRAME_START, NOTICE_FRAME_START and
FRAME_END. -/

namespace Sys2Proof.Machine

/-! ## Commands of the link (R186, R187) -/

/-- STATUS (R187). -/
def State.status (n : Nat) (s : State) : Answered :=
  match sourceOf n with
  | none => s.refuse .wrongState
  | some src => ⟨s, .ok, .content (s.content src)⟩

/-- What waits in a source's owner for the source to be unmasked: an INTERLOCK latch, or an item of a CONTEXT
result list (R186). -/
def State.waiting (s : State) : Source → Bool
  | .interlock => s.anyLatch
  | .context => !s.context.results.isEmpty || !s.store.results.isEmpty
  | _ => false

/-- The notice table under a new mask, whose members stand in the order of R184 (R186). -/
def State.remasked (s : State) (mask : List Bool) : Notices :=
  (Source.all.zip mask).foldl (fun n x => n.set x.1 ((n.get x.1).remask x.2 (s.waiting x.1))) s.notices

/-- SET LINK (R186). Bits of the mask that name no source are not read (DEDUCED, log entry 14). -/
def State.setLink (x : Nat × List Bool) (s : State) : Answered :=
  let timeout := clampNat 1 60 x.1
  { state := { s with link := { s.link with timeout := timeout }, notices := s.remasked x.2 }
    code := adjustedIf (timeout ≠ x.1)
    answer := .none }

/-- A frame whose kind is no command code, taken when it can be and otherwise accepted to wait: its reply is
sent under kind 0xFF with UNKNOWN_KIND, and no owner is reached (R181, check 1). -/
def State.unknownFrame (kind tag : Byte) (payload : List Byte) (s : State) : State :=
  match s.takeFrame ⟨kind, tag, payload⟩ with
  | none => s.acceptFrame ⟨kind, tag, payload⟩
  | some s1 => s1.putReply ⟨0xFF, tag, .unknownKind, .none⟩

/-! ## Receiving (R178, R180) -/

/-- A gap of more than 20 character times within a frame (R178). -/
def State.receiveGapOf (s : State) : State :=
  match s.link.assembler with
  | .hunting => s
  | .assembling _ =>
    { s with link := { s.link with assembler := .hunting, flags := s.link.flags.setDamaged } }

/-! ## Silence supervision (R183) -/

/-- The expiry handed to the Lift Group, to the stations and to Capture Memory, whose departures from motion
are handed on to Level Maintenance (R183). -/
def State.silenceEffects (s : State) : State :=
  let s1 := s.giveLiftCause .silence
  let s2 := (s1.giveCause .silence .a).giveCause .silence .b
  ((s2.pauseSweep .silence .a).pauseSweep .silence .b).testStart

/-- The expiry of the silence supervisor, while it runs (R183). -/
def State.silenceExpires (s : State) : State :=
  match s.link.supervisor with
  | .running _ =>
    State.silenceEffects
      (State.notify .link { s with link := { s.link with supervisor := .expired, flags := s.link.flags.setSilence } })
  | _ => s

/-! ## Transmitting (R182, R184, R185) -/

/-- A frame may start: none is being sent, and HOST_READY is asserted (R184). A start that may not be leaves the state
as it is (DESIGN CHOICE, log entry 10). -/
def Link.mayStart (l : Link) : Bool := l.sending.isNone && l.hostReady

/-- The start of a reply frame (R182, R184): the link flags are written into it and cleared. -/
def State.startReply (s : State) : State :=
  match s.link.mayStart, s.link.reply with
  | true, some r =>
    { s with
      link := { s.link with sending := some (.reply (r.frame s.link.flags)), flags := LinkFlags.clear } }
  | _, _ => s

/-- The source whose notice starts next: none while a reply waits in the reply slot (R184). -/
def State.nextNotice (s : State) : Option Source :=
  if s.link.mayStart && s.link.reply.isNone then s.notices.first else none

/-- The start of a notice frame (R184, R185): the snapshot is taken with its owner's effects, and the source
stops being pending. -/
def State.startNotice (s : State) : State :=
  match s.nextNotice with
  | none => s
  | some src =>
    let c := s.content src
    let s1 := s.snapshotTaken src
    { s1 with
      notices := s1.notices.taken src
      link := { s1.link with sending := some (.notice src c (c.frame src)) } }

/-- The end of the frame being sent (R181, R184): a reply leaves the reply slot. -/
def State.endFrame (s : State) : State :=
  match s.link.sending with
  | some (.reply _) => { s with link := { s.link with sending := none, reply := none } }
  | some (.notice _ _ _) => { s with link := { s.link with sending := none } }
  | none => s

/-! ## Meanings -/

/-- STATUS (R187). -/
def execStatus (tag : Byte) (payload : List Byte) (s : State) : Host.Outcome State Fault Refusal :=
  .next (s.plainCommand 0x01 tag payload (statusParams payload) State.status)

/-- SET_LINK (R186). -/
def execSetLink (tag : Byte) (payload : List Byte) (s : State) : Host.Outcome State Fault Refusal :=
  .next (s.plainCommand 0x02 tag payload (setLinkParams payload) State.setLink)

/-- UNKNOWN_KIND (R181). A frame whose kind is a command's is not this row's (WellFormed) and changes
nothing. -/
def execUnknownKind (kind tag : Byte) (payload : List Byte) (s : State) : Host.Outcome State Fault Refusal :=
  .next (if kind ∈ commandKinds then s else s.unknownFrame kind tag payload)

/-- FRAME_ACCEPTED (R178): bytes received on RXD in order, through the assembler to the command queue
(DESIGN CHOICE, log entry 18). -/
def execFrameAccepted (received : List Byte) (s : State) : Host.Outcome State Fault Refusal :=
  .next (received.foldl State.receiveByte s)

/-- RECEIVE_GAP (R178). -/
def execReceiveGap (s : State) : Host.Outcome State Fault Refusal := .next s.receiveGapOf

/-- BREAK_START (R180). -/
def execBreakStart (s : State) : Host.Outcome State Fault Refusal := .next (s.breakEdge true)

/-- BREAK_END (R180). -/
def execBreakEnd (s : State) : Host.Outcome State Fault Refusal := .next (s.breakEdge false)

/-- SILENCE_EXPIRY (R183). -/
def execSilenceExpiry (s : State) : Host.Outcome State Fault Refusal := .next s.silenceExpires

/-- HOST_READY_CHANGE (R184). -/
def execHostReadyChange (level : Bool) (s : State) : Host.Outcome State Fault Refusal :=
  .next { s with link := { s.link with hostReady := level } }

/-- REPLY_FRAME_START (R184). -/
def execReplyFrameStart (s : State) : Host.Outcome State Fault Refusal := .next s.startReply

/-- NOTICE_FRAME_START (R184). -/
def execNoticeFrameStart (s : State) : Host.Outcome State Fault Refusal := .next s.startNotice

/-- FRAME_END (R184). -/
def execFrameEnd (s : State) : Host.Outcome State Fault Refusal := .next s.endFrame

end Sys2Proof.Machine
end

