-- ==== Sys2Proof/Machine/Interlocks.lean ====
section
/-! DEFINITION. Chapter 5: the debounce filters and the accepted changes of the interlock inputs. The meanings
of INPUT_CHANGE and DEBOUNCE_EXPIRY. -/

namespace Sys2Proof.Machine

/-- The debounce time at this moment, in ms (R80). -/
def State.debounceMs (s : State) : Nat :=
  match s.setup.pit with
  | some pit => pit.debounce
  | none => Config.defaultDebounceMs

/-- The state with one input replaced. -/
def State.putInput (i : Input) (x : InputState) (s : State) : State := { s with inputs := s.inputs.set i x }

/-- A raw level taken by the filter (R79): the timer starts when the level comes to differ from the accepted
level with the timer stopped, and stops when it returns. -/
def InputState.rawChange (x : InputState) (level : Bool) (debounce : Nat) : InputState :=
  { x with
    raw := level
    timer :=
      if level = x.accepted then .stopped
      else
        match x.timer with
        | .stopped => .running debounce
        | t => t }

/-- An accepted change of an input: the raw level becomes the accepted level, the timer stops, the latch is
set and INTERLOCK becomes pending (R79, R81). -/
def State.acceptLevel (i : Input) (s : State) : State :=
  let x := s.inputs.get i
  State.notify .interlock (s.putInput i { x with accepted := x.raw, timer := .stopped, latch := true })

/-- An accepted fall of ESTOP_OK (R85), handed to the Lift Group first, then to the stations and to Capture
Memory (DESIGN CHOICE, log entry 6). -/
def State.estopFalls (s : State) : State :=
  let s1 := s.giveLiftCause .estop
  let s2 := (s1.stopStation .a).stopStation .b
  ((s2.abandonSweep .a).abandonSweep .b).testStart

/-- An accepted fall of GUARD_CLOSED (R87). -/
def State.guardFalls (s : State) : State :=
  let s1 := (s.giveCause .guard .a).giveCause .guard .b
  ((s1.pauseSweep .guard .a).pauseSweep .guard .b).testStart

/-- An accepted fall of HOLDDOWN_x: the station is aborted as by CUT ABORT (R88, R172). -/
def State.holddownFalls (st : Station) (s : State) : State :=
  match (s.cut st).state with
  | .approach => (s.enterAborting .cut st).testStart
  | .cutting => (s.enterAborting .cut st).testStart
  | .holding => (s.enterAborting .cut st).testStart
  | .held => s.enterAborting .cut st
  | _ => s

/-- An accepted fall of LOCKS_ENGAGED (R75): the locks are lost in PARKED and in PRESSURE_WAIT, and it ends
RELEASE_WAIT. -/
def State.locksFall (s : State) : State :=
  match s.lift.state with
  | .parked => s.enterFault .lockLost
  | .unparking => if s.level.parkStep = some .pressureWait then s.enterFault .lockLost else s.testRelease
  | _ => s

/-- An accepted change handed to the blocks it concerns, by its input and direction (R85 to R90). -/
def State.handOut (i : Input) (rise : Bool) (s : State) : State :=
  match i, rise with
  | .estopOk, false => s.estopFalls
  | .pressureOk, false => s.giveLiftCause .pressure
  | .pressureOk, true => s.testPressure
  | .guardClosed, false => s.guardFalls
  | .bridgeAOut, _ => s.testBridges
  | .bridgeBOut, _ => s.testBridges
  | .holddownA, false => s.holddownFalls .a
  | .holddownB, false => s.holddownFalls .b
  | .toolhomeA, false => s.giveLiftCause .precondition
  | .toolhomeB, false => s.giveLiftCause .precondition
  | .toolhomeA, true => s.testHome .a
  | .toolhomeB, true => s.testHome .b
  | .probeParkedA, false => s.giveLiftCause .precondition
  | .probeParkedB, false => s.giveLiftCause .precondition
  | .locksEngaged, false => s.locksFall
  | .locksEngaged, true => s.testEngage
  | .estopOk, true => s
  | .guardClosed, true => s
  | .holddownA, true => s
  | .holddownB, true => s
  | .probeParkedA, true => s
  | .probeParkedB, true => s

/-- The expiry of an input's debounce timer, while it runs (R79, R81). -/
def State.debounceExpires (i : Input) (s : State) : State :=
  match (s.inputs.get i).timer with
  | .stopped => s
  | .running _ => (s.acceptLevel i).handOut i (s.inputs.get i).raw

/-! ## Meanings -/

/-- INPUT_CHANGE (R79). -/
def execInputChange (i : Input) (level : Bool) (s : State) : Host.Outcome State Fault Refusal :=
  .next (s.putInput i ((s.inputs.get i).rawChange level s.debounceMs))

/-- DEBOUNCE_EXPIRY (R79). -/
def execDebounceExpiry (i : Input) (s : State) : Host.Outcome State Fault Refusal := .next (s.debounceExpires i)

end Sys2Proof.Machine
end

