-- ==== Sys2Proof/Machine/LiftGroup.lean ====
section
/-! DEFINITION. Chapter 3: the lift commands, the reports of the lift axis ports and the move timeout. The
meanings of RAISE, LOWER, LIFT_STOP, LIFT_RESUME, FAULT_CLEAR, LIFT_POSITION_REPORT, LIFT_IN_POSITION and
MOVE_TIMEOUT. -/

namespace Sys2Proof.Machine

/-- The four inputs that say the tools are home and the probes parked. -/
def State.carriagesHome (s : State) : Bool :=
  s.level? .toolhomeA && s.level? .toolhomeB && s.level? .probeParkedA && s.level? .probeParkedB

/-- Both Cutting Stations are IDLE and neither sweep is in motion (R45 check 5, R55). -/
def State.stationsFree (s : State) : Bool :=
  (s.cut .a).state = .idle && (s.cut .b).state = .idle && !(s.sweepOf .a).state.inMotion &&
    !(s.sweepOf .b).state.inMotion

/-- Checks 1 and 3 to 5 of RAISE and LOWER, in order: the first that fails (R45). -/
def State.moveRefusal (s : State) : Option Code :=
  if s.lift.state = .fault ∨ s.lift.state = .parking ∨ s.lift.state = .parked ∨ s.lift.state = .unparking then
    some .wrongState
  else if s.setup.pit.isNone then some .notConfigured
  else if !(s.level? .estopOk && s.level? .pressureOk && s.carriagesHome) then some .interlock
  else if !s.stationsFree then some .wrongState
  else none

/-- The effect of an accepted RAISE by the state it meets (R46). -/
def State.raiseEffect (height : Int) (s : State) : State :=
  match s.lift.state, s.lift.move with
  | .bridgeWait .up, some m => s.putLift { s.lift with move := some { m with target := height } } s.level
  | .bridgeWait .down, some _ => s.enterLeg { target := height, dir := .up, stage := .passed }
  | _, _ => s.moveStart height true

/-- RAISE (R45, R46). -/
def State.raiseLift (height : Int) (s : State) : Answered :=
  let h := clampInt Config.raiseMin Config.raiseMax height
  match s.moveRefusal with
  | some c => s.refuse c
  | none => ⟨s.raiseEffect h, adjustedIf (h ≠ height), .none⟩

/-- The effect of an accepted LOWER by the state it meets (R47). In LOWERING it is a move start like any other, whose
bridge stage is decided anew from the positions (R42), also where R47's words 'the stop is kept' and 'the move goes on
to 0' would keep the stage that the group has (DESIGN CHOICE, log entry 23). -/
def State.lowerEffect (s : State) : State :=
  match s.lift.state, s.lift.move with
  | .bridgeWait .down, some _ => s
  | .bridgeWait .up, some _ => s.enterLeg { target := 0, dir := .down, stage := .passed }
  | _, _ => s.moveStart 0 false

/-- LOWER (R45, R47): in DOWN it is answered OK and changes nothing. -/
def State.lowerLift (s : State) : Answered :=
  if s.lift.state = .down then s.accept
  else
    match s.moveRefusal with
    | some c => s.refuse c
    | none => State.accept s.lowerEffect

/-- LIFT STOP (R54, R75). -/
def State.stopLift (s : State) : Answered :=
  if s.lift.state = .down ∨ s.lift.state = .fault then s.refuse .wrongState
  else State.accept (s.giveLiftCause .host)

/-- LIFT RESUME (R55). -/
def State.resumeLift (s : State) : Answered :=
  if s.lift.state ≠ .hold then s.refuse .wrongState
  else if !(s.level? .estopOk && s.level? .pressureOk) then s.refuse .causePresent
  else
    match s.lift.move with
    | some m =>
      if !s.carriagesHome then s.refuse .interlock
      else if !s.stationsFree then s.refuse .wrongState
      else if s.setup.pit.isNone then s.refuse .notConfigured
      else State.accept (s.enterLeg m)
    | none =>
      if s.lift.interrupted = some .raised then
        State.accept
          (s.putLift { s.lift with state := .raised, holds := LiftCauses.empty } s.level).enterRaised
      else s.refuse .noMove

/-- FAULT CLEAR (R51). -/
def State.clearFault (s : State) : Answered :=
  if s.lift.state = .fault then
    State.accept
      (s.putLift { s.lift with state := .hold, fault := none, holds := LiftCauses.empty.add .host } s.level)
  else s.refuse .wrongState

/-! ## Reports -/

/-- The direction of motion of a point; a paused point keeps the one it had (R39). -/
def Point.direction (p : Point) : Option Dir :=
  if p.paused then p.pausedDir
  else
    match p.valve with
    | .up => some .up
    | .down => some .down
    | .closed => none

/-- The points whose positions synchronization compares: all four in a move, those of the set that have not
arrived in a re-level (R48). -/
def Lift.compared (l : Lift) (relevel : Option (Four Bool)) : Four Bool :=
  match l.state, relevel with
  | .raised, some m => Four.zipWith (fun b (p : Point) => b && !p.arrived) m l.points
  | _, _ => Four.const true

/-- A point leads in its direction of motion by more than half the sync band (R48). -/
def Point.leads (p : Point) (sync lo hi : Int) : Bool :=
  match p.direction with
  | some .up => decide (sync < 2 * (p.position - lo))
  | some .down => decide (sync < 2 * (hi - p.position))
  | none => false

/-- A point paused with the direction it had (R39, R48); a paused point stays as it is. -/
def Point.pause (p : Point) : Point :=
  if p.paused then p else { p with paused := true, pausedDir := p.direction }

/-- The points that take part in synchronization changed by `f`, the others left (R48). -/
def Lift.syncPoints (l : Lift) (relevel : Option (Four Bool)) (f : Point → Point) : Lift :=
  { l with points := Four.zipWith (fun b p => if b then f p else p) (l.compared relevel) l.points }

/-- Synchronization on a position report (R48): the points outside a re-level's set and those of it that have arrived
take no part in pausing and resuming. -/
def Lift.synchronize (l : Lift) (sync : Int) (relevel : Option (Four Bool)) : Lift :=
  let part := Four.zipWith (fun b (p : Point) => if b then some p.position else none) (l.compared relevel) l.points
  match (part.toList.filterMap id).min?, (part.toList.filterMap id).max? with
  | some lo, some hi =>
    if sync < hi - lo then l.syncPoints relevel fun p => if p.leads sync lo hi then p.pause else p
    else if 2 * (hi - lo) ≤ sync then l.syncPoints relevel Point.unpause
    else l
  | _, _ => l

/-- The group is supervised: RAISING, LOWERING, or RAISED with a re-level under way (R48, R49). -/
def State.supervised (s : State) : Bool :=
  match s.lift.state with
  | .raising => true
  | .lowering => true
  | .raised => s.level.relevel.isSome
  | _ => false

/-- A point replaced. -/
def Lift.setPoint (l : Lift) (w : Wheel) (p : Point) : Lift := { l with points := l.points.set w.ix p }

/-- A position report (R38, R43, R48, R49): a reported value above 60,000 is taken as 60,000; under supervision
the trip band is tested first, then synchronization, then arrival at rail. -/
def State.reportLift (w : Wheel) (height : Nat) (s : State) : State :=
  let p := s.lift.points.get w.ix
  let l := (s.lift.setPoint w { p with position := min (height : Int) Config.liftTop }).revalve s.level.relevel
  match s.supervised, s.setup.pit with
  | true, some pit =>
    if pit.tripBand < l.highest - l.lowest then (s.putLift l s.level).enterFault .trip
    else (s.putLift (l.synchronize pit.syncBand s.level.relevel) s.level).arriveAtRail
  | _, _ => s.putLift l s.level

/-- Every point of a set has arrived. -/
def Lift.allArrived (l : Lift) (m : Four Bool) : Bool :=
  (Four.zipWith (fun b (p : Point) => !b || p.arrived) m l.points).toList.all id

/-- What an arrival completes: a leg of a move, but for a leg to 0, or a re-level (R43, R65). -/
def State.arrival (s : State) : State :=
  match s.lift.state, s.level.relevel with
  | .raising, _ => if s.lift.allArrived (Four.const true) then s.endLeg else s
  | .lowering, _ => if s.lift.allArrived (Four.const true) && !s.lift.legToRail then s.endLeg else s
  | .raised, some m => if s.lift.allArrived m then (s.completeRelevel true).testStart else s
  | _, _ => s

/-- An in-position event of a lift axis (R38): it changes nothing for a point that has arrived. -/
def State.liftArrives (w : Wheel) (s : State) : State :=
  let p := s.lift.points.get w.ix
  if p.arrived then s
  else (s.putLift (s.lift.setPoint w { p with arrived := true }) s.level).arrival

/-- The expiry of the move timeout, while it runs (R50). -/
def State.moveTimesOut (s : State) : State :=
  match s.lift.moveTimer with
  | .stopped => s
  | .running _ => s.enterFault .timeout

/-! ## Meanings -/

/-- RAISE (R46). -/
def execRaise (tag : Byte) (payload : List Byte) (s : State) : Host.Outcome State Fault Refusal :=
  .next (s.plainCommand 0x30 tag payload (raiseParams payload) State.raiseLift)

/-- LOWER (R47). -/
def execLower (tag : Byte) (payload : List Byte) (s : State) : Host.Outcome State Fault Refusal :=
  .next (s.plainCommand 0x31 tag payload (noParams payload) fun _ => State.lowerLift)

/-- LIFT_STOP (R54). -/
def execLiftStop (tag : Byte) (payload : List Byte) (s : State) : Host.Outcome State Fault Refusal :=
  .next (s.plainCommand 0x32 tag payload (noParams payload) fun _ => State.stopLift)

/-- LIFT_RESUME (R55). -/
def execLiftResume (tag : Byte) (payload : List Byte) (s : State) : Host.Outcome State Fault Refusal :=
  .next (s.plainCommand 0x33 tag payload (noParams payload) fun _ => State.resumeLift)

/-- FAULT_CLEAR (R51). -/
def execFaultClear (tag : Byte) (payload : List Byte) (s : State) : Host.Outcome State Fault Refusal :=
  .next (s.plainCommand 0x34 tag payload (noParams payload) fun _ => State.clearFault)

/-- LIFT_POSITION_REPORT (R38). -/
def execLiftPositionReport (w : Wheel) (height : Nat) (s : State) : Host.Outcome State Fault Refusal :=
  .next (s.reportLift w height)

/-- LIFT_IN_POSITION (R38). -/
def execLiftInPosition (w : Wheel) (s : State) : Host.Outcome State Fault Refusal := .next (s.liftArrives w)

/-- MOVE_TIMEOUT (R50). -/
def execMoveTimeout (s : State) : Host.Outcome State Fault Refusal := .next s.moveTimesOut

end Sys2Proof.Machine
end

