-- ==== Sys2Proof/Machine/Parking.lean ====
section
/-! DEFINITION. Chapter 4: parking and the timers of Level Maintenance. The meanings of PARK, UNPARK,
INTERVAL_EXPIRY and DWELL_EXPIRY. -/

namespace Sys2Proof.Machine

/-- PARK (R70): the group leaves RAISED for PARKING, the lock demand is raised, and ENGAGE_WAIT is tested. -/
def State.park (s : State) : Answered :=
  if s.lift.state ≠ .raised then s.refuse .wrongState
  else if !s.pitIdle then s.refuse .wrongState
  else if 0 < s.level.backlog ∨ s.level.urgent = true then s.refuse .levelPending
  else
    let s1 := s.putLift { s.lift with state := .parking }
      { s.level with lockRaised := true, parkStep := some .engageWait }
    State.accept s1.departRaised.testEngage

/-- UNPARK (R72). -/
def State.unpark (s : State) : Answered :=
  if s.lift.state ≠ .parked then s.refuse .wrongState
  else if s.setup.pit.isNone then s.refuse .notConfigured
  else if s.level? .estopOk = false then s.refuse .interlock
  else if s.level.dwell = .running then
    ⟨s.putLift s.lift { s.level with unparkPending := true }, .deferred, .none⟩
  else State.accept s.beginUnparking

/-- The expiry of the interval timer, while it runs (R62): it reloads, the backlog rises below 3, and a change
of the backlog is followed by the tests of R67 and R64. -/
def State.intervalExpires (s : State) : State :=
  match s.level.interval, s.setup.pit with
  | .running _, some pit =>
    let v := { s.level with interval := .running (pit.relevelInterval * 1000) }
    if s.level.backlog < 3 then
      (s.putLift s.lift { v with backlog := s.level.backlog + 1 }).testUrgent.testStart
    else s.putLift s.lift v
  | _, _ => s

/-- The expiry of the dwell timer, while it runs in PARKED (R71, R74). -/
def State.dwellExpires (s : State) : State :=
  if s.lift.state = .parked ∧ s.level.dwell = .running then
    let s1 := s.putLift s.lift { s.level with dwell := .expired }
    if s.level.unparkPending then s1.beginUnparking else s1
  else s

/-! ## Meanings -/

/-- PARK (R70). -/
def execPark (tag : Byte) (payload : List Byte) (s : State) : Host.Outcome State Fault Refusal :=
  .next (s.plainCommand 0x38 tag payload (noParams payload) fun _ => State.park)

/-- UNPARK (R72). -/
def execUnpark (tag : Byte) (payload : List Byte) (s : State) : Host.Outcome State Fault Refusal :=
  .next (s.plainCommand 0x39 tag payload (noParams payload) fun _ => State.unpark)

/-- INTERVAL_EXPIRY (R62). -/
def execIntervalExpiry (s : State) : Host.Outcome State Fault Refusal := .next s.intervalExpires

/-- DWELL_EXPIRY (R74). -/
def execDwellExpiry (s : State) : Host.Outcome State Fault Refusal := .next s.dwellExpires

end Sys2Proof.Machine
end

