-- ==== Sys2Proof/Machine/Plans.lean ====
section
/-! DEFINITION. Chapter 9: the Plan Table. The meanings of PLAN_AUTO and PLAN_PASSES. -/

namespace Sys2Proof.Machine

/-- A verdict that permits a plan (R149, check 6). -/
def Verdict.permits : Verdict → Bool
  | .withinLimits => true
  | .reprofile => true
  | _ => false

/-- The depths of PLAN AUTO for a required removal `t`; none when more than 16 passes are needed (R150). -/
def autoDepths (t qRough qFinish : Int) : Option (List Int) :=
  if t ≤ qFinish then some [t]
  else
    let u := t - qFinish
    let n := (ceilDiv u qRough).toNat
    if Config.planPasses < n + 1 then none
    else some (List.replicate (n - 1) qRough ++ [u - ((n - 1 : Nat) : Int) * qRough, qFinish])

/-- The depths of PLAN PASSES agree with the required removal (R152). -/
def depthsMatch (t : Int) (depths : List Int) : Bool :=
  (depths.all fun d => Config.depthMin ≤ d && d ≤ Config.depthMax) && depths.sum = t

/-- The passes of a list of depths, starting from the radius above the first pass (R151). -/
def passesFrom : Int → List Int → List Pass
  | _, [] => []
  | radius, d :: rest => ⟨d, radius - d⟩ :: passesFrom (radius - d) rest

/-- The revolutions a pass lasts over a zone at a feed (R151). -/
def passRevolutions (first last : Nat) (feed : Int) : Nat :=
  (ceilDiv ((((last + 1 - first) * 1000 : Nat)) : Int) feed).toNat

/-- A new plan completed from its depths (R151, R153). -/
def newPlan (source : PlanSource) (serial : Nat) (m : Measurement) (profile : Profile) (feed : Int)
    (depths : List Int) : Plan :=
  let target := m.target.getD 0
  let removal := m.removal.getD 0
  { source := source, serial := serial, run := m.run, target := target, removal := removal,
    advisories := m.advisories, passes := passesFrom (target + removal) depths, zoneFirst := profile.zoneFirst,
    zoneLast := profile.zoneLast, revolutions := passRevolutions profile.zoneFirst profile.zoneLast feed,
    feed := feed, inExecution := false, passIndex := 0 }

/-- The profile entry named by the record bound in a slot (R151). -/
def State.boundProfile (s : State) (i : Ix) : Profile :=
  match (s.slot i).working with
  | some r => s.setup.profiles.get r.profileId
  | none => s.setup.profiles.e0

/-- The checks PLAN AUTO and PLAN PASSES share, in order; past them the form makes its depths from the CUT
table and the required removal, and the plan takes the record (R149, R153). -/
def State.makePlan (source : PlanSource) (st : Station) (form : CutTable → Int → Except Code (List Int))
    (s : State) : Answered :=
  if (s.probe st).calMode then s.refuse .calibrationMode
  else
    match s.setup.pit, s.setup.cut with
    | some _, some cut =>
      match s.boundSlot st with
      | none => s.refuse .wrongState
      | some i =>
        if ((s.plan st).any fun p => p.inExecution) then s.refuse .wrongState
        else
          match (s.slot i).measurement.filter fun m => s.measurementCurrent st m with
          | none => s.refuse .noMeasurement
          | some m =>
            if !m.verdict.permits then s.refuse .verdictForbids
            else
              match form cut (m.removal.getD 0) with
              | .error c => s.refuse c
              | .ok depths =>
                let p := newPlan source ((s.slot i).serial.getD 0) m (s.boundProfile i) cut.feed depths
                ⟨(s.putPlan st (some p)).touchSlot i, .ok, .plan p⟩
    | _, _ => s.refuse .notConfigured

/-- PLAN AUTO (R149, R150). -/
def State.planAuto (st : Station) (s : State) : Answered :=
  s.makePlan .auto st fun cut t =>
    match autoDepths t cut.qRough cut.qFinish with
    | some l => .ok l
    | none => .error .removalTooDeep

/-- PLAN PASSES (R149, R152). -/
def State.planPasses (x : Station × List Int) (s : State) : Answered :=
  s.makePlan .host x.1 fun _ t => if depthsMatch t x.2 then .ok x.2 else .error .planMismatch

/-! ## Meanings -/

/-- PLAN_AUTO (R150). -/
def execPlanAuto (tag : Byte) (payload : List Byte) (s : State) : Host.Outcome State Fault Refusal :=
  .next (s.plainCommand 0x58 tag payload (stationParam payload) State.planAuto)

/-- PLAN_PASSES (R152). -/
def execPlanPasses (tag : Byte) (payload : List Byte) (s : State) : Host.Outcome State Fault Refusal :=
  .next (s.plainCommand 0x59 tag payload (planPassesParams payload) State.planPasses)

end Sys2Proof.Machine
end

