-- ==== Sys2Proof/Machine/Reset.lean ====
section
/-! DEFINITION. Reset, from power-on or from the RESET pin (00_scope.md; R21, R37, R59, R77, R92, R106, R124,
R146, R159, R176, R188, R189, R192). The meaning of RESET. -/

namespace Sys2Proof.Machine

/-- A place whose body write was begun and cut short by reset: its header stays, and its body fails its check
(R4, R21). -/
def Store.tearPlace (st : Store) (k : Nat) : Store := st.setPlace k (st.place k).tear

/-- The body of the place that holds a serial damaged by a rewrite cut short (R21). -/
def Store.cutShort (st : Store) (n : Nat) : Store :=
  match st.placeOf n with
  | some k => st.tearPlace k
  | none => st

/-- The header of the place that holds a serial emptied by the single write of a RETIRE (R21). -/
def Store.emptyHeader (st : Store) (n : Nat) : Store :=
  match st.placeOf n with
  | some k => st.setPlace k { st.place k with header := none }
  | none => st

/-- What reset leaves of the request in service, whose memory write had been begun or made (R21): an ENROL has not
committed its header. -/
def Store.endByReset (st : Store) : Store :=
  match st.service with
  | some ⟨.write n _, _⟩ => st.cutShort n
  | some ⟨.amend n _ _, _⟩ => st.cutShort n
  | some ⟨.enrol _ _ k _, _⟩ => st.tearPlace k
  | some ⟨.retire n _, _⟩ => st.emptyHeader n
  | _ => st

/-- The record places reset leaves (R21). -/
def Store.placesAfterReset (st : Store) (writeMade : Bool) : Cells Place :=
  if writeMade then st.endByReset.places else st.places

/-- The four positions as the lift axis ports read at reset: a value above 60,000 is taken as 60,000 (R38). -/
def positionsRead (pins : ResetPins) : Four Int := pins.heights.map fun h : Nat => min (h : Int) Config.liftTop

/-- The highest of the four positions read. -/
def highestRead (pins : ResetPins) : Int :=
  max (max (positionsRead pins).e0 (positionsRead pins).e1) (max (positionsRead pins).e2 (positionsRead pins).e3)

/-- The Lift Group after reset (R59). -/
def liftAfterReset (pins : ResetPins) : Lift :=
  let parked := pins.sampled.locksEngaged
  let rail : Bool := decide (highestRead pins ≤ Config.atRailHeight)
  { state := if parked then .parked else if rail then .down else .hold
    points := (positionsRead pins).map fun h => Point.reset h (if parked then highestRead pins else h)
    move := none
    holds := if parked || rail then LiftCauses.empty else LiftCauses.empty.add .host
    fault := none
    interrupted := none
    moveTimer := .stopped }

/-- The line rate the straps select (00_scope.md, External lines). -/
def rateRead (pins : ResetPins) : LineRate :=
  if pins.rate1 then .r921600 else if pins.rate0 then .r460800 else .r115200

/-- The state after reset, from the lines as they are read and over the external memory as it stands. -/
def stateAfterReset (pins : ResetPins) (pending : List Instr) (places : Cells Place) : State :=
  { pending := pending, store := Store.reset places, context := Context.reset, lift := liftAfterReset pins,
    level := Level.reset pins.sampled.locksEngaged,
    inputs := Twelve.zipWith InputState.reset pins.sampled pins.raw,
    probes := ⟨Probe.reset, Probe.reset⟩, capture := Capture.reset, engine := Engine.reset,
    plans := ⟨none, none⟩,
    stations := ⟨CutStation.reset pins.sampled.toolhomeA, CutStation.reset pins.sampled.toolhomeB⟩,
    axes := Axes.reset, setup := Setup.reset, link := Link.reset (rateRead pins) pins.hostReady,
    notices := Notices.reset }

/-- RESET (R188): every block takes its reset state; the commands from outside that still wait are kept, and
the external memory keeps its records but for what the write cut short did (R21). -/
def execReset (pins : ResetPins) (s : State) : Host.Outcome State Fault Refusal :=
  .next (stateAfterReset pins s.pending (s.store.placesAfterReset pins.writeMade))

end Sys2Proof.Machine
end

