-- ==== Sys2Proof/Machine/Setup.lean ====
section
/-! DEFINITION. Chapter 12: the PIT and CUT tables and the reference profiles. The meanings of SET_PIT, SET_CUT,
PROFILE_BEGIN, PROFILE_DATA and PROFILE_RESUME. -/

namespace Sys2Proof.Machine

/-- The four checks on a write of a table (R190). -/
def State.tablesWritable (s : State) : Bool :=
  (match s.lift.state with
   | .down => true
   | .hold => true
   | .fault => true
   | .parked => true
   | _ => false) &&
    ((s.cut .a).state = .idle || (s.cut .a).state = .stopped) &&
    ((s.cut .b).state = .idle || (s.cut .b).state = .stopped) &&
    !(s.sweepOf .a).state.inMotion && !(s.sweepOf .b).state.inMotion && s.engine.run.isNone

/-- A field in µm clamped into its range and rounded down to a multiple of 10 (R190, steps 1 and 2). -/
def settleLength (lo hi x : Int) : Int := roundDown10 (clampInt lo hi x)

/-- The values of SET PIT settled (R189, R190 steps 1 to 3). -/
def Pit.settle (t : Pit) : Pit :=
  let sync := settleLength 500 3000 t.syncBand
  let trip := settleLength 2000 10000 t.tripBand
  { clearance := settleLength 3000 15000 t.clearance
    syncBand := sync
    tripBand := if trip < sync + 500 then sync + 500 else trip
    moveTimeout := clampNat 10 180 t.moveTimeout
    relevelBand := settleLength 100 1000 t.relevelBand
    relevelInterval := clampNat 10 900 t.relevelInterval
    debounce := clampNat 5 200 t.debounce
    probeSettle := clampNat 1 30 t.probeSettle
    datum := t.datum.map (settleLength Config.radiusMin Config.radiusMax)
    ring := t.ring.map (settleLength Config.radiusMin Config.radiusMax) }

/-- The values of SET CUT settled (R189, R190 steps 1, 2 and 4). -/
def CutTable.settle (t : CutTable) : CutTable :=
  let rough := settleLength 500 5000 t.qRough
  let finish := settleLength 100 1000 t.qFinish
  { cleanUp := settleLength 0 2000 t.cleanUp
    flangeLevel := settleLength 5000 15000 t.flangeLevel
    bogieBand := settleLength 0 2500 t.bogieBand
    unitBand := settleLength 0 10000 t.unitBand
    flangeHeightLimit := settleLength 20000 40000 t.flangeHeightLimit
    flangeThicknessMin := settleLength 15000 35000 t.flangeThicknessMin
    runoutLimit := settleLength 100 2000 t.runoutLimit
    qRough := rough
    qFinish := if rough ≤ finish then rough - 10 else finish
    feed := settleLength 200 2000 t.feed }

/-- SET PIT (R190). -/
def State.setPit (t : Pit) (s : State) : Answered :=
  if s.tablesWritable then
    { state := { s with setup := { s.setup with pit := some t.settle } }
      code := adjustedIf (t.settle ≠ t)
      answer := .pit t.settle }
  else s.refuse .wrongState

/-- SET CUT, with its two further effects (R190): every measurement record becomes stale, and every plan not
in execution is removed. -/
def State.setCut (t : CutTable) (s : State) : Answered :=
  if s.tablesWritable then
    let s1 : State := { s with setup := { s.setup with cut := some t.settle } }
    { state := (s1.staleMeasurements.removeIdlePlan .a).removeIdlePlan .b
      code := adjustedIf (t.settle ≠ t)
      answer := .cut t.settle }
  else s.refuse .wrongState

/-- The state with one profile entry replaced. -/
def State.putProfile (i : Ix) (p : Profile) (s : State) : State :=
  { s with setup := { s.setup with profiles := s.setup.profiles.set i p } }

/-- A profile entry. -/
def State.profile (s : State) (i : Ix) : Profile := s.setup.profiles.get i

/-- The zone and measuring station of PROFILE BEGIN settled, and the entry set LOADING with fill 0 and every
offset 0 (R192). -/
def Profile.begun (first last measuring : Nat) : Profile :=
  let f := clampNat 0 157 first
  let l := clampNat (f + 2) 159 last
  { state := .loading, measuring := clampNat (f + 1) (l - 1) measuring, zoneFirst := f, zoneLast := l, fill := 0,
    offsets := [] }

/-- PROFILE BEGIN (R192). Any other LOADING entry has become BROKEN as the command was handed over (R193). -/
def State.profileBegin (x : ProfileParams) (s : State) : Answered :=
  match Ix.ofNum x.id with
  | none => s.refuse .wrongState
  | some i =>
    if s.tablesWritable then
      let p := Profile.begun x.first x.last x.measuring
      { state := s.putProfile i p
        code := adjustedIf (p.zoneFirst ≠ x.first ∨ p.zoneLast ≠ x.last ∨ p.measuring ≠ x.measuring)
        answer := .profileBegin i p }
    else s.refuse .wrongState

/-- PROFILE RESUME (R192). -/
def State.profileResume (id : Nat) (s : State) : Answered :=
  match Ix.ofNum id with
  | none => s.refuse .wrongState
  | some i =>
    if s.tablesWritable ∧ (s.profile i).state = .broken then
      let p := { s.profile i with state := .loading }
      ⟨s.putProfile i p, .ok, .profileFill i p⟩
    else s.refuse .wrongState

/-- What is stored for an offset sent at lateral station `k`: 0 at the measuring station, and otherwise the
offset clamped (R193). -/
def Profile.settled (p : Profile) (k : Nat) (x : Int) : Int :=
  if k = p.measuring then 0 else clampInt (-Config.offsetMax) Config.offsetMax x

/-- One offset of PROFILE DATA: stored at the fill, which increases; disregarded with the fill at 160. The flag
says that the offset was clamped, forced to 0 or disregarded (R193; DEDUCED, log entry 15). -/
def Profile.store (acc : Profile × Bool) (x : Int) : Profile × Bool :=
  let p := acc.1
  if p.fill < Config.lateralStations then
    let v := p.settled p.fill x
    ({ p with offsets := Cells.write 0 p.fill v p.offsets, fill := p.fill + 1 }, acc.2 || decide (v ≠ x))
  else (p, true)

/-- PROFILE DATA (R193). -/
def State.profileData (x : Nat × List Int) (s : State) : Answered :=
  match Ix.ofNum x.1 with
  | none => s.refuse .wrongState
  | some i =>
    if (s.profile i).state = .loading then
      let r := x.2.foldl Profile.store (s.profile i, false)
      let p := { r.1 with state := if r.1.fill = Config.lateralStations then .complete else .loading }
      ⟨s.putProfile i p, adjustedIf r.2, .profileFill i p⟩
    else s.refuse .disregarded

/-! ## Meanings -/

/-- SET_PIT (R190). -/
def execSetPit (tag : Byte) (payload : List Byte) (s : State) : Host.Outcome State Fault Refusal :=
  .next (s.plainCommand 0x10 tag payload (setPitParams payload) State.setPit)

/-- SET_CUT (R190). -/
def execSetCut (tag : Byte) (payload : List Byte) (s : State) : Host.Outcome State Fault Refusal :=
  .next (s.plainCommand 0x11 tag payload (setCutParams payload) State.setCut)

/-- PROFILE_BEGIN (R192). -/
def execProfileBegin (tag : Byte) (payload : List Byte) (s : State) : Host.Outcome State Fault Refusal :=
  .next (s.plainCommand 0x12 tag payload (profileBeginParams payload) State.profileBegin)

/-- PROFILE_DATA (R193), the one command that does not break the load of the entry it names. -/
def execProfileData (tag : Byte) (payload : List Byte) (s : State) : Host.Outcome State Fault Refusal :=
  .next (s.command 0x13 tag payload (profileDataParams payload) (fun x => Ix.ofNum x.1) State.profileData)

/-- PROFILE_RESUME (R192). -/
def execProfileResume (tag : Byte) (payload : List Byte) (s : State) : Host.Outcome State Fault Refusal :=
  .next (s.plainCommand 0x14 tag payload (profileResumeParams payload) State.profileResume)

end Sys2Proof.Machine
end

