-- ==== Sys2Proof/Machine/Dispatch.lean ====
section
/-! DEFINITION. The dispatch of a command to its meaning: one arm for each row of spec/opcode_table.json. -/

namespace Sys2Proof.Machine

/-- The effect of a command on everything but the queue of waiting commands. -/
def exec (i : Instr) (s : State) : Host.Outcome State Fault Refusal :=
  match i with
  | .status tag payload => Sys2Proof.Machine.execStatus tag payload s
  | .setLink tag payload => Sys2Proof.Machine.execSetLink tag payload s
  | .setPit tag payload => Sys2Proof.Machine.execSetPit tag payload s
  | .setCut tag payload => Sys2Proof.Machine.execSetCut tag payload s
  | .profileBegin tag payload => Sys2Proof.Machine.execProfileBegin tag payload s
  | .profileData tag payload => Sys2Proof.Machine.execProfileData tag payload s
  | .profileResume tag payload => Sys2Proof.Machine.execProfileResume tag payload s
  | .enrol tag payload => Sys2Proof.Machine.execEnrol tag payload s
  | .amend tag payload => Sys2Proof.Machine.execAmend tag payload s
  | .retire tag payload => Sys2Proof.Machine.execRetire tag payload s
  | .readRecord tag payload => Sys2Proof.Machine.execReadRecord tag payload s
  | .openRecord tag payload => Sys2Proof.Machine.execOpen tag payload s
  | .closeRecord tag payload => Sys2Proof.Machine.execClose tag payload s
  | .bind tag payload => Sys2Proof.Machine.execBind tag payload s
  | .unbind tag payload => Sys2Proof.Machine.execUnbind tag payload s
  | .logMeasurement tag payload => Sys2Proof.Machine.execLogMeasurement tag payload s
  | .raise tag payload => Sys2Proof.Machine.execRaise tag payload s
  | .lower tag payload => Sys2Proof.Machine.execLower tag payload s
  | .liftStop tag payload => Sys2Proof.Machine.execLiftStop tag payload s
  | .liftResume tag payload => Sys2Proof.Machine.execLiftResume tag payload s
  | .faultClear tag payload => Sys2Proof.Machine.execFaultClear tag payload s
  | .park tag payload => Sys2Proof.Machine.execPark tag payload s
  | .unpark tag payload => Sys2Proof.Machine.execUnpark tag payload s
  | .probeReference tag payload => Sys2Proof.Machine.execProbeReference tag payload s
  | .calibrateOn tag payload => Sys2Proof.Machine.execCalibrateOn tag payload s
  | .calibrateMeasure tag payload => Sys2Proof.Machine.execCalibrateMeasure tag payload s
  | .calibrateOff tag payload => Sys2Proof.Machine.execCalibrateOff tag payload s
  | .sweep tag payload => Sys2Proof.Machine.execSweep tag payload s
  | .sweepContinue tag payload => Sys2Proof.Machine.execSweepContinue tag payload s
  | .sweepStop tag payload => Sys2Proof.Machine.execSweepStop tag payload s
  | .readProfile tag payload => Sys2Proof.Machine.execReadProfile tag payload s
  | .measure tag payload => Sys2Proof.Machine.execMeasure tag payload s
  | .readMeasurement tag payload => Sys2Proof.Machine.execReadMeasurement tag payload s
  | .planAuto tag payload => Sys2Proof.Machine.execPlanAuto tag payload s
  | .planPasses tag payload => Sys2Proof.Machine.execPlanPasses tag payload s
  | .cutStart tag payload => Sys2Proof.Machine.execCutStart tag payload s
  | .feedHold tag payload => Sys2Proof.Machine.execFeedHold tag payload s
  | .resume tag payload => Sys2Proof.Machine.execResume tag payload s
  | .cutAbort tag payload => Sys2Proof.Machine.execCutAbort tag payload s
  | .unknownKind kind tag payload => Sys2Proof.Machine.execUnknownKind kind tag payload s
  | .frameAccepted received => Sys2Proof.Machine.execFrameAccepted received s
  | .receiveGap => Sys2Proof.Machine.execReceiveGap s
  | .breakStart => Sys2Proof.Machine.execBreakStart s
  | .breakEnd => Sys2Proof.Machine.execBreakEnd s
  | .silenceExpiry => Sys2Proof.Machine.execSilenceExpiry s
  | .hostReadyChange level => Sys2Proof.Machine.execHostReadyChange level s
  | .replyFrameStart => Sys2Proof.Machine.execReplyFrameStart s
  | .noticeFrameStart => Sys2Proof.Machine.execNoticeFrameStart s
  | .frameEnd => Sys2Proof.Machine.execFrameEnd s
  | .headerScanComplete => Sys2Proof.Machine.execHeaderScanComplete s
  | .loadComplete => Sys2Proof.Machine.execLoadComplete s
  | .writeComplete => Sys2Proof.Machine.execWriteComplete s
  | .readComplete => Sys2Proof.Machine.execReadComplete s
  | .enrolComplete => Sys2Proof.Machine.execEnrolComplete s
  | .amendComplete => Sys2Proof.Machine.execAmendComplete s
  | .retireComplete => Sys2Proof.Machine.execRetireComplete s
  | .searchComplete => Sys2Proof.Machine.execSearchComplete s
  | .liftPositionReport point height => Sys2Proof.Machine.execLiftPositionReport point height s
  | .liftInPosition point => Sys2Proof.Machine.execLiftInPosition point s
  | .moveTimeout => Sys2Proof.Machine.execMoveTimeout s
  | .intervalExpiry => Sys2Proof.Machine.execIntervalExpiry s
  | .dwellExpiry => Sys2Proof.Machine.execDwellExpiry s
  | .inputChange input level => Sys2Proof.Machine.execInputChange input level s
  | .debounceExpiry input => Sys2Proof.Machine.execDebounceExpiry input s
  | .probePadInPosition station => Sys2Proof.Machine.execProbePadInPosition station s
  | .referenceReading station left right => Sys2Proof.Machine.execReferenceReading station left right s
  | .settleExpiry station => Sys2Proof.Machine.execSettleExpiry station s
  | .ringInPosition station => Sys2Proof.Machine.execRingInPosition station s
  | .calibrationReading station left right => Sys2Proof.Machine.execCalibrationReading station left right s
  | .rollerAngleReport station angle => Sys2Proof.Machine.execRollerAngleReport station angle s
  | .rollerInPosition station angle => Sys2Proof.Machine.execRollerInPosition station angle s
  | .sweepCarriageInPosition station => Sys2Proof.Machine.execSweepCarriageInPosition station s
  | .sampleAnswer station left right => Sys2Proof.Machine.execSampleAnswer station left right s
  | .toolPositionReport station lateral radius => Sys2Proof.Machine.execToolPositionReport station lateral radius s
  | .toolApproachArrival station => Sys2Proof.Machine.execToolApproachArrival station s
  | .toolBackoffArrival station => Sys2Proof.Machine.execToolBackoffArrival station s
  | .revolutionPulse station => Sys2Proof.Machine.execRevolutionPulse station s
  | .reset pins => Sys2Proof.Machine.execReset pins s

end Sys2Proof.Machine
end

