-- ==== Sys2Proof/Machine/Step.lean ====
section
/-! DEFINITION. One step of the block: the command at the front of the queue of waiting commands is taken and
carried out over the queue's rest. -/

namespace Sys2Proof.Machine

/-- A command put at the front of the queue of waiting commands. -/
def State.withCommand (s : State) (c : Instr) : State := { s with pending := c :: s.pending }

/-- One step: the command at the front of the queue is carried out with the queue's rest; on an empty queue the
block idles (DESIGN CHOICE, log entry 4). -/
def step (s : State) : Host.Outcome State Fault Refusal :=
  match s.pending with
  | [] => .next s
  | c :: rest => exec c { s with pending := rest }

/-- The command a table word spells put at the front of the queue; the state unchanged where it spells none. -/
def State.withFetchWord (s : State) (nbits w : Nat) : State :=
  match Sys2Proof.decodeTableWord nbits w with
  | some c => s.withCommand c
  | none => s

end Sys2Proof.Machine
end

