-- ==== Sys2Proof/Safety.lean ====
section
/-! DEFINITION. The terms in which statements about the machine are made: which blocks a command leaves as they
were, the state in which a command's owner answers, and the conditions the manual says hold at every moment. -/

namespace Sys2Proof.Machine

/-! ## Frames -/

/-- The blocks of the part, with the axis ports and the notice table. -/
inductive Block where
  | store
  | context
  | lift
  | level
  | inputs
  | probes
  | capture
  | engine
  | plans
  | stations
  | axes
  | setup
  | link
  | notices
  deriving DecidableEq, Repr

/-- A block is the same in two states. -/
def Block.same (b : Block) (s t : State) : Prop :=
  match b with
  | .store => t.store = s.store
  | .context => t.context = s.context
  | .lift => t.lift = s.lift
  | .level => t.level = s.level
  | .inputs => t.inputs = s.inputs
  | .probes => t.probes = s.probes
  | .capture => t.capture = s.capture
  | .engine => t.engine = s.engine
  | .plans => t.plans = s.plans
  | .stations => t.stations = s.stations
  | .axes => t.axes = s.axes
  | .setup => t.setup = s.setup
  | .link => t.link = s.link
  | .notices => t.notices = s.notices

/-- Nothing but the blocks of `l` differs between two states. -/
def Only (l : List Block) (s t : State) : Prop := t.pending = s.pending ∧ ∀ b, b ∉ l → b.same s t

/-! ## Commands of the host -/

/-- The state in which the owner of a command answers, when its frame can be taken now: the frame has left the
queue, and a load has been broken (R181, R193). -/
def State.handed (s : State) (kind tag : Byte) (payload : List Byte) : Option State :=
  (s.takeFrame ⟨kind, tag, payload⟩).map (State.breakLoad none)

/-- A state with the reply to a command of the host in the reply slot (R181). -/
def State.replied (s : State) (kind tag : Byte) (code : Code) (answer : Answer) : State :=
  s.putReply ⟨replyKind kind, tag, code, answer⟩

/-- What a command of the host that is handed to its owner leaves, by the owner's answer. -/
def Answered.sent (r : Answered) (kind tag : Byte) : State := r.state.replied kind tag r.code r.answer

/-- Between the moment a command is handed over and its answer, the link has changed by the reply alone. -/
def State.answers (s1 t : State) (kind tag : Byte) (code : Code) (answer : Answer) : Prop :=
  t.link = (s1.replied kind tag code answer).link

/-- The payload length of each kind that has a fixed one: the sum of the widths of its parameters (R177, and the
owners' rules). PROFILE DATA and PLAN PASSES have none. -/
def commandLength (kind : Byte) : Option Nat :=
  if kind ∈ [0x30#8, 0x22, 0x29, 0x12, 0x48, 0x4B, 0x02] then some 4
  else if kind ∈ [0x31#8, 0x32, 0x33, 0x34, 0x38, 0x39, 0x50] then some 0
  else if kind ∈ [0x01#8, 0x14, 0x2B, 0x2C, 0x40, 0x41, 0x42, 0x43, 0x49, 0x4A, 0x51, 0x58, 0x61, 0x62, 0x63] then
    some 1
  else if kind ∈ [0x10#8, 0x11] then some 40
  else if kind = 0x20 then some 13
  else if kind = 0x21 then some 23
  else if kind = 0x23 then some 7
  else if kind = 0x28 then some 9
  else if kind = 0x2A then some 5
  else if kind = 0x60 then some 2
  else none

/-- The kinds whose one parameter is a station. -/
def stationKinds : List Byte := [0x2B, 0x2C, 0x40, 0x41, 0x42, 0x43, 0x49, 0x4A, 0x51, 0x58, 0x61, 0x62, 0x63]

/-- The unsigned byte at a place of a payload, 0 past its end. -/
def byteAt (p : List Byte) (k : Nat) : Nat := (p.getD k 0).toNat

/-- A parameter of a payload names no member of its list, and its owner's rule gives no answer for such a value
(R181, check 3). -/
def unlisted (kind : Byte) (p : List Byte) : Bool :=
  if kind ∈ stationKinds then 2 ≤ byteAt p 0
  else if kind = 0x2A then 2 ≤ byteAt p 4
  else if kind = 0x28 then 3 ≤ byteAt p 8
  else if kind = 0x23 then 2 ≤ byteAt p 4
  else if kind = 0x21 then (byteAt p 4).testBit 5 && decide (2 ≤ byteAt p 14)
  else if kind = 0x48 then 2 ≤ byteAt p 0 || 2 ≤ byteAt p 3
  else if kind = 0x4B then 4 ≤ byteAt p 0
  else if kind = 0x59 then 2 ≤ byteAt p 0
  else if kind = 0x60 then 2 ≤ byteAt p 0 || 2 ≤ byteAt p 1
  else false

/-- The four conditions on a write of a setup table (R190): no point is driven, both stations rest, no sweep is in
motion, and no measurement is in progress. -/
def State.pitRests (s : State) : Prop :=
  (s.lift.state = .down ∨ s.lift.state = .hold ∨ s.lift.state = .fault ∨ s.lift.state = .parked) ∧
    (∀ st, ((s.cut st).state = .idle ∨ (s.cut st).state = .stopped) ∧
      (s.sweepOf st).state ≠ .indexing ∧ (s.sweepOf st).state ≠ .traversing) ∧
    s.engine.run = none

/-- From `s` to `t` the request in service has ended and the next, if there is one, has gone into service, a WRITE
with the working copy of its slot as it stands (R7, R10). -/
def State.movesOn (s t : State) : Prop :=
  s.store.scanned = true →
    t.store.service.map (fun x => x.request) = s.store.waiting.head? ∧ t.store.waiting = s.store.waiting.drop 1 ∧
      ∀ x, t.store.service = some x →
        x.content = match x.request with
          | .write _ i => (t.slot i).working
          | _ => none

/-- The slot whose WRITE goes into service next (R7). -/
def Store.nextWrite (st : Store) : Option Ix :=
  match st.scanned, st.waiting with
  | true, .write _ i :: _ => some i
  | _, _ => none

/-- What a slot comes to when the next request goes into service: a WRITE of it makes it clean (R24). -/
def State.cleaned (s : State) (i : Ix) (sl : Slot) : Slot :=
  if s.store.nextWrite = some i then { sl with dirty := false } else sl

/-- A result list after an item is added: the oldest of eight is lost (R17, R36). -/
def added {α : Type} (l : List α) (x : α) : List α := (if l.length < 8 then l else l.drop 1) ++ [x]

/-- The inputs and stations as a move of the lift requires them: stop circuit and pressure good, tools home, probes
parked, both stations IDLE, no sweep in motion (R45, checks 4 and 5). -/
def State.moveReady (s : State) : Prop :=
  s.level? .estopOk = true ∧ s.level? .pressureOk = true ∧ s.level? .toolhomeA = true ∧
    s.level? .toolhomeB = true ∧ s.level? .probeParkedA = true ∧ s.level? .probeParkedB = true ∧
    ∀ st, (s.cut st).state = .idle ∧ (s.sweepOf st).state ≠ .indexing ∧ (s.sweepOf st).state ≠ .traversing

/-- The valve of a point that is driven toward its demand (R39). -/
def Point.driving (p : Point) : Valve :=
  if p.position < p.demand then .up else if p.demand < p.position then .down else .closed

/-- The Lift Group on a leg of a move toward a demand: in the state of the move's direction, the hold cause set
empty, the timeout started afresh, no point paused or arrived, every valve by its demand (R39, R42). -/
def Lift.onLeg (l : Lift) (m : Move) (demand : Int) (pit : Pit) : Lift :=
  { l with
    state := match m.dir with
      | .up => .raising
      | .down => .lowering
    move := some m
    holds := LiftCauses.empty
    moveTimer := .running (pit.moveTimeout * 1000)
    points := l.points.map fun p =>
      let q : Point := { p with demand := demand, paused := false, pausedDir := none, arrived := false }
      { q with valve := q.driving } }

/-- The Lift Group stopped where it stands in a new state: valves closed, nothing paused, the timeout stopped, the
state left recorded, the move and the demands kept (R51, R52). -/
def Lift.halted (l : Lift) (now : LiftState) : Lift :=
  { l with
    state := now
    interrupted := some l.state
    moveTimer := .stopped
    points := l.points.map fun p => { p with valve := .closed, paused := false, pausedDir := none } }

/-- What the LIFT source tells of is in `t` as it was in `s`: the lift state with the direction of BRIDGE_WAIT, the hold
cause set, the fault cause and the move record (R58), and every item of Level Maintenance but its interval timer
(R76). -/
def State.liftAsBefore (s t : State) : Prop :=
  t.lift.state = s.lift.state ∧ t.lift.holds = s.lift.holds ∧ t.lift.fault = s.lift.fault ∧
    t.lift.move = s.lift.move ∧ t.level = { s.level with interval := t.level.interval }

/-- From `s` to `t` the LIFT source alone has taken an event, pending or missed by its mask, if something it tells of
has changed, and no source has taken one if nothing has (R58, R76, R185, R186). -/
def State.tellsLift (s t : State) : Prop :=
  (s.liftAsBefore t → t.notices = s.notices) ∧ (¬s.liftAsBefore t → t.notices = (s.notify .lift).notices)

/-- From `s` to `t` the LIFT source has taken an event, pending or missed by its mask; other sources may have taken
theirs (R58, R76, R185, R186). -/
def State.liftTold (s t : State) : Prop := t.notices.get .lift = (s.notices.get .lift).event

/-- The reply of the first check of a list that applies, if one does; a list gives each check with its reply. -/
def firstOf (checks : List (Bool × Code)) : Option Code := (checks.find? fun x => x.1).map fun x => x.2

/-- The level check fails: a backlog of 3, a re-level under way, or an urgent demand (R69). -/
def State.notLevel (s : State) : Bool :=
  decide (s.level.backlog = 3) || s.level.relevel.isSome || s.level.urgent

/-- A sweep of the station is in motion or paused (R93, R108). -/
def State.sweepOn (s : State) (st : Station) : Prop :=
  (s.sweepOf st).state = .indexing ∨ (s.sweepOf st).state = .traversing ∨ (s.sweepOf st).state = .paused

/-- Every measurement record is stale (R56). -/
def State.allStale (s : State) : Prop := ∀ i m, (s.slot i).measurement = some m → m.stale = true

/-- What the departure from RAISED leaves beside the lift and its level maintenance (R56): every measurement record
stale and the slots otherwise as they were, a run in progress marked as departed, the cause LIFT at each station
at work, and each sweep in motion paused for it. -/
def State.departs (s t : State) : Prop :=
  t.context =
      { s.context with
        slots := s.context.slots.map fun sl =>
          { sl with measurement := sl.measurement.map fun m => { m with stale := true } } } ∧
    t.engine = { s.engine with run := s.engine.run.map fun r => { r with departed := true } } ∧
    (∀ st, let x := s.cut st
      (x.state = .approach ∨ x.state = .cutting →
        t.cut st =
          { x with
            state := .holding, holds := { CutCauses.empty with lift := true }, heldAt := some x.toolLateral }) ∧
      (x.state = .holding ∨ x.state = .held → t.cut st = { x with holds := { x.holds with lift := true } }) ∧
      (x.state = .idle ∨ x.state = .retract ∨ x.state = .aborting ∨ x.state = .stopped → t.cut st = x)) ∧
    ∀ st, let w := s.sweepOf st
      t.sweepOf st =
        if w.state = .indexing ∨ w.state = .traversing then
          { w with state := .paused, cause := some .lift, step := .none }
        else w

/-! ## What holds at every moment -/

/-- Once the header scan is done, no request waits with none in service (R7). -/
def Store.fifoServed (st : Store) : Prop := st.scanned = true → st.service = none → st.waiting = []

/-- From `s` to `t` a WRITE of the serial `n` for slot `i` has joined the FIFO, or merged into one that waits, and
the requests of `behind` have joined after it. A WRITE that finds nothing in service goes into service at once, with
the working copy as it stands, and leaves the slot clean; else the slot stays dirty. The read window holds the
serial no more, and the rest of the store is as it was (R7, R9, R10, R16, R24). -/
def State.writesBack (s t : State) (n : Nat) (i : Ix) (behind : List Request) : Prop :=
  let atOnce : Bool := s.store.scanned && s.store.service.isNone
  t.store.fifo = s.store.fifo ++ (if s.store.writeWaiting n then [] else [.write n i]) ++ behind ∧
    t.store.fifoServed ∧ (∀ r, s.store.service = some r → t.store.service = some r) ∧
    (atOnce = true → t.store.service = some ⟨.write n i, (t.slot i).working⟩) ∧ (t.slot i).dirty = !atOnce ∧
    (∀ m, t.store.window.record m = if m = n then none else s.store.window.record m) ∧
    t.store.places = s.store.places ∧ t.store.table = s.store.table ∧ t.store.scanned = s.store.scanned ∧
    t.store.results = s.store.results ∧ t.store.resultsLost = s.store.resultsLost

/-- The command queue and the lists of results keep their capacities, and a frame waits in the holding slot only
behind a full queue (R17, R36, R179). -/
def State.listsBounded (s : State) : Prop :=
  s.link.queue.length ≤ 4 ∧ (s.link.holding.isSome = true → s.link.queue.length = 4) ∧
    s.store.results.length ≤ 8 ∧ s.context.results.length ≤ 8

/-- At most one reference profile entry is LOADING (R192). -/
def State.oneLoad (s : State) : Prop :=
  (s.setup.profiles.toList.countP fun p => p.state = .loading) ≤ 1

/-- Every sample of a capture area is UNSET, INVALID or a radius from 300,000 to 700,000 µm (R107). -/
def State.samplesInRange (s : State) : Prop :=
  ∀ c ∈ s.capture.areas.toList, ∀ x ∈ c,
    match x.2 with
    | .unset => True
    | .invalid => True
    | .radius r => 300000 ≤ r ∧ r ≤ 700000

/-- The serials a slot holds (R22). -/
def Slot.serials (sl : Slot) : List Nat := sl.serial.toList ++ (sl.incoming.map fun x => x.serial).toList

/-- The stations a slot is bound to or asks for (R22). -/
def Slot.claims (sl : Slot) : List Station :=
  sl.binding.toList ++ sl.requested.toList ++ (sl.incoming.bind fun x => x.requested).toList

/-- No two slots hold one serial, no station is bound to or asked for by two slots, and the recency ranks are 0
to 3, one each (R22, R23). -/
def State.slotsDistinct (s : State) : Prop :=
  (s.context.slots.toList.flatMap Slot.serials).Nodup ∧ (s.context.slots.toList.flatMap Slot.claims).Nodup ∧
    (s.context.slots.toList.map fun sl => sl.rank).Perm [0, 1, 2, 3]

/-- The LOADs the store FIFO holds for a slot. -/
def Store.loadsFor (st : Store) (i : Ix) : Nat :=
  st.fifo.countP fun r => match r with
    | .load _ j => j = i
    | _ => false

/-- Whether a slot waits for a LOAD: LOADING, or WRITING with an incoming (R26, R27). -/
def Slot.awaitsLoad (sl : Slot) : Bool :=
  match sl.state with
  | .loading => true
  | .writing => sl.incoming.isSome
  | _ => false

/-- A bound slot is OPEN, and the FIFO holds one LOAD for each slot that waits for one and none for any other
(R22, R26, R27, R30). -/
def State.slotsServed (s : State) : Prop :=
  ∀ i, ((s.slot i).binding.isSome = true → (s.slot i).state = .openSlot) ∧
    s.store.loadsFor i = if (s.slot i).awaitsLoad then 1 else 0

/-- The Lift Group in form: the valves stand as R39 gives, the hold cause set is empty outside HOLD and the
fault cause none outside FAULT (R40). -/
def Lift.inForm (l : Lift) (relevel : Option (Four Bool)) : Prop :=
  l.revalve relevel = l ∧ (l.state ≠ .hold → l.holds = LiftCauses.empty) ∧
    (l.fault.isSome = true ↔ l.state = .fault)

/-- Level Maintenance in form: the backlog is 0 to 3 and above 0 while a re-level is under way, and outside
RAISED it is 0, no re-level is under way and the interval timer is stopped (R60, R61, R64). -/
def Level.inForm (v : Level) (l : LiftState) : Prop :=
  v.backlog ≤ 3 ∧ (v.relevel.isSome = true → 0 < v.backlog) ∧
    (l ≠ .raised → v.backlog = 0 ∧ v.relevel = none ∧ v.interval = .stopped)

/-- The Lift Group and Level Maintenance in form; the move timeout runs only in a leg and in a re-level
(R50). -/
def State.liftInForm (s : State) : Prop :=
  s.lift.inForm s.level.relevel ∧ s.level.inForm s.lift.state ∧
    (s.lift.moveTimer ≠ .stopped →
      s.lift.state = .raising ∨ s.lift.state = .lowering ∨ s.level.relevel.isSome = true)

/-- A Cutting Station in form: hold causes stand only in HOLDING and HELD and an abort kind only in ABORTING;
the revolution counter does not exceed the loaded total, and is 0 whenever pass begun is clear and cutting
entered is set (R160, R164). -/
def CutStation.inForm (x : CutStation) : Prop :=
  (x.state ≠ .holding → x.state ≠ .held → x.holds = CutCauses.empty) ∧
    (x.state ≠ .aborting → x.abortKind = .none) ∧ x.counter ≤ x.loaded ∧
    (x.begun = false → x.entered = true → x.counter = 0)

/-- Both Cutting Stations in form. -/
def State.stationsInForm (s : State) : Prop := ∀ st, (s.cut st).inForm

/-- The conditions under which a station may stand where it is: in APPROACH and CUTTING those of R160, and in
HOLDING and HELD the causes that stand in for the lift and the guard (R160, R167, R169). -/
def State.stationSafe (s : State) (st : Station) : Prop :=
  let x := s.cut st
  (x.state.inWork = true ∨ x.state = .held →
      (s.boundSlot st).isSome = true ∧ s.level? st.holddown = true ∧ (s.probe st).calMode = false) ∧
    (x.state = .approach ∨ x.state = .cutting →
      s.lift.state = .raised ∧ s.level? .guardClosed = true ∧ x.holds = CutCauses.empty) ∧
    (x.state = .holding ∨ x.state = .held →
      (s.lift.state = .raised ∨ x.holds.lift = true) ∧ (s.level? .guardClosed = true ∨ x.holds.guard = true))

/-- Cutting goes on only where it may (R160), over slots that keep their bindings and stations in form. -/
def State.cuttingSafe (s : State) : Prop := s.slotsServed ∧ s.stationsInForm ∧ ∀ st, s.stationSafe st

end Sys2Proof.Machine
end

