-- ==== Sys2Proof/WellFormed.lean ====
section
/-! DEFINITION. The commands that can reach the part: what a term of `Instr` must satisfy to stand for a frame
on the line or an event the manual describes. -/

namespace Sys2Proof

/-- The frame a command of the host is: its kind code (section 11.2), tag and payload. Rows that are no frame
have none. -/
def Instr.frame : Instr → Option (Byte × Byte × List Byte)
  | .status t p => some (0x01, t, p)
  | .setLink t p => some (0x02, t, p)
  | .setPit t p => some (0x10, t, p)
  | .setCut t p => some (0x11, t, p)
  | .profileBegin t p => some (0x12, t, p)
  | .profileData t p => some (0x13, t, p)
  | .profileResume t p => some (0x14, t, p)
  | .enrol t p => some (0x20, t, p)
  | .amend t p => some (0x21, t, p)
  | .retire t p => some (0x22, t, p)
  | .readRecord t p => some (0x23, t, p)
  | .openRecord t p => some (0x28, t, p)
  | .closeRecord t p => some (0x29, t, p)
  | .bind t p => some (0x2A, t, p)
  | .unbind t p => some (0x2B, t, p)
  | .logMeasurement t p => some (0x2C, t, p)
  | .raise t p => some (0x30, t, p)
  | .lower t p => some (0x31, t, p)
  | .liftStop t p => some (0x32, t, p)
  | .liftResume t p => some (0x33, t, p)
  | .faultClear t p => some (0x34, t, p)
  | .park t p => some (0x38, t, p)
  | .unpark t p => some (0x39, t, p)
  | .probeReference t p => some (0x40, t, p)
  | .calibrateOn t p => some (0x41, t, p)
  | .calibrateMeasure t p => some (0x42, t, p)
  | .calibrateOff t p => some (0x43, t, p)
  | .sweep t p => some (0x48, t, p)
  | .sweepContinue t p => some (0x49, t, p)
  | .sweepStop t p => some (0x4A, t, p)
  | .readProfile t p => some (0x4B, t, p)
  | .measure t p => some (0x50, t, p)
  | .readMeasurement t p => some (0x51, t, p)
  | .planAuto t p => some (0x58, t, p)
  | .planPasses t p => some (0x59, t, p)
  | .cutStart t p => some (0x60, t, p)
  | .feedHold t p => some (0x61, t, p)
  | .resume t p => some (0x62, t, p)
  | .cutAbort t p => some (0x63, t, p)
  | .unknownKind k t p => some (k, t, p)
  | .frameAccepted _ => none
  | .receiveGap => none
  | .breakStart => none
  | .breakEnd => none
  | .silenceExpiry => none
  | .hostReadyChange _ => none
  | .replyFrameStart => none
  | .noticeFrameStart => none
  | .frameEnd => none
  | .headerScanComplete => none
  | .loadComplete => none
  | .writeComplete => none
  | .readComplete => none
  | .enrolComplete => none
  | .amendComplete => none
  | .retireComplete => none
  | .searchComplete => none
  | .liftPositionReport _ _ => none
  | .liftInPosition _ => none
  | .moveTimeout => none
  | .intervalExpiry => none
  | .dwellExpiry => none
  | .inputChange _ _ => none
  | .debounceExpiry _ => none
  | .probePadInPosition _ => none
  | .referenceReading _ _ _ => none
  | .settleExpiry _ => none
  | .ringInPosition _ => none
  | .calibrationReading _ _ _ => none
  | .rollerAngleReport _ _ => none
  | .rollerInPosition _ _ => none
  | .sweepCarriageInPosition _ => none
  | .sampleAnswer _ _ _ => none
  | .toolPositionReport _ _ _ => none
  | .toolApproachArrival _ => none
  | .toolBackoffArrival _ => none
  | .revolutionPulse _ => none
  | .reset _ => none

/-- A payload a frame can carry (R177). -/
def fitsFrame (payload : List Byte) : Bool := payload.length ≤ Config.payloadMax

/-- The checks on a term: a frame's payload has at most 240 bytes (R177); the kind of an UNKNOWN_KIND frame is
no command code (R181); FRAME_ACCEPTED carries at least one byte. -/
def Instr.wellFormed (i : Instr) : Bool :=
  (match i.frame with
   | some (_, _, p) => fitsFrame p
   | none => true) &&
    (match i with
     | .unknownKind k _ _ => decide (k ∉ Machine.commandKinds)
     | .frameAccepted l => !l.isEmpty
     | _ => true)

end Sys2Proof
end

