-- ==== Sys2Proof/Certificates/Slice0/Obligations.lean ====
section
/-! DEFINITION. The statements for the provers, family by family in the order of the manual's rules. A command of
the host is stated from the state `s1` in which its owner answers (`State.handed`): the frame has left the queue
and a load has been broken; `Only l s1 t` says that nothing outside the blocks of `l` differs. -/

open Sys2Proof Sys2Proof.Machine

/-! ## The queue of commands and the host link (chapter 11) -/

/-- One step carries out the command at the front of the queue over the queue's rest. That the block idles on an
empty queue is the model's choice (log entry 4). -/
def Obligations.StepCarriesOutFrontCommand : Prop :=
  (∀ (c : Instr) (rest : List Instr) (s : State),
    s.pending = c :: rest → step s = exec c { s with pending := rest }) ∧
  ∀ s : State, s.pending = [] → step s = .next s

/-- Every command answers a next state in every state, whatever its operands, and leaves the commands that wait
behind it alone. In the states where its rule speaks that next state is the rule's; that an event which cannot come
about there leaves the state as it is, and what a state no run reaches answers, are the model's choice (log entries
10 and 17). -/
def Obligations.EveryCommandAnswersNext : Prop :=
  ∀ (c : Instr) (s : State), ∃ t, exec c s = .next t ∧ t.pending = s.pending

/-- A whole frame on the line, after any bytes that are no sync byte, is accepted as the frame it spells: the
assembler reads back what the frame layout of R177 lays out. That FRAME_ACCEPTED carries the bytes received is the
model's choice (log entry 18). -/
def Obligations.ReceivedFrameIsAccepted : Prop :=
  ∀ (noise : List Byte) (kind tag : Byte) (payload : List Byte) (s : State),
    s.link.assembler = .hunting → (∀ b ∈ noise, b ≠ 0x96) → payload.length ≤ 240 →
    exec (.frameAccepted (noise ++ frameBytes kind tag payload)) s = .next (s.acceptFrame ⟨kind, tag, payload⟩)

/-- Where an accepted frame is placed (R179), with the silence supervisor restarted (R183): as the newest of a queue
with room, in an empty holding slot behind a full queue, and else over the frame held, which is lost. The oldest
frame is taken when the reply slot is empty, and a frame held moves into the queue; no frame is taken while a reply
waits, nor one behind an older frame (R179, R181). That the row of a command stands for the taking of its frame, which
is accepted and taken in one step when the queue is empty, and waits in the queue when it cannot be taken now, is the
model's choice (log entry 3). -/
def Obligations.FramesArePlacedAndTakenInOrder : Prop :=
  (∀ (kind tag : Byte) (payload : List Byte) (s : State),
    s.link.assembler = .hunting → payload.length ≤ 240 →
    let f : Frame := ⟨kind, tag, payload⟩
    let awake : Link := { s.link with supervisor := .running (s.link.timeout * 1000) }
    let next (l : Link) : Prop := exec (.frameAccepted (frameBytes kind tag payload)) s = .next { s with link := l }
    (s.link.queue.length < 4 → next { awake with queue := s.link.queue ++ [f] }) ∧
    (4 ≤ s.link.queue.length → s.link.holding = none → next { awake with holding := some f }) ∧
    (4 ≤ s.link.queue.length → s.link.holding ≠ none →
      next { awake with holding := some f, flags := { s.link.flags with overrun := true } })) ∧
  ((∀ (f : Frame) (rest : List Frame) (s : State), s.link.reply = none → s.link.queue = f :: rest →
    s.takeFrame f =
      some { s with link := { s.link with queue := rest ++ s.link.holding.toList, holding := none } }) ∧
  (∀ (f : Frame) (s : State), s.link.reply ≠ none → s.takeFrame f = none) ∧
  (∀ (f older : Frame) (rest : List Frame) (s : State), s.link.queue = older :: rest → older ≠ f →
    s.takeFrame f = none) ∧
  (∀ (f : Frame) (s : State), s.link.reply = none → s.link.queue = [] →
    s.takeFrame f = some { s with link := { s.link with supervisor := .running (s.link.timeout * 1000) } }) ∧
  ∀ (c : Instr) (kind tag : Byte) (payload : List Byte) (s : State), c.wellFormed = true →
    c.frame = some (kind, tag, payload) → s.takeFrame ⟨kind, tag, payload⟩ = none →
    exec c s = .next (s.acceptFrame ⟨kind, tag, payload⟩))

/-- A frame whose check differs from the one received, one whose length byte is above 240, and one broken by a gap
are discarded: DAMAGED is set, the assembler hunts again, and nothing else changes (R178). A gap between frames
does nothing. -/
def Obligations.DamagedFramesAreDiscarded : Prop :=
  ∀ s : State,
    let discarded : State := { s with link := { s.link with assembler := .hunting, flags.damaged := true } }
    (∀ (n kind tag : Byte) (payload check : List Byte), s.link.assembler = .hunting →
      n.toNat = payload.length → payload.length ≤ 240 → check.length = 2 →
      check ≠ natBytes 2 (crc16 (n :: kind :: tag :: payload)).toNat →
      exec (.frameAccepted (0x96 :: n :: kind :: tag :: payload ++ check)) s = .next discarded) ∧
    (∀ n : Byte, s.link.assembler = .hunting → 240 < n.toNat →
      exec (.frameAccepted [0x96, n]) s = .next discarded) ∧
    (∀ taken : List Byte, s.link.assembler = .assembling taken → exec .receiveGap s = .next discarded) ∧
    (s.link.assembler = .hunting → exec .receiveGap s = .next s)

/-- The start and the end of a break alike discard a partial frame, empty the queue and the holding slot, set
BREAK and make LINK pending unless masked; nothing else changes but the indication of a break in progress
(R180). -/
def Obligations.LineBreakEmptiesReceiver : Prop :=
  ∀ (s : State) (c : Instr) (on : Bool), (c = .breakStart ∧ on = true ∨ c = .breakEnd ∧ on = false) →
    ∃ t, exec c s = .next t ∧
      t.link =
        { s.link with
          assembler := .hunting, queue := [], holding := none, breakOn := on, flags.brk := true } ∧
      t.notices.get .link =
        (if (s.notices.get .link).masked then { s.notices.get .link with missed := true }
         else { s.notices.get .link with pending := true }) ∧
      (∀ src, src ≠ .link → t.notices.get src = s.notices.get src) ∧
      Only [.link, .notices] s t

/-- Every command whose payload has not the length its kind requires is answered BAD_LENGTH by the link, and a frame
of unknown kind UNKNOWN_KIND under kind 0xFF; no owner is reached (R181, checks 1 and 2). A parameter that names
no member of its list is answered WRONG_STATE by the link, and no owner is reached (R181, check 3). -/
def Obligations.MisshapenCommandsAreRefused : Prop :=
  ((∀ (c : Instr) (kind tag : Byte) (payload : List Byte) (n : Nat) (s s0 : State), c.wellFormed = true →
    c.frame = some (kind, tag, payload) → commandLength kind = some n → payload.length ≠ n →
    s.takeFrame ⟨kind, tag, payload⟩ = some s0 →
    exec c s = .next (s0.putReply ⟨kind + 0x80, tag, .badLength, .none⟩)) ∧
  (∀ (c : Instr) (kind tag : Byte) (payload : List Byte) (most : Nat) (s s0 : State),
    (c = .profileData tag payload ∧ kind = 0x13 ∧ most = 40 ∨
      c = .planPasses tag payload ∧ kind = 0x59 ∧ most = 16) →
    (byteAt payload 1 = 0 ∨ most < byteAt payload 1 ∨ payload.length ≠ 2 + 4 * byteAt payload 1) →
    s.takeFrame ⟨kind, tag, payload⟩ = some s0 →
    exec c s = .next (s0.putReply ⟨kind + 0x80, tag, .badLength, .none⟩)) ∧
  ∀ (kind tag : Byte) (payload : List Byte) (s s0 : State), kind ∉ commandKinds →
    s.takeFrame ⟨kind, tag, payload⟩ = some s0 →
    exec (.unknownKind kind tag payload) s = .next (s0.putReply ⟨0xFF, tag, .unknownKind, .none⟩)) ∧
  (∀ (c : Instr) (kind tag : Byte) (payload : List Byte) (s s0 : State), c.wellFormed = true →
    c.frame = some (kind, tag, payload) →
    (commandLength kind = some payload.length ∨
      kind = 0x59 ∧ 1 ≤ byteAt payload 1 ∧ byteAt payload 1 ≤ 16 ∧ payload.length = 2 + 4 * byteAt payload 1) →
    unlisted kind payload = true → s.takeFrame ⟨kind, tag, payload⟩ = some s0 →
    exec c s = .next (s0.putReply ⟨kind + 0x80, tag, .wrongState, .none⟩))

/-- The parameters of a command stand in its payload in the order its owner's rule names them, each in the width of
R177: what is laid out so is read back, for every command that has parameters and for those that have none. Of an
AMEND's fields those its change mask names are read, bit k for the k-th. That a position in READ RECORD has one
byte, and the places and numbers R177 does not fix, are the model's choice (log entry 8). -/
def Obligations.ParametersReadBack : Prop :=
  let long (x : Int) : Prop := -2147483648 ≤ x ∧ x < 2147483648
  (∀ h, long h → raiseParams (i32Bytes h) = .ok h) ∧
  (∀ st, stationParam (u8Bytes (stationNum st)) = .ok st) ∧
  (∀ n, n < 256 → statusParams (u8Bytes n) = .ok n ∧ profileResumeParams (u8Bytes n) = .ok n) ∧
  noParams [] = .ok () ∧
  (∀ st accept, cutStartParams (u8Bytes (stationNum st) ++ flagByte accept) = .ok (st, accept)) ∧
  (∀ id m f l, id < 256 → m < 256 → f < 256 → l < 256 →
    profileBeginParams (u8Bytes id ++ u8Bytes m ++ u8Bytes f ++ u8Bytes l) = .ok ⟨id, m, f, l⟩) ∧
  (∀ st f l (mode : SweepMode), f < 256 → l < 256 →
    sweepParams (u8Bytes (stationNum st) ++ u8Bytes f ++ u8Bytes l ++ u8Bytes (if mode = .fresh then 0 else 1)) =
      .ok ⟨st, f, l, mode⟩) ∧
  (∀ (w : Wheel) k f c, k < 256 → f < 256 → c < 256 →
    readProfileParams (u8Bytes w.ix.num ++ u8Bytes k ++ u8Bytes f ++ u8Bytes c) = .ok ⟨w, k, f, c⟩) ∧
  (∀ n f c, n < 4294967296 → f < 256 → c < 256 →
    readRecordParams (natBytes 4 n ++ u8Bytes 0 ++ u8Bytes f ++ u8Bytes c) = .ok (n, .header) ∧
    readRecordParams (natBytes 4 n ++ u8Bytes 1 ++ u8Bytes f ++ u8Bytes c) = .ok (n, .entries f c)) ∧
  (∀ (n unit bogie axle id : Nat) (r lastL lastR : Int) (state : RecordState) (m0 m1 m2 m3 m4 m5 m6 m7 : Bool),
    n < 4294967296 → unit < 65536 → bogie < 256 → axle < 256 → id < 256 → long r → long lastL → long lastR →
    amendParams
        (natBytes 4 n ++ u8Bytes (setNat [m0, m1, m2, m3, m4, m5, m6, m7]) ++ natBytes 2 unit ++ u8Bytes bogie ++
          u8Bytes axle ++ u8Bytes id ++ i32Bytes r ++ u8Bytes (if state = .inService then 0 else 1) ++
          i32Bytes lastL ++ i32Bytes lastR) =
      .ok
        { serial := n, unit := if m0 then some unit else none, bogie := if m1 then some bogie else none,
          axle := if m2 then some axle else none, profileId := if m3 then some id else none,
          condemning := if m4 then some r else none, state := if m5 then some state else none,
          lastL := if m6 then some lastL else none, lastR := if m7 then some lastR else none }) ∧
  (∀ n, n < 4294967296 → serialParam (natBytes 4 n) = .ok n) ∧
  (∀ n st, n < 4294967296 → bindParams (natBytes 4 n ++ u8Bytes (stationNum st)) = .ok (n, st)) ∧
  (∀ n w st, n < 4294967296 → w < 4294967296 →
    openParams (natBytes 4 n ++ natBytes 4 w ++ u8Bytes (bindingNum st)) = .ok ⟨n, w, st⟩) ∧
  (∀ n unit bogie axle id r, n < 4294967296 → unit < 65536 → bogie < 256 → axle < 256 → id < 256 → long r →
    enrolParams (natBytes 4 n ++ natBytes 2 unit ++ u8Bytes bogie ++ u8Bytes axle ++ u8Bytes id ++ i32Bytes r) =
      .ok ⟨n, unit, bogie, axle, id, r⟩) ∧
  (∀ timeout mask, timeout < 65536 → mask.length = 11 →
    setLinkParams (natBytes 2 timeout ++ natBytes 2 (setNat mask)) = .ok (timeout, mask)) ∧
  (∀ st l, 1 ≤ l.length → l.length ≤ 16 → (∀ x ∈ l, long x) →
    planPassesParams (u8Bytes (stationNum st) ++ u8Bytes l.length ++ l.flatMap i32Bytes) = .ok (st, l)) ∧
  (∀ id l, id < 256 → 1 ≤ l.length → l.length ≤ 40 → (∀ x ∈ l, long x) →
    profileDataParams (u8Bytes id ++ u8Bytes l.length ++ l.flatMap i32Bytes) = .ok (id, l)) ∧
  (∀ t : Pit, long t.clearance → long t.syncBand → long t.tripBand → long t.relevelBand →
    long t.datum.a → long t.datum.b → long t.ring.a → long t.ring.b → t.moveTimeout < 65536 →
    t.relevelInterval < 65536 → t.debounce < 65536 → t.probeSettle < 65536 → setPitParams t.bytes = .ok t) ∧
  ∀ t : CutTable, long t.cleanUp → long t.flangeLevel → long t.bogieBand → long t.unitBand →
    long t.flangeHeightLimit → long t.flangeThicknessMin → long t.runoutLimit → long t.qRough → long t.qFinish →
    long t.feed → setCutParams t.bytes = .ok t

/-- A refusal leaves everything as it was but for the link, which has taken the frame and holds the reply, and a
load that the command broke (R181, R193, section 11.9). -/
def Obligations.RefusedCommandChangesNothing : Prop :=
  ∀ (c : Instr) (kind tag : Byte) (payload : List Byte) (s t : State) (r : Reply),
    c.frame = some (kind, tag, payload) → s.link.reply = none → exec c s = .next t →
    t.link.reply = some r → r.code.accepts = false →
    r.tag = tag ∧ r.answer = .none ∧
    (∃ s0, s.takeFrame ⟨kind, tag, payload⟩ = some s0 ∧ t.link = { s0.link with reply := some r }) ∧
    t.setup.pit = s.setup.pit ∧ t.setup.cut = s.setup.cut ∧
    (∀ i, t.profile i = s.profile i ∨
      (s.profile i).state = .loading ∧ t.profile i = { s.profile i with state := .broken }) ∧
    Only [.link, .setup] s t

/-- STATUS answers with the content the source's snapshot would hold, and changes neither the pending state nor a
latch, a result list or an indication: nothing but the reply. A value that names no source is answered WRONG_STATE
(R187). The content of each of the eleven sources is what its owner's rule lists: LIFT with Level Maintenance,
INTERLOCK, STATION A and B with the plan in force or in execution, CAPTURE A and B with its counts over the window,
PROBE A and B, MEASURE, CONTEXT and LINK (R36, R58, R76, R82, R105, R122, R145, R157, R175, R188). -/
def Obligations.StatusReturnsContentAlone : Prop :=
  (∀ (tag n : Byte) (s s1 : State), s.handed 0x01 tag [n] = some s1 →
    (∀ src, Source.all[n.toNat]? = some src →
      exec (.status tag [n]) s = .next (s1.replied 0x01 tag .ok (.content (s1.content src)))) ∧
    (11 ≤ n.toNat → exec (.status tag [n]) s = .next (s1.replied 0x01 tag .wrongState .none))) ∧
  ∀ s : State,
    let current (st : Station) (m : Measurement) : Bool :=
      !m.stale && decide (m.epoch = s.level.epoch) && decide (m.material = (s.cut st).material)
    (∃ c, s.content .lift = .lift c ∧
      c.state = s.lift.state ∧ c.holds = s.lift.holds ∧ c.fault = s.lift.fault ∧
      c.interrupted = s.lift.interrupted ∧ c.move = s.lift.move ∧
      (∀ i, c.points.get i =
        ⟨(s.lift.points.get i).position, (s.lift.points.get i).demand, (s.lift.points.get i).valve,
          (s.lift.points.get i).paused, (s.lift.points.get i).arrived⟩) ∧
      c.backlog = s.level.backlog ∧ c.epoch = s.level.epoch ∧ c.relevel = s.level.relevel ∧
      c.urgent = s.level.urgent ∧ c.parkStep = s.level.parkStep ∧ c.dwell = s.level.dwell ∧
      c.unparkPending = s.level.unparkPending ∧ c.lockRaised = s.level.lockRaised ∧ c.relief = s.level.relief ∧
      (c.intervalRunning = true ↔ s.level.interval ≠ .stopped)) ∧
    (∃ c, s.content .interlock = .interlock c ∧
      ∀ i, c.get i = ⟨(s.inputs.get i).accepted, (s.inputs.get i).latch⟩) ∧
    (∀ st, let x := s.cut st
      s.content (.station st) =
        .station
          { state := x.state, holds := x.holds, counter := x.counter, loaded := x.loaded, begun := x.begun
            entered := x.entered, completed := x.completed, abortKind := x.abortKind, material := x.material
            plan := (s.plan st).filter fun p => p.inExecution || (s.boundSlot st).any fun i =>
              decide ((s.slot i).serial = some p.serial) && (s.slot i).measurement.any fun m =>
                decide (m.run = p.run) && current st m }) ∧
    (∀ st, ∃ c, s.content (.capture st) = .capture c ∧ c.sweep = s.sweepOf st ∧
      (c.current = true ↔ ∃ r, (s.sweepOf st).run = some r ∧ r.epoch = s.level.epoch ∧
        r.material = (s.cut st).material) ∧
      ∀ side first last,
        ((∃ r, (s.sweepOf st).run = some r ∧ first = r.first ∧ last = r.last) ∨
          (s.sweepOf st).run = none ∧ first = 0 ∧ last = 159) →
        let written (bad : Bool) : Nat := (s.capture.areas.get (st.wheel side).ix).countP fun x =>
          decide (first ≤ x.1 % 160) && decide (x.1 % 160 ≤ last) && decide (x.2 = .invalid) == bad
        c.counts.get side =
          { unset := 8 * (last + 1 - first) - (written true + written false), invalid := written true
            radii := written false }) ∧
    (∀ st, let p := s.probe st
      s.content (.probe st) =
        .probe
          { state := p.state, base := p.base, correction := p.correction, calibrated := p.calibrated
            calMode := p.calMode, calFault := p.calFault, refOutcome := p.refOutcome, result := p.result
            measure := match p.measure with
              | .none => none
              | .toRing => some none
              | .reading l => some (some l.length) }) ∧
    (∃ c, s.content .measure = .measure c ∧ (c.measuring = true ↔ s.engine.run ≠ none) ∧
      c.runNumber = s.engine.runNumber ∧ c.lastSearch = s.engine.lastSearch ∧
      ∀ st, let record := (s.boundSlot st).bind fun i => (s.slot i).measurement
        c.stations.get st =
          { delivered := s.engine.delivered.get st, serial := (s.boundSlot st).bind fun i => (s.slot i).serial
            item := record.map fun m =>
              { verdict := m.verdict, advisories := m.advisories, fitTarget := m.fitTarget, target := m.target
                removal := m.removal, current := current st m } }) ∧
    (∃ c, s.content .context = .context c ∧
      (∀ i, let sl := s.slot i
        c.slots.get i =
          { state := sl.state, serial := sl.serial, incoming := sl.incoming.map fun x => x.serial
            binding := sl.binding, workOrder := sl.workOrder, dirty := sl.dirty, rank := sl.rank
            requested := (sl.incoming.map fun x => x.requested).getD sl.requested }) ∧
      c.results = s.context.results ∧ c.resultsLost = s.context.resultsLost ∧
      c.storeResults = s.store.results ∧ c.storeResultsLost = s.store.resultsLost) ∧
    s.content .link =
      .link
        { flags := s.link.flags, restarted := s.link.restarted, breakOn := s.link.breakOn
          supervisor := s.link.supervisor, timeout := s.link.timeout
          mask := Source.all.map fun src => (s.notices.get src).masked, rate := s.link.rate
          queued := s.link.queue.length, holding := decide (s.link.holding ≠ none) }

/-- SET LINK writes the timeout, clamped into 1 to 60 s, and the mask: a source newly masked stops being pending and
is missed if it was; a source left unmasked becomes pending if it was missed or if its owner has something waiting,
and is no longer missed (R186). That bits 11 to 15 of the mask are not read is the model's reading (log entry 14).
-/
def Obligations.SetLinkWritesTimeoutAndMask : Prop :=
  ∀ (tag : Byte) (payload : List Byte) (timeout : Nat) (mask : List Bool) (s s1 : State),
    setLinkParams payload = .ok (timeout, mask) → s.handed 0x02 tag payload = some s1 →
    ∃ t, exec (.setLink tag payload) s = .next t ∧
      t.link =
        { s1.link with
          timeout := max 1 (min 60 timeout)
          reply := some ⟨0x82, tag, if 1 ≤ timeout ∧ timeout ≤ 60 then .ok else .adjusted, .none⟩ } ∧
      (∀ src bit, mask[Source.all.idxOf src]? = some bit →
        (t.notices.get src).masked = bit ∧
        (bit = true → (t.notices.get src).pending = false ∧
          ((t.notices.get src).missed = true ↔
            (s1.notices.get src).missed = true ∨ (s1.notices.get src).pending = true)) ∧
        (bit = false → (t.notices.get src).missed = false ∧
          ((t.notices.get src).pending = true ↔
            (s1.notices.get src).pending = true ∨ (s1.notices.get src).missed = true ∨
            (src = .interlock ∧ ∃ i, (s1.inputs.get i).latch = true) ∨
            (src = .context ∧ (s1.context.results ≠ [] ∨ s1.store.results ≠ []))))) ∧
      Only [.link, .notices] s1 t

/-- A reply starts when no frame is being sent and HOST_READY is asserted; it carries its code and the link flags as
they stand, which are then cleared; when it has been sent the reply slot is empty (R177, R181, R182, R184). A change
of HOST_READY moves nothing else. That the row of a frame that may not start leaves the state as it is is the
model's choice (log entry 10). -/
def Obligations.RepliesCarryAndClearTheLinkFlags : Prop :=
  ∀ s : State,
    (∀ r, s.link.sending = none → s.link.hostReady = true → s.link.reply = some r →
      exec .replyFrameStart s =
        .next
          { s with
            link :=
              { s.link with
                flags := LinkFlags.clear
                sending := some (.reply (frameBytes r.kind r.tag
                  (BitVec.ofNat 8 r.code.value ::
                    BitVec.ofNat 8 (setNat [s.link.flags.damaged, s.link.flags.overrun, s.link.flags.brk,
                      s.link.flags.silence]) :: r.answer.bytes))) } }) ∧
    (s.link.sending ≠ none ∨ s.link.hostReady = false ∨ s.link.reply = none →
      exec .replyFrameStart s = .next s) ∧
    (∀ bytes, s.link.sending = some (.reply bytes) →
      exec .frameEnd s = .next { s with link := { s.link with sending := none, reply := none } }) ∧
    (∀ src content bytes, s.link.sending = some (.notice src content bytes) →
      exec .frameEnd s = .next { s with link := { s.link with sending := none } }) ∧
    ∀ level, exec (.hostReadyChange level) s = .next { s with link := { s.link with hostReady := level } }

/-- With no reply waiting, the first pending source in the order of R184 sends its notice: it carries the source's
content as it stands, the source stops being pending, and taking the snapshot clears the INTERLOCK latches, empties
the CONTEXT result lists, or clears the LINK restarted indication (R184, R185, R188). While a reply waits no notice
starts. That the row of a notice that may not start leaves the state as it is is the model's choice (log entry 10).
-/
def Obligations.NoticesGoOutInTheirOrder : Prop :=
  (∀ (s : State) (before after : List Source) (src : Source),
    s.link.sending = none → s.link.hostReady = true → s.link.reply = none →
    Source.all = before ++ src :: after → (∀ x ∈ before, (s.notices.get x).pending = false) →
    (s.notices.get src).pending = true →
    ∃ t, exec .noticeFrameStart s = .next t ∧
      t.link =
        { s.link with
          sending := some (.notice src (s.content src) (frameBytes src.kind 0 (s.content src).bytes))
          restarted := if src = .link then false else s.link.restarted } ∧
      t.notices.get src = { s.notices.get src with pending := false } ∧
      (∀ x, x ≠ src → t.notices.get x = s.notices.get x) ∧
      t.inputs = (if src = .interlock then s.inputs.map fun x => { x with latch := false } else s.inputs) ∧
      t.context =
        (if src = .context then { s.context with results := [], resultsLost := false } else s.context) ∧
      t.store = (if src = .context then { s.store with results := [], resultsLost := false } else s.store) ∧
      Only [.link, .notices, .inputs, .context, .store] s t) ∧
  ∀ s : State,
    s.link.sending ≠ none ∨ s.link.hostReady = false ∨ s.link.reply ≠ none ∨
      (∀ src, (s.notices.get src).pending = false) → exec .noticeFrameStart s = .next s

/-- The expiry of the silence supervisor: it becomes expired, SILENCE is set, and LINK pending or missed; a lift in
RAISING or LOWERING holds with SILENCE, and one in RAISED with a re-level under way, which ends; a station in
APPROACH or CUTTING holds with SILENCE, a sweep in motion is paused with SILENCE; every other lift state, a station
in HOLDING or HELD and a paused sweep are left as they are; a lift that holds makes LIFT pending or missed (R53, R58,
R183). That an expiry of a supervisor that is not
running leaves the state as it is is the model's choice (log entry 10). -/
def Obligations.SilenceStopsMovingWork : Prop :=
  ∀ s : State,
    (∀ length, s.link.supervisor = .running length →
      ∃ t, exec .silenceExpiry s = .next t ∧
        t.link = { s.link with supervisor := .expired, flags.silence := true } ∧
        ((t.notices.get .link).pending = true ∨
          (s.notices.get .link).masked = true ∧ (t.notices.get .link).missed = true) ∧
        (s.lift.state = .raising ∨ s.lift.state = .lowering →
          t.lift.state = .hold ∧ t.lift.holds = { LiftCauses.empty with silence := true } ∧
          t.lift.interrupted = some s.lift.state ∧ t.lift.move = s.lift.move ∧ s.liftTold t) ∧
        (s.lift.state = .raised → s.level.relevel ≠ none →
          t.lift.state = .hold ∧ t.lift.holds = { LiftCauses.empty with silence := true } ∧
          t.lift.interrupted = some .raised ∧ t.lift.move = s.lift.move ∧ t.level.backlog = 0 ∧
          t.level.relevel = none ∧ t.level.epoch = s.level.epoch ∧ t.allStale ∧ s.liftTold t) ∧
        (s.lift.state = .raised → s.level.relevel = none → t.lift.state = .raised) ∧
        (¬(s.lift.state = .raised ∧ s.level.relevel ≠ none) → t.context = s.context ∧ t.engine = s.engine) ∧
        (s.lift.state = .parking ∨ s.lift.state = .parked ∨ s.lift.state = .unparking ∨ s.lift.state = .down ∨
            s.lift.state = .hold ∨ s.lift.state = .fault ∨ (∃ d, s.lift.state = .bridgeWait d) →
          t.lift = s.lift ∧ t.level = s.level) ∧
        (∀ st, ¬(s.lift.state = .raised ∧ s.level.relevel ≠ none) →
          ((s.cut st).state = .approach ∨ (s.cut st).state = .cutting →
            (t.cut st).state = .holding ∧ (t.cut st).holds = { CutCauses.empty with silence := true } ∧
            (t.cut st).heldAt = some (s.cut st).toolLateral) ∧
          ((s.sweepOf st).state = .indexing ∨ (s.sweepOf st).state = .traversing →
            t.sweepOf st =
              { s.sweepOf st with state := .paused, cause := some .silence, step := .none }) ∧
          ((s.cut st).state = .holding ∨ (s.cut st).state = .held ∧ s.level.backlog = 0 → t.cut st = s.cut st) ∧
          ((s.sweepOf st).state = .paused → t.sweepOf st = s.sweepOf st)) ∧
        Only [.link, .notices, .lift, .level, .stations, .axes, .capture, .context, .engine] s t) ∧
    (s.link.supervisor = .stopped ∨ s.link.supervisor = .expired → exec .silenceExpiry s = .next s)

/-! ## Setup tables and reference profiles (chapter 12) -/

/-- SET PIT with the pit at rest writes the whole table: each field clamped into its range and each length rounded
down to a multiple of 10, the trip band at least the sync band + 500; ADJUSTED when a value differs from the one
sent. Otherwise it is refused and the table left as it was (R189, R190). SET CUT likewise, the finishing depth
kept below the roughing depth; it also makes every measurement record stale and removes every plan not in
execution (R189, R190). -/
def Obligations.TablesAreSettledOnEntry : Prop :=
  (∀ (tag : Byte) (payload : List Byte) (x : Pit) (s s1 : State),
    setPitParams payload = .ok x → s.handed 0x10 tag payload = some s1 →
    let fit (lo hi v : Int) : Int := max lo (min hi v) / 10 * 10
    (s1.pitRests → ∃ t p, exec (.setPit tag payload) s = .next t ∧
      s1.answers t 0x10 tag (if p = x then .ok else .adjusted) (.pit p) ∧
      t.setup = { s1.setup with pit := some p } ∧
      p.clearance = fit 3000 15000 x.clearance ∧ p.syncBand = fit 500 3000 x.syncBand ∧
      p.tripBand = max (fit 2000 10000 x.tripBand) (p.syncBand + 500) ∧
      p.moveTimeout = max 10 (min 180 x.moveTimeout) ∧ p.relevelBand = fit 100 1000 x.relevelBand ∧
      p.relevelInterval = max 10 (min 900 x.relevelInterval) ∧ p.debounce = max 5 (min 200 x.debounce) ∧
      p.probeSettle = max 1 (min 30 x.probeSettle) ∧
      (∀ st, p.datum.get st = fit 300000 700000 (x.datum.get st) ∧
        p.ring.get st = fit 300000 700000 (x.ring.get st)) ∧
      Only [.setup, .link] s1 t) ∧
    (¬s1.pitRests → exec (.setPit tag payload) s = .next (s1.replied 0x10 tag .wrongState .none))) ∧
  (∀ (tag : Byte) (payload : List Byte) (x : CutTable) (s s1 : State),
    setCutParams payload = .ok x → s.handed 0x11 tag payload = some s1 →
    let fit (lo hi v : Int) : Int := max lo (min hi v) / 10 * 10
    (s1.pitRests → ∃ t p, exec (.setCut tag payload) s = .next t ∧
      s1.answers t 0x11 tag (if p = x then .ok else .adjusted) (.cut p) ∧
      t.setup = { s1.setup with cut := some p } ∧
      p.cleanUp = fit 0 2000 x.cleanUp ∧ p.flangeLevel = fit 5000 15000 x.flangeLevel ∧
      p.bogieBand = fit 0 2500 x.bogieBand ∧ p.unitBand = fit 0 10000 x.unitBand ∧
      p.flangeHeightLimit = fit 20000 40000 x.flangeHeightLimit ∧
      p.flangeThicknessMin = fit 15000 35000 x.flangeThicknessMin ∧ p.runoutLimit = fit 100 2000 x.runoutLimit ∧
      p.qRough = fit 500 5000 x.qRough ∧
      p.qFinish = min (fit 100 1000 x.qFinish) (p.qRough - 10) ∧ p.feed = fit 200 2000 x.feed ∧
      t.context.results = s1.context.results ∧ t.context.resultsLost = s1.context.resultsLost ∧
      (∀ i, t.slot i =
        { s1.slot i with measurement := (s1.slot i).measurement.map fun m => { m with stale := true } }) ∧
      (∀ st, t.plan st = (s1.plan st).filter fun p => p.inExecution) ∧
      Only [.setup, .context, .plans, .notices, .link] s1 t) ∧
    (¬s1.pitRests → exec (.setCut tag payload) s = .next (s1.replied 0x11 tag .wrongState .none)))

/-- PROFILE BEGIN with the pit at rest starts a load: the zone and the measuring station settled so that first < m <
last, the fill and every offset 0. PROFILE RESUME takes a BROKEN entry up again as it stands. Any other LOADING
entry has become BROKEN. Both are refused with an id above 3 or a pit not at rest (R192). PROFILE DATA to a LOADING
entry stores its offsets from the fill on, clamped into ±50,000 and 0 at the measuring station; what comes with the
fill at 160 is disregarded; at 160 the entry is COMPLETE. To any other entry it is DISREGARDED, and an id above 3 is
refused. In all three cases every other LOADING entry becomes BROKEN, and no table changes (R193). That a 0 sent at
the measuring station does not count as forced is the model's reading (log entry 15). -/
def Obligations.ProfileLoadsBeginFillAndResume : Prop :=
  ((∀ (tag : Byte) (payload : List Byte) (x : ProfileParams) (s s1 : State),
    profileBeginParams payload = .ok x → s.handed 0x12 tag payload = some s1 →
    (∀ i, i.num = x.id → s1.pitRests → ∃ t p, exec (.profileBegin tag payload) s = .next t ∧
      s1.answers t 0x12 tag
        (if p.zoneFirst = x.first ∧ p.zoneLast = x.last ∧ p.measuring = x.measuring then .ok else .adjusted)
        (.profileBegin i p) ∧
      p.state = .loading ∧ p.fill = 0 ∧ (∀ k, p.offset k = 0) ∧
      p.zoneFirst = min 157 x.first ∧ p.zoneLast = max (p.zoneFirst + 2) (min 159 x.last) ∧
      p.measuring = max (p.zoneFirst + 1) (min (p.zoneLast - 1) x.measuring) ∧
      t.setup = { s1.setup with profiles := s1.setup.profiles.set i p } ∧
      (∀ j, (s1.profile j).state ≠ .loading) ∧ Only [.setup, .link] s1 t) ∧
    (3 < x.id ∨ ¬s1.pitRests →
      exec (.profileBegin tag payload) s = .next (s1.replied 0x12 tag .wrongState .none))) ∧
  ∀ (tag id : Byte) (s s1 : State), s.handed 0x14 tag [id] = some s1 →
    (∀ i, i.num = id.toNat → s1.pitRests → (s1.profile i).state = .broken →
      ∃ t, exec (.profileResume tag [id]) s = .next t ∧
        s1.answers t 0x14 tag .ok (.profileFill i { s1.profile i with state := .loading }) ∧
        t.setup = { s1.setup with profiles := s1.setup.profiles.set i { s1.profile i with state := .loading } } ∧
        Only [.setup, .link] s1 t) ∧
    (3 < id.toNat ∨ ¬s1.pitRests ∨ (∀ i, i.num = id.toNat → (s1.profile i).state ≠ .broken) →
      exec (.profileResume tag [id]) s = .next (s1.replied 0x14 tag .wrongState .none))) ∧
  (∀ (tag : Byte) (payload : List Byte) (id : Nat) (l : List Int) (s s0 : State),
    profileDataParams payload = .ok (id, l) → s.takeFrame ⟨0x13, tag, payload⟩ = some s0 → Memory.wf s →
    let broken (p : Profile) : Profile := if p.state = .loading then { p with state := .broken } else p
    let tablesKept (t : State) : Prop := t.setup.pit = s0.setup.pit ∧ t.setup.cut = s0.setup.cut
    (∀ i, i.num = id → (s0.profile i).state = .loading → ∃ t, exec (.profileData tag payload) s = .next t ∧
      let p := s0.profile i
      let q := t.profile i
      let kept (k : Nat) (v : Int) : Int := if k = p.measuring then 0 else max (-50000) (min 50000 v)
      q.fill = max p.fill (min 160 (p.fill + l.length)) ∧
      q.state = (if q.fill = 160 then .complete else .loading) ∧
      q.measuring = p.measuring ∧ q.zoneFirst = p.zoneFirst ∧ q.zoneLast = p.zoneLast ∧
      (∀ k, k < 160 → ∀ v, (if p.fill ≤ k then l[k - p.fill]? else none) = some v → q.offset k = kept k v) ∧
      (∀ k, (k < p.fill ∨ p.fill + l.length ≤ k ∨ 160 ≤ k) → q.offset k = p.offset k) ∧
      s0.answers t 0x13 tag
        (if p.fill + l.length ≤ 160 ∧ (∀ k < l.length, l[k]? = (l[k]?).map (kept (p.fill + k))) then .ok
         else .adjusted) (.profileFill i q) ∧
      (∀ j, j ≠ i → t.profile j = broken (s0.profile j)) ∧ tablesKept t ∧ Only [.setup, .link] s0 t) ∧
    (∀ i, i.num = id → (s0.profile i).state ≠ .loading → ∃ t, exec (.profileData tag payload) s = .next t ∧
      s0.answers t 0x13 tag .disregarded .none ∧ t.profile i = s0.profile i ∧
      (∀ j, j ≠ i → t.profile j = broken (s0.profile j)) ∧ tablesKept t ∧ Only [.setup, .link] s0 t) ∧
    (3 < id → ∃ t, exec (.profileData tag payload) s = .next t ∧
      s0.answers t 0x13 tag .wrongState .none ∧ (∀ j, t.profile j = broken (s0.profile j)) ∧ tablesKept t ∧
      Only [.setup, .link] s0 t))

/-! ## Records and the history store (chapter 1) -/

/-- A serial of 0 or above 999,999,999 is answered NO_RECORD by ENROL, AMEND, RETIRE and READ RECORD before every
other case, the BUSY of the header scan included; nothing else happens (R11). -/
def Obligations.InvalidSerialNamesNoRecord : Prop :=
  ∀ (tag : Byte) (payload : List Byte) (s s1 : State),
    let invalid (n : Nat) : Prop := n = 0 ∨ 999999999 < n
    (∀ x, enrolParams payload = .ok x → invalid x.serial → s.handed 0x20 tag payload = some s1 →
      exec (.enrol tag payload) s = .next (s1.replied 0x20 tag .noRecord .none)) ∧
    (∀ x, amendParams payload = .ok x → invalid x.serial → s.handed 0x21 tag payload = some s1 →
      exec (.amend tag payload) s = .next (s1.replied 0x21 tag .noRecord .none)) ∧
    (∀ n, serialParam payload = .ok n → invalid n → s.handed 0x22 tag payload = some s1 →
      exec (.retire tag payload) s = .next (s1.replied 0x22 tag .noRecord .none)) ∧
    ∀ x, readRecordParams payload = .ok x → invalid x.1 → s.handed 0x23 tag payload = some s1 →
      exec (.readRecord tag payload) s = .next (s1.replied 0x23 tag .noRecord .none)

/-- ENROL, AMEND of a record not open, RETIRE and READ RECORD that the store must answer join the FIFO at its tail,
under the limit of six requests; the records themselves are as they were. A request that will change a record makes
the read window invalid for it (R8, R12 to R16). Over six, the command is BUSY. Before the header scan is done each
of the four is BUSY; after it they are refused DUPLICATE, STORE_FULL, RECORD_OPEN, CONTEXT_BUSY, BOUND, NO_RECORD
and RECORD_DAMAGED, each where its rule says so (R5, R12 to R15). Which serials count as enrolled with an ENROL and
a RETIRE both queued is the model's reading (log entry 5). -/
def Obligations.RecordCommandsJoinTheFifo : Prop :=
  (∀ (tag : Byte) (payload : List Byte) (s s1 : State) (n : Nat) (c : Instr) (kind : Byte) (r : Request)
    (code : Code), 1 ≤ n → n ≤ 999999999 → s.handed kind tag payload = some s1 → s1.store.scanned = true →
    s1.store.fifoServed → (c = .enrol tag payload ∨ s1.holder n = none) →
    (c = .enrol tag payload ∧ kind = 0x20 ∧ (∃ x w k, enrolParams payload = .ok x ∧ x.serial = n ∧
        r = .enrol n w k tag ∧ w.unit = max 1 (min 65535 x.unit) ∧ w.bogie = max 1 (min 32 x.bogie) ∧
        w.axle = (if x.axle = 1 then .trailing else .leading) ∧ w.profileId.num = min 3 x.profileId ∧
        w.condemning = max 300000 (min 700000 x.condemning) ∧ w.state = .inService ∧
        w.lastRadius = ⟨none, none⟩ ∧ w.nextSequence = some 1 ∧ w.entries = [] ∧
        code = (if w.unit = x.unit ∧ w.bogie = x.bogie ∧ x.axle ≤ 1 ∧ w.profileId.num = x.profileId ∧
          w.condemning = x.condemning then .ok else .adjusted) ∧
        (s1.store.enrolled n = false ∧ s1.store.freePlace = some k ∨
          s1.store.enrolled n = true ∧ s1.store.placeOf n = some k ∧ s1.store.marked n = true ∧
            s1.store.enrolQueued n = false)) ∨
      c = .amend tag payload ∧ kind = 0x21 ∧ (∃ x, amendParams payload = .ok x ∧ x.serial = n ∧
        r = .amend n x.changes tag ∧ code = (if x.changed then .adjusted else .ok) ∧
        s1.store.enrolled n = true ∧ (s1.store.marked n = false ∨ s1.store.enrolQueued n = true)) ∨
      c = .retire tag payload ∧ kind = 0x22 ∧ serialParam payload = .ok n ∧ r = .retire n tag ∧ code = .ok ∧
        s1.store.enrolled n = true ∨
      c = .readRecord tag payload ∧ kind = 0x23 ∧ (∃ part, readRecordParams payload = .ok (n, part)) ∧
        r = .read n tag ∧ code = .deferred ∧ s1.store.window.record n = none ∧ s1.store.enrolled n = true ∧
        (s1.store.marked n = false ∨ s1.store.enrolQueued n = true)) →
    (s1.store.fifo.length + 1 ≤ 6 → ∃ t, exec c s = .next t ∧ s1.answers t kind tag code .none ∧
      t.store.fifo = s1.store.fifo ++ [r] ∧ t.store.places = s1.store.places ∧ t.store.table = s1.store.table ∧
      t.store.results = s1.store.results ∧ t.store.resultsLost = s1.store.resultsLost ∧
      t.store.scanned = s1.store.scanned ∧ t.store.fifoServed ∧
      (∀ r, s1.store.service = some r → t.store.service = some r) ∧
      (∀ m, t.store.window.record m =
        if m = n ∧ c ≠ .readRecord tag payload then none else s1.store.window.record m) ∧
      Only [.store, .link] s1 t) ∧
    (6 < s1.store.fifo.length + 1 → exec c s = .next (s1.replied kind tag .busy .none))) ∧
  ∀ (tag : Byte) (payload : List Byte) (s s1 : State) (n : Nat) (c : Instr) (kind : Byte),
    1 ≤ n → n ≤ 999999999 → s.handed kind tag payload = some s1 →
    (c = .enrol tag payload ∧ kind = 0x20 ∧ (∃ x, enrolParams payload = .ok x ∧ x.serial = n) ∨
      c = .amend tag payload ∧ kind = 0x21 ∧ (∃ x, amendParams payload = .ok x ∧ x.serial = n) ∨
      c = .retire tag payload ∧ kind = 0x22 ∧ serialParam payload = .ok n ∨
      c = .readRecord tag payload ∧ kind = 0x23 ∧ ∃ part, readRecordParams payload = .ok (n, part)) →
    let refused (code : Code) : Prop := exec c s = .next (s1.replied kind tag code .none)
    let spoiled : Prop := s1.store.marked n = true ∧ s1.store.enrolQueued n = false
    (s1.store.scanned = false → refused .busy) ∧
    (s1.store.scanned = true →
      (kind = 0x20 → s1.store.enrolled n = true → ¬spoiled → refused .duplicate) ∧
      (kind = 0x20 → s1.store.enrolled n = false → s1.store.freePlace = none → refused .storeFull) ∧
      (∀ i, s1.holder n = some i →
        (kind = 0x22 → refused .recordOpen) ∧
        (kind = 0x21 ∨ kind = 0x23 → (s1.slot i).state ≠ .openSlot → refused .contextBusy) ∧
        (kind = 0x21 → (s1.slot i).state = .openSlot → (s1.slot i).binding ≠ none → refused .bound)) ∧
      (s1.holder n = none → (kind = 0x23 → s1.store.window.record n = none) →
        (kind ≠ 0x20 → s1.store.enrolled n = false → refused .noRecord) ∧
        (kind = 0x21 ∨ kind = 0x23 → s1.store.enrolled n = true → spoiled → refused .recordDamaged)))

/-- AMEND of an open unbound record changes the working copy at once, each field its mask names clamped into its
range and every other kept, never its history or sequence number, and the slot becomes dirty and most recent; READ
RECORD of an open record answers from the working copy, and the slot becomes most recent; a record in the read
window is answered from there (R13, R15, R23, R24). -/
def Obligations.OpenRecordsAreAmendedAndRead : Prop :=
  (∀ (tag : Byte) (payload : List Byte) (x : AmendParams) (i : Ix) (r : Record) (s s1 : State),
    amendParams payload = .ok x → s.handed 0x21 tag payload = some s1 → 1 ≤ x.serial → x.serial ≤ 999999999 →
    s1.store.scanned = true → s1.holder x.serial = some i → (s1.slot i).state = .openSlot →
    (s1.slot i).binding = none → (s1.slot i).working = some r →
    ∃ t w, exec (.amend tag payload) s = .next t ∧
      s1.answers t 0x21 tag (if x.changed then .adjusted else .ok) .none ∧
      t.context = (s1.setSlot i { s1.slot i with working := some w, dirty := true }).context.touch i ∧
      w.unit = (x.unit.map fun v => max 1 (min 65535 v)).getD r.unit ∧
      w.bogie = (x.bogie.map fun v => max 1 (min 32 v)).getD r.bogie ∧
      w.axle = (x.axle.map fun v => if v = 1 then Axle.trailing else .leading).getD r.axle ∧
      w.profileId.num = (x.profileId.map fun v => min 3 v).getD r.profileId.num ∧
      w.condemning = (x.condemning.map fun v => max 300000 (min 700000 v)).getD r.condemning ∧
      w.state = x.state.getD r.state ∧
      (x.lastL = none → w.lastRadius.l = r.lastRadius.l) ∧ (x.lastR = none → w.lastRadius.r = r.lastRadius.r) ∧
      (∀ v, x.lastL = some v →
        w.lastRadius.l = if v = -2147483648 then none else some (max 300000 (min 700000 v))) ∧
      (∀ v, x.lastR = some v →
        w.lastRadius.r = if v = -2147483648 then none else some (max 300000 (min 700000 v))) ∧
      w.entries = r.entries ∧ w.nextSequence = r.nextSequence ∧ Only [.context, .link] s1 t) ∧
  ∀ (tag : Byte) (payload : List Byte) (n : Nat) (part : RecordPart) (r : Record) (s s1 : State),
    readRecordParams payload = .ok (n, part) → s.handed 0x23 tag payload = some s1 → 1 ≤ n → n ≤ 999999999 →
    s1.store.scanned = true →
    let answer : Code × Answer := match part with
      | .header => (.ok, .header n r)
      | .entries first count =>
        (if 1 ≤ count ∧ count ≤ 4 then .ok else .adjusted,
          .entries ((r.entries.drop first).take (max 1 (min 4 count))))
    (∀ i, s1.holder n = some i → (s1.slot i).state = .openSlot → (s1.slot i).working = some r →
      exec (.readRecord tag payload) s =
        .next { s1.replied 0x23 tag answer.1 answer.2 with context := s1.context.touch i }) ∧
    (s1.holder n = none → s1.store.window.record n = some r →
      exec (.readRecord tag payload) s = .next (s1.replied 0x23 tag answer.1 answer.2))

/-- The header scan builds the place table from the headers, with no mark, and the FIFO begins to be served (R5).
That a scan reported again leaves the state as it is is the model's choice (log entry 10). -/
def Obligations.HeaderScanBuildsThePlaceTable : Prop :=
  ∀ s : State, Memory.wf s →
    (s.store.scanned = false → s.store.service = none → ∃ t, exec .headerScanComplete s = .next t ∧
      t.store.scanned = true ∧ (∀ k, t.store.item k = ⟨(s.store.place k).header, false⟩) ∧
      t.store.places = s.store.places ∧ t.store.fifo = s.store.fifo ∧ t.store.fifoServed ∧
      (∀ i n rest, s.store.waiting = .write n i :: rest → t.slot i = { s.slot i with dirty := false }) ∧
      (∀ i, (∀ n rest, s.store.waiting ≠ .write n i :: rest) → t.slot i = s.slot i) ∧
      t.context.results = s.context.results ∧ t.context.resultsLost = s.context.resultsLost ∧
      t.store.window = s.store.window ∧ t.store.results = s.store.results ∧
      t.store.resultsLost = s.store.resultsLost ∧
      Only [.store, .context] s t) ∧
    (s.store.scanned = true → exec .headerScanComplete s = .next s)

/-- What the completion of a READ, ENROL, AMEND or RETIRE does to the records, the place table, the read window and
the store results; every other place is as it was, and the next request goes into service. A body written whole
stands with the CRC-16 computed from it, and reads back the record (R4 to R7, R12 to R18). The bytes over which that
CRC-16 is computed, `Record.bodyBytes`, have a layout that R4 does not give: it is the model's choice (log entry 12).
-/
def Obligations.RecordRequestsComplete : Prop :=
  ∀ (s : State) (n : Nat) (tag : Byte) (content : Option Record), Memory.wf s →
    let served (r : Request) : Prop := s.store.service = some ⟨r, content⟩
    let ends (c : Instr) (kind : ResultKind) (damaged : Bool) (t : State) : Prop :=
      exec c s = .next t ∧ t.store.results = added s.store.results ⟨kind, n, tag, damaged⟩ ∧
      t.store.resultsLost = (s.store.resultsLost || decide (8 ≤ s.store.results.length)) ∧ s.movesOn t ∧
      (∀ i, t.slot i = s.cleaned i (s.slot i)) ∧
      t.context.results = s.context.results ∧ t.notices = (s.notify .context).notices ∧
      Only [.store, .context, .notices] s t
    let keeps (t : State) (k : Nat) : Prop :=
      ∀ j, j ≠ k → t.store.place j = s.store.place j ∧ t.store.item j = s.store.item j
    (∀ k r, served (.read n tag) → s.store.placeOf n = some k → (s.store.place k).body = some r →
      ∃ t, ends .readComplete .read false t ∧ t.store.window = ⟨true, some (n, r)⟩ ∧
        t.store.places = s.store.places ∧ t.store.table = s.store.table) ∧
    (∀ k, served (.read n tag) → s.store.placeOf n = some k → (s.store.place k).body = none →
      ∃ t, ends .readComplete .read true t ∧ t.store.window = s.store.window ∧
        t.store.places = s.store.places ∧ keeps t k ∧ t.store.item k = { s.store.item k with damaged := true }) ∧
    (∀ k r, served (.enrol n r k tag) → ∃ t, ends .enrolComplete .enrol false t ∧
      t.store.window = s.store.window ∧ keeps t k ∧
      t.store.place k = ⟨some n, r, crc16 r.bodyBytes⟩ ∧ (t.store.place k).body = some r ∧
      t.store.item k = ⟨some n, false⟩) ∧
    (∀ k r x, served (.amend n x tag) → s.store.placeOf n = some k → (s.store.place k).body = some r →
      ∃ t, ends .amendComplete .amend false t ∧ t.store.window = s.store.window ∧ keeps t k ∧
        t.store.place k =
          { s.store.place k with content := r.amend x, check := crc16 (r.amend x).bodyBytes } ∧
        (t.store.place k).body = some (r.amend x) ∧
        t.store.item k = { s.store.item k with damaged := false }) ∧
    (∀ k x, served (.amend n x tag) → s.store.placeOf n = some k → (s.store.place k).body = none →
      ∃ t, ends .amendComplete .amend true t ∧ t.store.window = s.store.window ∧
        t.store.places = s.store.places ∧ keeps t k ∧ t.store.item k = { s.store.item k with damaged := true }) ∧
    (∀ k, served (.retire n tag) → s.store.placeOf n = some k → ∃ t, ends .retireComplete .retire false t ∧
      t.store.window = s.store.window ∧ keeps t k ∧
      t.store.place k = { s.store.place k with header := none } ∧ t.store.item k = ⟨none, false⟩)

/-- A WRITE that joins the FIFO for a serial with a WRITE waiting merges into it, and the FIFO is as it was; any
other joins at the tail, one whose only WRITE is in service among them (R9). -/
def Obligations.WritesMergeWithAWaitingWrite : Prop :=
  ∀ (s : State) (n : Nat) (i : Ix), s.store.fifoServed →
    ((∃ j, .write n j ∈ s.store.waiting) → (s.queueWrite n i).store.fifo = s.store.fifo) ∧
    ((∀ j, .write n j ∉ s.store.waiting) → (s.queueWrite n i).store.fifo = s.store.fifo ++ [.write n i])

/-- The five steps of an append (R3): an exhausted record refuses it; an entry in progress becomes INTERRUPTED with
its other fields kept; the new entry takes the next sequence number, which rises or is exhausted; the oldest of
sixteen is removed; the new entry is the newest. Sequence numbers so rise strictly. -/
def Obligations.AppendFollowsItsFiveSteps : Prop :=
  ∀ (e : Entry) (r : Record),
    (r.nextSequence = none → r.append e = none) ∧
    ∀ n, r.nextSequence = some n → ∃ w l, r.append e = some w ∧
      (r.entries = [] → l = []) ∧
      (∀ old x, r.entries = old ++ [x] → ∃ y, l = old ++ [y] ∧
        y = match x.kind with
          | .cut c => if c.outcome = .inProgress then { x with kind := .cut { c with outcome := .interrupted } } else x
          | .measure => x) ∧
      w = { r with
        nextSequence := if n = 65535 then none else some (n + 1)
        entries := (if 16 ≤ l.length then l.drop 1 else l) ++ [{ e with sequence := n }] } ∧
      (r.entries.length ≤ 16 → w.entries.length ≤ 16) ∧
      ((r.entries.map fun x => x.sequence).Pairwise (· < ·) → (∀ x ∈ r.entries, x.sequence < n) →
        (w.entries.map fun x => x.sequence).Pairwise (· < ·))

/-! ## Open records (chapter 2) -/

/-- OPEN of a serial that no slot holds: into the lowest FREE slot, or in place of the unbound OPEN slot used least
recently. A FREE slot and a clean victim become LOADING at once; a dirty victim becomes WRITING with the OPEN as its
incoming, behind a WRITE of its own record, which the read window then holds no more, and stays dirty unless that
WRITE goes into service at once. The LOAD joins the FIFO and the slot becomes most recent; the records and the place
table are as they were. The work order is clamped into 1 to 999,999 (R7 to R10, R16, R24 to R27). -/
def Obligations.OpenTakesASlot : Prop :=
  ∀ (tag : Byte) (payload : List Byte) (x : OpenParams) (i : Ix) (s s1 : State),
    openParams payload = .ok x → s.handed 0x28 tag payload = some s1 → 1 ≤ x.serial → x.serial ≤ 999999999 →
    s1.store.fifoServed → (∀ j, (s1.slot j).holds x.serial = false) →
    (∀ st, x.requested = some st → s1.boundSlot st = none ∧ s1.stationRequested st = false) →
    let order := max 1 (min 999999 x.workOrder)
    let code : Code := if 1 ≤ x.workOrder ∧ x.workOrder ≤ 999999 then .ok else .adjusted
    let victim : Prop := (∀ j, (s1.slot j).state ≠ .free) ∧ (s1.slot i).state = .openSlot ∧
      (s1.slot i).binding = none ∧ ∀ j, j ≠ i → (s1.slot j).state = .openSlot → (s1.slot j).binding = none →
        (s1.slot j).rank < (s1.slot i).rank
    ((s1.slot i).state = .free ∧ (∀ j, j.num < i.num → (s1.slot j).state ≠ .free) ∨
        victim ∧ (s1.slot i).dirty = false →
      s1.store.fifo.length + 1 ≤ 6 → ∃ t, exec (.openRecord tag payload) s = .next t ∧
        s1.answers t 0x28 tag code
          (.opened i (if (s1.slot i).state = .free then none else (s1.slot i).serial)) ∧
        t.context =
          (s1.setSlot i
            { Slot.free (s1.slot i).rank with
              state := .loading, serial := some x.serial, workOrder := some order,
              requested := x.requested }).context.touch i ∧
        t.store.fifo = s1.store.fifo ++ [.load x.serial i] ∧ t.store.fifoServed ∧
        (∀ r, s1.store.service = some r → t.store.service = some r) ∧ t.store.window = s1.store.window ∧
        t.store.places = s1.store.places ∧ t.store.table = s1.store.table ∧ t.store.scanned = s1.store.scanned ∧
        t.store.results = s1.store.results ∧ t.store.resultsLost = s1.store.resultsLost ∧
        Only [.context, .store, .link] s1 t) ∧
    ∀ n, victim → (s1.slot i).dirty = true → (s1.slot i).serial = some n →
      s1.store.fifo.length + (if s1.store.writeWaiting n then 1 else 2) ≤ 6 →
      ∃ t, exec (.openRecord tag payload) s = .next t ∧ s1.answers t 0x28 tag code (.opened i (some n)) ∧
        t.slot i =
          { s1.slot i with
            state := .writing, incoming := some ⟨x.serial, order, x.requested⟩, rank := 0
            dirty := !(s1.store.scanned && s1.store.service.isNone) } ∧
        (∀ j, j ≠ i → t.slot j = (s1.context.touch i).slots.get j) ∧
        t.context.results = s1.context.results ∧ t.context.resultsLost = s1.context.resultsLost ∧
        s1.writesBack t n i [.load x.serial i] ∧ Only [.context, .store, .link] s1 t

/-- No slot in LOADING or WRITING is chosen as a victim, and with every slot LOADING, WRITING or bound OPEN is
refused NO_SLOT (R35). OPEN is refused NO_RECORD for a serial that is none, ALREADY_OPEN or CONTEXT_BUSY for a
serial in a slot, STATION_BOUND for a station bound or asked for, and BUSY where its requests would pass six (R25,
R26). -/
def Obligations.SlotsInTransitAreNoVictims : Prop :=
  (∀ (s : State) (i : Ix), s.victim = some i →
    (s.slot i).state ≠ .loading ∧ (s.slot i).state ≠ .writing) ∧
  (∀ (tag : Byte) (payload : List Byte) (x : OpenParams) (s s1 : State),
    openParams payload = .ok x → s.handed 0x28 tag payload = some s1 → 1 ≤ x.serial → x.serial ≤ 999999999 →
    (∀ j, (s1.slot j).holds x.serial = false) →
    (∀ st, x.requested = some st → s1.boundSlot st = none ∧ s1.stationRequested st = false) →
    (∀ j, (s1.slot j).state = .loading ∨ (s1.slot j).state = .writing ∨
      (s1.slot j).state = .openSlot ∧ (s1.slot j).binding ≠ none) →
    exec (.openRecord tag payload) s = .next (s1.replied 0x28 tag .noSlot .none)) ∧
  ∀ (tag : Byte) (payload : List Byte) (x : OpenParams) (s s1 : State),
    openParams payload = .ok x → s.handed 0x28 tag payload = some s1 →
    let refused (code : Code) : Prop := exec (.openRecord tag payload) s = .next (s1.replied 0x28 tag code .none)
    let valid : Prop := 1 ≤ x.serial ∧ x.serial ≤ 999999999
    let taken : Prop := ∃ st, x.requested = some st ∧
      (s1.boundSlot st ≠ none ∨ s1.stationRequested st = true)
    (¬valid → refused .noRecord) ∧
    (∀ i, valid → s1.holder x.serial = some i →
      ((s1.slot i).state = .loading ∨ (s1.slot i).state = .openSlot ∨ (s1.slot i).serial ≠ some x.serial →
        refused .alreadyOpen) ∧
      ((s1.slot i).state = .writing → (s1.slot i).serial = some x.serial → refused .contextBusy)) ∧
    (valid → s1.holder x.serial = none → taken → refused .stationBound) ∧
    ∀ i, valid → s1.holder x.serial = none → ¬taken →
      let victim : Prop := (∀ j, (s1.slot j).state ≠ .free) ∧ (s1.slot i).state = .openSlot ∧
        (s1.slot i).binding = none ∧ ∀ j, j ≠ i → (s1.slot j).state = .openSlot → (s1.slot j).binding = none →
          (s1.slot j).rank < (s1.slot i).rank
      let adds : Nat := if (s1.slot i).state = .openSlot ∧ (s1.slot i).dirty = true ∧
          ¬∃ n, (s1.slot i).serial = some n ∧ s1.store.writeWaiting n = true then 2 else 1
      ((s1.slot i).state = .free ∧ (∀ j, j.num < i.num → (s1.slot j).state ≠ .free) ∨
          victim ∧ (s1.slot i).serial ≠ none) →
        6 < s1.store.fifo.length + adds → refused .busy

/-- A slot made most recent takes rank 0 and the slots that were more recent move back by one; a slot that becomes
FREE takes rank 3 and the slots behind it move up (R23). CLOSE is answered by its five cases in order: NOT_OPEN,
CONTEXT_BUSY in transit, BOUND, a clean slot FREE at once, a dirty slot WRITING with its WRITE joining the FIFO or
merging, or BUSY where a WRITE that joins would pass the limit (R30). -/
def Obligations.RanksShiftAndCloseFreesASlot : Prop :=
  (∀ (c : Context) (i j : Ix),
    (((c.touch i).slots.get j).rank =
      if j = i then 0
      else if (c.slots.get j).rank < (c.slots.get i).rank then (c.slots.get j).rank + 1
      else (c.slots.get j).rank) ∧
    { (c.touch i).slots.get j with rank := 0 } = { c.slots.get j with rank := 0 } ∧
    ((c.release i).slots.get j =
      if j = i then Slot.free 3
      else if (c.slots.get i).rank < (c.slots.get j).rank then
        { c.slots.get j with rank := (c.slots.get j).rank - 1 }
      else c.slots.get j) ∧
    (c.touch i).results = c.results ∧ (c.release i).results = c.results) ∧
  (∀ (tag : Byte) (payload : List Byte) (n : Nat) (s s1 : State),
    serialParam payload = .ok n → s.handed 0x29 tag payload = some s1 → s1.store.fifoServed →
    (s1.holder n = none → exec (.closeRecord tag payload) s = .next (s1.replied 0x29 tag .notOpen .none)) ∧
    ∀ i, s1.holder n = some i →
      ((s1.slot i).state ≠ .openSlot →
        exec (.closeRecord tag payload) s = .next (s1.replied 0x29 tag .contextBusy .none)) ∧
      ((s1.slot i).state = .openSlot → (s1.slot i).binding ≠ none →
        exec (.closeRecord tag payload) s = .next (s1.replied 0x29 tag .bound .none)) ∧
      ((s1.slot i).state = .openSlot → (s1.slot i).binding = none → (s1.slot i).dirty = false →
        exec (.closeRecord tag payload) s =
          .next { s1.replied 0x29 tag .ok .none with context := s1.context.release i }) ∧
      ((s1.slot i).state = .openSlot → (s1.slot i).binding = none → (s1.slot i).dirty = true →
        (∀ j, .write n j ∉ s1.store.waiting) → 6 < s1.store.fifo.length + 1 →
        exec (.closeRecord tag payload) s = .next (s1.replied 0x29 tag .busy .none)) ∧
      ((s1.slot i).state = .openSlot → (s1.slot i).binding = none → (s1.slot i).dirty = true →
        ((∃ j, .write n j ∈ s1.store.waiting) ∨ s1.store.fifo.length + 1 ≤ 6) →
        ∃ t, exec (.closeRecord tag payload) s = .next t ∧ s1.answers t 0x29 tag .ok .none ∧
          t.slot i =
            { s1.slot i with
              state := .writing, incoming := none, rank := 0
              dirty := !(s1.store.scanned && s1.store.service.isNone) } ∧
          (∀ j, j ≠ i → t.slot j = (s1.context.touch i).slots.get j) ∧
          t.context.results = s1.context.results ∧ t.context.resultsLost = s1.context.resultsLost ∧
          s1.writesBack t n i [] ∧ Only [.context, .store, .link] s1 t))

/-- BIND joins an open unbound record to a free station: the slot has no measurement, the station's two areas are
UNSET and its sweep record IDLE, and a run in progress marks the station rebound. It is refused NOT_OPEN,
CONTEXT_BUSY, BOUND and STATION_BOUND, in that order. UNBIND, with the lift DOWN and the station IDLE, removes the
binding, the measurement record and the plan. Both make the slot most recent (R31, R32, R123, R128). -/
def Obligations.BindAndUnbindStations : Prop :=
  (∀ (tag : Byte) (payload : List Byte) (n : Nat) (st : Station) (i : Ix) (s s1 : State),
    bindParams payload = .ok (n, st) → s.handed 0x2A tag payload = some s1 → s1.holder n = some i →
    (s1.slot i).state = .openSlot → (s1.slot i).binding = none → s1.boundSlot st = none →
    s1.stationRequested st = false →
    ∃ t, exec (.bind tag payload) s = .next t ∧ s1.answers t 0x2A tag .ok .none ∧
      t.context =
        (s1.setSlot i
          { s1.slot i with binding := some st, requested := none, measurement := none }).context.touch i ∧
      (∀ w : Wheel, t.capture.areas.get w.ix = if w.station = st then [] else s1.capture.areas.get w.ix) ∧
      t.sweepOf st = Sweep.idle ∧ t.sweepOf st.other = s1.sweepOf st.other ∧
      t.capture.angle = s1.capture.angle ∧
      t.capture.request.get st.other = s1.capture.request.get st.other ∧
      t.notices = (s1.notify (.capture st)).notices ∧
      t.engine = { s1.engine with
        run := s1.engine.run.map fun r =>
          { r with entries := r.entries.map fun x => if x.station = st then { x with rebound := true } else x } } ∧
      Only [.context, .capture, .engine, .notices, .link] s1 t) ∧
  (∀ (tag : Byte) (payload : List Byte) (n : Nat) (st : Station) (s s1 : State),
    bindParams payload = .ok (n, st) → s.handed 0x2A tag payload = some s1 →
    let refused (code : Code) : Prop := exec (.bind tag payload) s = .next (s1.replied 0x2A tag code .none)
    (s1.holder n = none → refused .notOpen) ∧
    ∀ i, s1.holder n = some i →
      ((s1.slot i).state ≠ .openSlot → refused .contextBusy) ∧
      ((s1.slot i).state = .openSlot → (s1.slot i).binding ≠ none → refused .bound) ∧
      ((s1.slot i).state = .openSlot → (s1.slot i).binding = none →
        s1.boundSlot st ≠ none ∨ s1.stationRequested st = true → refused .stationBound)) ∧
  ∀ (tag : Byte) (payload : List Byte) (st : Station) (s s1 : State),
    stationParam payload = .ok st → s.handed 0x2B tag payload = some s1 →
    (∀ i, s1.boundSlot st = some i → s1.lift.state = .down → (s1.cut st).state = .idle →
      ∃ t, exec (.unbind tag payload) s = .next t ∧ s1.answers t 0x2B tag .ok .none ∧
        t.context =
          (s1.setSlot i { s1.slot i with binding := none, measurement := none }).context.touch i ∧
        t.plan st = none ∧ t.plan st.other = s1.plan st.other ∧
        Only [.context, .plans, .notices, .link] s1 t) ∧
    (s1.boundSlot st = none ∨ s1.lift.state ≠ .down ∨ (s1.cut st).state ≠ .idle →
      exec (.unbind tag payload) s = .next (s1.replied 0x2B tag .wrongState .none))

/-- LOG MEASUREMENT at a station at rest appends a MEASURE entry made of the slot's work order and the measurement
record to the working copy, which becomes dirty; a CONDEMNED verdict condemns the record, and no verdict takes that
back. The measurement record is kept. It is refused WRONG_STATE without a binding or with the station at work,
NO_MEASUREMENT without a record, and RECORD_EXHAUSTED (R33). -/
def Obligations.LogMeasurementAppendsAnEntry : Prop :=
  (∀ (tag : Byte) (payload : List Byte) (st : Station) (i : Ix) (m : Measurement) (r : Record) (s s1 : State),
    stationParam payload = .ok st → s.handed 0x2C tag payload = some s1 → s1.boundSlot st = some i →
    (s1.cut st).state = .idle ∨ (s1.cut st).state = .stopped → (s1.slot i).measurement = some m →
    (s1.slot i).working = some r →
    let e : Entry :=
      { sequence := 0, kind := .measure, workOrder := (s1.slot i).workOrder.getD 0, verdict := m.verdict,
        wheels := m.wheels }
    (∀ w, r.append e = some w → ∃ t, exec (.logMeasurement tag payload) s = .next t ∧
      s1.answers t 0x2C tag .ok .none ∧
      t.context =
        (s1.setSlot i
          { s1.slot i with
            dirty := true
            working :=
              some { w with state := if m.verdict = .condemned then .condemned else r.state } }).context.touch i ∧
      Only [.context, .link] s1 t) ∧
    (r.nextSequence = none →
      exec (.logMeasurement tag payload) s = .next (s1.replied 0x2C tag .recordExhausted .none))) ∧
  ∀ (tag : Byte) (payload : List Byte) (st : Station) (s s1 : State),
    stationParam payload = .ok st → s.handed 0x2C tag payload = some s1 →
    let rests : Prop := (s1.cut st).state = .idle ∨ (s1.cut st).state = .stopped
    (s1.boundSlot st = none ∨ ¬rests →
      exec (.logMeasurement tag payload) s = .next (s1.replied 0x2C tag .wrongState .none)) ∧
    ∀ i, s1.boundSlot st = some i → rests → (s1.slot i).measurement = none →
      exec (.logMeasurement tag payload) s = .next (s1.replied 0x2C tag .noMeasurement .none)

/-- The completion of a LOAD: with the body good the record becomes the working copy of its slot, OPEN and clean,
and a requested binding is made, which empties the station's areas and marks its entry in a run in progress rebound;
with the body failing its check the place is marked and the slot becomes FREE; with no place the slot becomes FREE.
A context result is added, CONTEXT becomes pending or missed, with a binding the station's CAPTURE source too, and the
next request goes into service (R6, R10, R29, R31, R36, R122). The completion of a
WRITE rewrites the body of the place that holds the serial, its CRC-16 with it, and clears its mark; a slot WRITING
that serial, with no further WRITE of it waiting, then becomes LOADING its incoming record, or FREE (R4, R10, R28,
R36). The bytes over which the CRC-16 is computed, `Record.bodyBytes`, have a layout that R4 does not give: it is the
model's choice (log entry 12). -/
def Obligations.LoadsAndWritesEndInTheirSlots : Prop :=
  (∀ (s : State) (n : Nat) (i : Ix) (content : Option Record), s.store.service = some ⟨.load n i, content⟩ →
    let ends (o : ContextOutcome) (t : State) : Prop :=
      exec .loadComplete s = .next t ∧ t.context.results = added s.context.results ⟨i, n, o⟩ ∧
      t.context.resultsLost = (s.context.resultsLost || decide (8 ≤ s.context.results.length)) ∧ s.movesOn t ∧
      t.store.places = s.store.places ∧ t.store.window = s.store.window ∧ t.store.results = s.store.results ∧
      t.notices.get .context = (s.notices.get .context).event ∧
      Only [.store, .context, .notices, .capture, .engine] s t
    let tellsContext (t : State) : Prop := t.notices = (s.notify .context).notices
    (∀ k r, s.store.placeOf n = some k → (s.store.place k).body = some r → ∃ t, ends .loaded t ∧
      t.slot i =
        { s.slot i with
          state := .openSlot, working := some r, dirty := false, measurement := none, requested := none
          binding := match (s.slot i).requested with
            | some st => some st
            | none => (s.slot i).binding } ∧
      (∀ j, j ≠ i → t.slot j = s.cleaned j (s.slot j)) ∧ t.store.table = s.store.table ∧
      (∀ w : Wheel, t.capture.areas.get w.ix =
        if (s.slot i).requested = some w.station then [] else s.capture.areas.get w.ix) ∧
      (∀ st, t.sweepOf st = if (s.slot i).requested = some st then Sweep.idle else s.sweepOf st) ∧
      (∀ st, (s.slot i).requested = some st →
        t.notices = ((s.notify .context).notify (.capture st)).notices ∧ t.engine = { s.engine with
        run := s.engine.run.map fun r =>
          { r with entries := r.entries.map fun x => if x.station = st then { x with rebound := true } else x } }) ∧
      ((s.slot i).requested = none → t.capture = s.capture ∧ t.engine = s.engine ∧ tellsContext t)) ∧
    (∀ k, s.store.placeOf n = some k → (s.store.place k).body = none → ∃ t, ends .recordDamaged t ∧
      (∀ j, t.slot j = s.cleaned j ((s.context.release i).slots.get j)) ∧
      (Memory.wf s → t.store.item k = { s.store.item k with damaged := true } ∧
        ∀ j, j ≠ k → t.store.item j = s.store.item j) ∧
      t.capture = s.capture ∧ t.engine = s.engine ∧ tellsContext t) ∧
    (s.store.placeOf n = none → ∃ t, ends .noRecord t ∧
      (∀ j, t.slot j = s.cleaned j ((s.context.release i).slots.get j)) ∧
      t.store.table = s.store.table ∧ t.capture = s.capture ∧ t.engine = s.engine ∧ tellsContext t)) ∧
  (∀ (s : State) (n k : Nat) (i : Ix) (r : Record), s.store.service = some ⟨.write n i, some r⟩ →
    s.store.placeOf n = some k → Memory.wf s →
    ∃ t, exec .writeComplete s = .next t ∧
      t.store.place k = { s.store.place k with content := r, check := crc16 r.bodyBytes } ∧
      (t.store.place k).body = some r ∧
      t.store.item k = { s.store.item k with damaged := false } ∧
      (∀ j, j ≠ k → t.store.place j = s.store.place j ∧ t.store.item j = s.store.item j) ∧ s.movesOn t ∧
      t.store.window = s.store.window ∧ t.store.results = s.store.results ∧
      ((s.slot i).state = .writing → (s.slot i).serial = some n → s.store.slotWriteWaiting i = false →
        t.context.results = added s.context.results ⟨i, n, .writtenBack⟩ ∧
        t.context.resultsLost = (s.context.resultsLost || decide (8 ≤ s.context.results.length)) ∧
        t.notices = (s.notify .context).notices ∧
        ((s.slot i).incoming = none →
          ∀ j, t.slot j = s.cleaned j ((s.context.release i).slots.get j)) ∧
        (∀ x, (s.slot i).incoming = some x →
          t.slot i =
            { Slot.free (s.slot i).rank with
              state := .loading, serial := some x.serial, workOrder := some x.workOrder,
              requested := x.requested } ∧
          ∀ j, j ≠ i → t.slot j = s.cleaned j (s.slot j))) ∧
      ((s.slot i).state ≠ .writing ∨ (s.slot i).serial ≠ some n ∨ s.store.slotWriteWaiting i = true →
        t.context.results = s.context.results ∧ t.context.resultsLost = s.context.resultsLost ∧
          t.notices = s.notices ∧ ∀ j, t.slot j = s.cleaned j (s.slot j)) ∧
      Only [.store, .context, .notices] s t)

/-! ## The lift group, level maintenance and parking (chapters 3 and 4) -/

/-- RAISE with the checks passed: the height is clamped into 20,000 to 55,000; from a stationary or moving group a
move starts toward it, up when it is above the lowest point and down otherwise, with the bridge stop where the
move passes the clearance height; at the bridge stop the target changes or the wait is cut short. Leaving RAISED
makes every measurement stale and clears the backlog (R42, R45, R46, R56). LOWER with the checks passed starts a
move to 0 with the bridge stop, or goes straight to 0 below it; a group at rail is DOWN at once; at the bridge
stop a move up turns down and a move down waits on. In DOWN it is answered OK and changes nothing (R42, R43,
R45, R47, R56). What the LIFT source tells of, where it has changed, makes LIFT pending or missed (R58, R76). That a
LOWER in LOWERING decides the bridge stage anew, by R42, also where R47's words would keep the stage the group has, is
the model's choice (log entry 23). -/
def Obligations.RaiseAndLowerStartMoves : Prop :=
  let leaves (s1 t : State) : Prop :=
    (s1.lift.state = .raised → t.allStale ∧ s1.departs t ∧
      t.level = { s1.level with backlog := 0, interval := .stopped, relevel := none }) ∧
    (s1.lift.state ≠ .raised → t.level = { s1.level with relevel := none } ∧ t.context = s1.context ∧
      t.engine = s1.engine)
  (∀ (tag : Byte) (payload : List Byte) (h : Int) (pit : Pit) (s s1 : State),
    raiseParams payload = .ok h → s.handed 0x30 tag payload = some s1 → s1.setup.pit = some pit → s1.moveReady →
    let height := max 20000 (min 55000 h)
    let next (t : State) : Prop := exec (.raise tag payload) s = .next t ∧
      s1.answers t 0x30 tag (if 20000 ≤ h ∧ h ≤ 55000 then .ok else .adjusted) .none
    let up := s1.lift.lowest < height
    let stage : BridgeStage :=
      if up ∧ s1.lift.lowest ≤ pit.clearance ∨
          ¬up ∧ pit.clearance ≤ s1.lift.highest ∧ height < pit.clearance then .pending else .passed
    (s1.lift.state = .down ∨ s1.lift.state = .hold ∨ s1.lift.state = .raising ∨ s1.lift.state = .lowering ∨
        s1.lift.state = .raised → ∃ t, next t ∧
      t.lift = s1.lift.onLeg ⟨height, if up then .up else .down, stage⟩
        (if stage = .pending then pit.clearance else height) pit ∧
      leaves s1 t ∧ s1.tellsLift t ∧
      Only [.lift, .level, .context, .engine, .notices, .link] s1 t) ∧
    (∀ m, s1.lift.state = .bridgeWait .up → s1.lift.move = some m → s1.lift.inForm s1.level.relevel → ∃ t, next t ∧
      t.lift = { s1.lift with move := some { m with target := height } } ∧ t.level = s1.level ∧
      s1.tellsLift t ∧ Only [.lift, .notices, .link] s1 t) ∧
    ∀ m, s1.lift.state = .bridgeWait .down → s1.lift.move = some m → ∃ t, next t ∧
      t.lift = s1.lift.onLeg ⟨height, .up, .passed⟩ height pit ∧ t.level = { s1.level with relevel := none } ∧
      s1.tellsLift t ∧ Only [.lift, .level, .notices, .link] s1 t) ∧
  (∀ (tag : Byte) (s s1 : State), s.handed 0x31 tag [] = some s1 →
    let next (t : State) : Prop := exec (.lower tag []) s = .next t ∧ s1.answers t 0x31 tag .ok .none
    (s1.lift.state = .down → exec (.lower tag []) s = .next (s1.replied 0x31 tag .ok .none)) ∧
    ∀ pit, s1.setup.pit = some pit → s1.moveReady →
      (s1.lift.state = .hold ∨ s1.lift.state = .raising ∨ s1.lift.state = .lowering ∨ s1.lift.state = .raised →
        (pit.clearance ≤ s1.lift.highest → 0 < pit.clearance → ∃ t, next t ∧
          t.lift = s1.lift.onLeg ⟨0, .down, .pending⟩ pit.clearance pit ∧ leaves s1 t ∧
          s1.tellsLift t ∧ Only [.lift, .level, .context, .engine, .notices, .link] s1 t) ∧
        (s1.lift.highest < pit.clearance → 200 < s1.lift.highest → ∃ t, next t ∧
          t.lift = s1.lift.onLeg ⟨0, .down, .passed⟩ 0 pit ∧ leaves s1 t ∧
          s1.tellsLift t ∧ Only [.lift, .level, .context, .engine, .notices, .link] s1 t) ∧
        (s1.lift.highest < pit.clearance → s1.lift.highest ≤ 200 → ∃ t, next t ∧
          t.lift.state = .down ∧ t.lift.move = none ∧ t.lift.moveTimer = .stopped ∧
          (∀ i, t.lift.points.get i = { s1.lift.points.get i with
            demand := 0, valve := .closed, paused := false, pausedDir := none, arrived := false }) ∧
          leaves s1 t ∧ s1.tellsLift t ∧ Only [.lift, .level, .context, .engine, .notices, .link] s1 t)) ∧
      (∀ m, s1.lift.state = .bridgeWait .up → s1.lift.move = some m → 200 < s1.lift.highest → ∃ t, next t ∧
        t.lift = s1.lift.onLeg ⟨0, .down, .passed⟩ 0 pit ∧ t.level = { s1.level with relevel := none } ∧
        s1.tellsLift t ∧ Only [.lift, .level, .notices, .link] s1 t) ∧
      (∀ m, s1.lift.state = .bridgeWait .down → s1.lift.move = some m →
        exec (.lower tag []) s = .next (s1.replied 0x31 tag .ok .none)))

/-- RAISE and LOWER are refused in the order of their checks: in FAULT and the parking states, without a PIT table,
with an interlock away, with a station or a sweep at work; a LOWER in DOWN is answered OK after the first check and
changes nothing (R45). -/
def Obligations.MovesAreRefusedInOrder : Prop :=
  ∀ (c : Instr) (kind tag : Byte) (payload : List Byte) (s s1 : State),
    (c = .raise tag payload ∧ kind = 0x30 ∧ payload.length = 4 ∨
      c = .lower tag payload ∧ kind = 0x31 ∧ payload = []) →
    s.handed kind tag payload = some s1 →
    let refused (x : Code) : Prop := exec c s = .next (s1.replied kind tag x .none)
    let busy : Prop := s1.lift.state = .fault ∨ s1.lift.state = .parking ∨ s1.lift.state = .parked ∨
      s1.lift.state = .unparking
    let atRest : Prop := kind = 0x31 ∧ s1.lift.state = .down
    let away : Prop := ∃ i ∈ [Input.estopOk, .pressureOk, .toolhomeA, .toolhomeB, .probeParkedA, .probeParkedB],
      s1.level? i = false
    (busy → refused .wrongState) ∧ (atRest → exec c s = .next (s1.replied kind tag .ok .none)) ∧
    (¬busy → ¬atRest → s1.setup.pit = none → refused .notConfigured) ∧
    (¬busy → ¬atRest → s1.setup.pit ≠ none → away → refused .interlock) ∧
    (¬busy → ¬atRest → s1.setup.pit ≠ none → ¬away → ¬s1.moveReady → refused .wrongState)

/-- LIFT STOP holds a moving or waiting group where it stands, with cause HOST; FAULT CLEAR turns a fault into a
hold for the host; both keep the move. LIFT RESUME continues the recorded move from the present positions, or
returns a group held in RAISED to RAISED, where a new level epoch begins; a cause still present refuses it, a tool
or probe not home INTERLOCK, a station or sweep at work WRONG_STATE, and nothing to resume NO_MOVE. LIFT STOP takes
PARKING and UNPARKING into HOLD with the locks and the relief let go, and in PARKED it takes back a deferred UNPARK
alone (R51 to R55, R57, R61, R75). What the LIFT source tells of, where it has changed, a cause added in HOLD among it,
makes LIFT pending or missed (R58, R76). -/
def Obligations.HoldsStopAndResume : Prop :=
  ∀ (tag : Byte) (s s1 : State),
    (s.handed 0x32 tag [] = some s1 →
      (s1.lift.state = .raising ∨ s1.lift.state = .lowering ∨ (∃ d, s1.lift.state = .bridgeWait d) →
        ∃ t, exec (.liftStop tag []) s = .next t ∧ s1.answers t 0x32 tag .ok .none ∧
          t.lift = { s1.lift.halted .hold with holds := { LiftCauses.empty with host := true } } ∧
          t.level = { s1.level with relevel := none } ∧ s1.tellsLift t ∧
          Only [.lift, .level, .notices, .link] s1 t) ∧
      (s1.lift.state = .raised → ∃ t, exec (.liftStop tag []) s = .next t ∧ s1.answers t 0x32 tag .ok .none ∧
        t.lift = { s1.lift.halted .hold with holds := { LiftCauses.empty with host := true } } ∧ t.allStale ∧
        t.level = { s1.level with backlog := 0, interval := .stopped, relevel := none } ∧
        (∀ st, (s1.cut st).state = .approach ∨ (s1.cut st).state = .cutting →
          (t.cut st).state = .holding ∧ (t.cut st).holds = { CutCauses.empty with lift := true }) ∧
        (∀ st, (s1.sweepOf st).state = .indexing ∨ (s1.sweepOf st).state = .traversing →
          (t.sweepOf st).state = .paused ∧ (t.sweepOf st).cause = some .lift) ∧
        s1.departs t ∧ s1.liftTold t ∧
        Only [.lift, .level, .stations, .axes, .capture, .context, .engine, .notices, .link] s1 t) ∧
      (s1.lift.state = .hold → ∃ t, exec (.liftStop tag []) s = .next t ∧ s1.answers t 0x32 tag .ok .none ∧
        t.lift.holds = { s1.lift.holds with host := true } ∧ t.lift.state = .hold ∧
        t.lift.move = s1.lift.move ∧
        (s1.lift.inForm s1.level.relevel →
          t.lift = { s1.lift with holds := { s1.lift.holds with host := true } }) ∧
        s1.tellsLift t ∧ Only [.lift, .notices, .link] s1 t) ∧
      (s1.lift.state = .parking ∨ s1.lift.state = .unparking → ∃ t, exec (.liftStop tag []) s = .next t ∧
        s1.answers t 0x32 tag .ok .none ∧
        t.lift = { s1.lift.halted .hold with holds := { LiftCauses.empty with host := true } } ∧
        t.level = { s1.level with
          relevel := none, parkStep := none, relief := false, lockRaised := false, dwell := .stopped
          unparkPending := false } ∧
        s1.tellsLift t ∧ Only [.lift, .level, .notices, .link] s1 t) ∧
      (s1.lift.state = .parked → ∃ t, exec (.liftStop tag []) s = .next t ∧ s1.answers t 0x32 tag .ok .none ∧
        t.lift.state = .parked ∧ t.lift.holds = s1.lift.holds ∧
        (s1.lift.inForm s1.level.relevel → t.lift = s1.lift) ∧
        t.level = { s1.level with unparkPending := false } ∧ s1.tellsLift t ∧
        Only [.lift, .level, .notices, .link] s1 t) ∧
      (s1.lift.state = .down ∨ s1.lift.state = .fault →
        exec (.liftStop tag []) s = .next (s1.replied 0x32 tag .wrongState .none))) ∧
    (s.handed 0x33 tag [] = some s1 →
      (∀ m pit, s1.lift.state = .hold → s1.lift.move = some m → s1.setup.pit = some pit → s1.moveReady →
        (m.stage = .pending ∨ m.target ≠ 0 ∨ 200 < s1.lift.highest) →
        ∃ t, exec (.liftResume tag []) s = .next t ∧ s1.answers t 0x33 tag .ok .none ∧
          t.lift = s1.lift.onLeg m (if m.stage = .pending then pit.clearance else m.target) pit ∧
          t.level = { s1.level with relevel := none } ∧ s1.tellsLift t ∧
          Only [.lift, .level, .notices, .link] s1 t) ∧
      (s1.lift.state = .hold → s1.lift.move = none → s1.lift.interrupted = some .raised →
        s1.level? .estopOk = true → s1.level? .pressureOk = true → ∃ t, exec (.liftResume tag []) s = .next t ∧
          s1.answers t 0x33 tag .ok .none ∧ t.lift.state = .raised ∧ t.lift.holds = LiftCauses.empty ∧
          t.level.epoch = s1.level.epoch + 1 ∧
          (∀ i, (t.lift.points.get i).demand = (s1.lift.points.get i).demand) ∧
          t.store = s1.store ∧ t.context = s1.context ∧ t.probes = s1.probes ∧ t.plans = s1.plans ∧
          s1.liftTold t) ∧
      (s1.lift.state = .hold → (s1.level? .estopOk = false ∨ s1.level? .pressureOk = false) →
        exec (.liftResume tag []) s = .next (s1.replied 0x33 tag .causePresent .none)) ∧
      (s1.lift.state = .hold → s1.level? .estopOk = true → s1.level? .pressureOk = true →
        let home : Prop := ∀ i ∈ [Input.toolhomeA, .toolhomeB, .probeParkedA, .probeParkedB], s1.level? i = true
        let free : Prop := ∀ st, (s1.cut st).state = .idle ∧ (s1.sweepOf st).state ≠ .indexing ∧
          (s1.sweepOf st).state ≠ .traversing
        (s1.lift.move ≠ none → ¬home →
          exec (.liftResume tag []) s = .next (s1.replied 0x33 tag .interlock .none)) ∧
        (s1.lift.move ≠ none → home → ¬free →
          exec (.liftResume tag []) s = .next (s1.replied 0x33 tag .wrongState .none)) ∧
        (s1.lift.move = none → s1.lift.interrupted ≠ some .raised →
          exec (.liftResume tag []) s = .next (s1.replied 0x33 tag .noMove .none))) ∧
      (s1.lift.state ≠ .hold → exec (.liftResume tag []) s = .next (s1.replied 0x33 tag .wrongState .none))) ∧
    (s.handed 0x34 tag [] = some s1 →
      (s1.lift.state = .fault → ∃ t, exec (.faultClear tag []) s = .next t ∧ s1.answers t 0x34 tag .ok .none ∧
        t.lift.state = .hold ∧ t.lift.fault = none ∧ t.lift.holds = { LiftCauses.empty with host := true } ∧
        t.lift.move = s1.lift.move ∧ t.lift.interrupted = s1.lift.interrupted ∧
        (s1.lift.inForm s1.level.relevel → t.lift =
          { s1.lift with state := .hold, fault := none, holds := { LiftCauses.empty with host := true } }) ∧
        s1.tellsLift t ∧ Only [.lift, .notices, .link] s1 t) ∧
      (s1.lift.state ≠ .fault → exec (.faultClear tag []) s = .next (s1.replied 0x34 tag .wrongState .none)))

/-- A position report of a lift point, taken as 60,000 at most: a group that is not supervised only takes the
position. In a move, a spread above the trip band is a FAULT with cause TRIP; else a spread above the sync band
pauses the points that lead by more than half of it, one of half of it or less resumes all, and between the two the
flags stay; a leg to 0 ends in DOWN when the group is at rail. In a re-level the trip band holds over all four
points, and the pauses and resumes over the points of the set that have not arrived: every other point keeps its
flag. A trip and the arrival at rail make LIFT pending or missed; positions, pauses and resumptions do not (R38, R39,
R43, R48, R49, R51, R58, R65). -/
def Obligations.ReportsSuperviseTheMove : Prop :=
  ∀ (w : Wheel) (height : Nat) (s : State), s.lift.inForm s.level.relevel →
    let points := s.lift.points.set w.ix { s.lift.points.get w.ix with position := min (height : Int) 60000 }
    let l : Lift := { s.lift with points := points }
    let spread := l.highest - l.lowest
    let moving : Prop := s.lift.state = .raising ∨ s.lift.state = .lowering
    (¬moving → (s.lift.state = .raised → s.level.relevel = none) →
      exec (.liftPositionReport w height) s = .next { s with lift := l }) ∧
    (∀ pit m, s.setup.pit = some pit → s.lift.state = .raised → s.level.relevel = some m →
      (pit.tripBand < spread → ∃ t, exec (.liftPositionReport w height) s = .next t ∧
        t.lift = { l.halted .fault with fault := some .trip } ∧ t.allStale ∧
        t.level = { s.level with backlog := 0, interval := .stopped, relevel := none } ∧ s.departs t ∧
        s.liftTold t ∧ Only [.lift, .level, .stations, .axes, .capture, .context, .engine, .notices] s t) ∧
      (spread ≤ pit.tripBand → ∃ t, exec (.liftPositionReport w height) s = .next t ∧
        t.lift.state = .raised ∧ t.lift.moveTimer = s.lift.moveTimer ∧ Only [.lift] s t ∧
        (∀ i,
          let p := points.get i
          let q := t.lift.points.get i
          q.position = p.position ∧ q.demand = p.demand ∧ q.arrived = p.arrived ∧
          (m.get i = false ∨ p.arrived = true → q.paused = p.paused) ∧
          q.valve = if m.get i = true ∧ q.arrived = false ∧ q.paused = false then q.driving else .closed) ∧
        ∀ a b : Ix,
          let takesPart (i : Ix) : Prop := m.get i = true ∧ (points.get i).arrived = false
          let lo := (points.get a).position
          let hi := (points.get b).position
          takesPart a → takesPart b →
          (∀ i, takesPart i → lo ≤ (points.get i).position ∧ (points.get i).position ≤ hi) →
          ∀ i, takesPart i →
            let p := points.get i
            let q := t.lift.points.get i
            let dir : Option Dir := if p.paused then p.pausedDir
              else if p.position < p.demand then some .up
              else if p.demand < p.position then some .down else none
            let leads : Prop := dir = some .up ∧ pit.syncBand < 2 * (p.position - lo) ∨
              dir = some .down ∧ pit.syncBand < 2 * (hi - p.position)
            (pit.syncBand < hi - lo → (q.paused = true ↔ p.paused = true ∨ leads)) ∧
            (hi - lo ≤ pit.syncBand → 2 * (hi - lo) ≤ pit.syncBand → q.paused = false) ∧
            (hi - lo ≤ pit.syncBand → pit.syncBand < 2 * (hi - lo) → q.paused = p.paused))) ∧
    ∀ pit, s.setup.pit = some pit → moving →
      (pit.tripBand < spread → ∃ t, exec (.liftPositionReport w height) s = .next t ∧
        t.lift = { l.halted .fault with fault := some .trip } ∧ t.level = { s.level with relevel := none } ∧
        s.tellsLift t ∧ Only [.lift, .level, .notices] s t) ∧
      (spread ≤ pit.tripBand →
        ¬(s.lift.legToRail = true ∧ l.highest ≤ 200) → ∃ t,
        exec (.liftPositionReport w height) s = .next t ∧ t.lift.state = s.lift.state ∧
        t.lift.move = s.lift.move ∧ t.lift.moveTimer = s.lift.moveTimer ∧
        (∀ i,
          let p := points.get i
          let q := t.lift.points.get i
          let dir : Option Dir := if p.paused then p.pausedDir
            else if p.arrived then none
            else if p.position < p.demand then some .up
            else if p.demand < p.position then some .down else none
          let leads : Prop := dir = some .up ∧ pit.syncBand < 2 * (p.position - l.lowest) ∨
            dir = some .down ∧ pit.syncBand < 2 * (l.highest - p.position)
          q.position = p.position ∧ q.demand = p.demand ∧ q.arrived = p.arrived ∧
          (pit.syncBand < spread → (q.paused = true ↔ p.paused = true ∨ leads)) ∧
          (spread ≤ pit.syncBand → 2 * spread ≤ pit.syncBand → q.paused = false) ∧
          (spread ≤ pit.syncBand → pit.syncBand < 2 * spread → q.paused = p.paused) ∧
          q.valve = if q.arrived ∨ q.paused then .closed else q.driving) ∧
        Only [.lift] s t) ∧
      (spread ≤ pit.tripBand → s.lift.legToRail = true → l.highest ≤ 200 → ∃ t,
        exec (.liftPositionReport w height) s = .next t ∧ t.lift.state = .down ∧ t.lift.move = none ∧
        t.lift.moveTimer = .stopped ∧
        (∀ i, t.lift.points.get i = { points.get i with
          demand := 0, valve := .closed, paused := false, pausedDir := none }) ∧
        s.tellsLift t ∧ Only [.lift, .notices] s t)

/-- An in-position event marks its point as arrived and closes its valve; the last point of a leg to the clearance
height brings the group to the bridge stop, which ends at once when the bridges agree; the last point of a leg to a
raised target brings it to RAISED, with a new level epoch; the last point of a re-level completes it. An event for a
point that has arrived changes nothing; one that ends neither a leg nor a re-level, outside a leg and a re-level and on
a leg to 0 among them, only updates the record of its point. An accepted change of a bridge in BRIDGE_WAIT begins the second leg when
both bridges then agree with the direction, and nothing otherwise. The end of a leg or of a re-level makes LIFT pending
or missed (R38, R43, R44, R51, R57, R58, R61, R65, R76, R90). -/
def Obligations.ArrivalsEndLegsAndReLevels : Prop :=
  (∀ (w : Wheel) (s : State), s.lift.inForm s.level.relevel →
    let next (t : State) : Prop := exec (.liftInPosition w) s = .next t
    let others : Prop := ∀ j, j ≠ w.ix → (s.lift.points.get j).arrived = true
    ((s.lift.points.get w.ix).arrived = true → next s) ∧
    ((s.lift.points.get w.ix).arrived = false →
      ((s.lift.state = .raising ∨ s.lift.state = .lowering → ¬others ∨ s.lift.legToRail = true) →
        (∀ m, s.lift.state = .raised → s.level.relevel = some m →
          ∃ j, j ≠ w.ix ∧ m.get j = true ∧ (s.lift.points.get j).arrived = false) →
        next { s with lift := { s.lift with
          points := s.lift.points.set w.ix { s.lift.points.get w.ix with arrived := true, valve := .closed } } }) ∧
      (∀ m pit, s.lift.move = some m → m.stage = .pending → others → s.setup.pit = some pit →
        (s.lift.state = .raising ∧ m.dir = .up ∨ s.lift.state = .lowering ∧ m.dir = .down ∧ 200 < s.lift.highest) →
        let out := m.dir = .up
        ((s.level? .bridgeAOut = decide out ∧ s.level? .bridgeBOut = decide out) →
          ∃ t, next t ∧ t.lift.state = s.lift.state ∧ t.lift.move = some { m with stage := .passed } ∧
            (∀ i, (t.lift.points.get i).demand = m.target ∧ (t.lift.points.get i).arrived = false) ∧
            t.lift.moveTimer = .running (pit.moveTimeout * 1000) ∧ t.level = { s.level with relevel := none } ∧
            s.tellsLift t ∧ Only [.lift, .level, .notices] s t) ∧
        ((s.level? .bridgeAOut = !decide out ∨ s.level? .bridgeBOut = !decide out) →
          ∃ t, next t ∧ t.lift.state = .bridgeWait m.dir ∧ t.lift.move = some m ∧ t.lift.moveTimer = .stopped ∧
            (∀ i, (t.lift.points.get i).valve = .closed ∧ (t.lift.points.get i).paused = false) ∧
            s.tellsLift t ∧ Only [.lift, .notices] s t)) ∧
      (∀ m pit, s.lift.move = some m → m.stage = .passed → 0 < m.target → others → s.setup.pit = some pit →
        (s.lift.state = .raising ∨ s.lift.state = .lowering) → ∃ t, next t ∧
          t.lift.state = .raised ∧ t.lift.move = none ∧ t.level.epoch = s.level.epoch + 1 ∧
          t.level.interval = .running (pit.relevelInterval * 1000) ∧
          (∀ i, (t.lift.points.get i).demand = (s.lift.points.get i).demand) ∧
          t.context = s.context ∧ t.store = s.store ∧ t.plans = s.plans ∧ t.probes = s.probes ∧ s.liftTold t) ∧
      (∀ m, s.lift.state = .raised → s.level.relevel = some m → m.get w.ix = true →
        (∀ j, j ≠ w.ix → m.get j = true → (s.lift.points.get j).arrived = true) → ∃ t, next t ∧
          t.lift.state = .raised ∧ t.level.epoch = s.level.epoch + 1 ∧
          t.level.backlog ≤ s.level.backlog - 1 ∧ (s.level.backlog ≤ 1 → t.level.urgent = false) ∧
          t.level.interval = s.level.interval ∧ t.context = s.context ∧ t.store = s.store ∧ s.liftTold t))) ∧
  ∀ (i : Input) (s : State) (length : Nat) (m : Move) (pit : Pit), (i = .bridgeAOut ∨ i = .bridgeBOut) →
    (s.inputs.get i).timer = .running length → s.lift.state = .bridgeWait m.dir → s.lift.move = some m →
    s.setup.pit = some pit →
    let now (j : Input) : Bool := if j = i then (s.inputs.get i).raw else s.level? j
    let agree : Prop := now .bridgeAOut = decide (m.dir = .up) ∧ now .bridgeBOut = decide (m.dir = .up)
    (agree → (m.target ≠ 0 ∨ 200 < s.lift.highest) → ∃ t, exec (.debounceExpiry i) s = .next t ∧
      t.lift = s.lift.onLeg { m with stage := .passed } m.target pit ∧ t.level = { s.level with relevel := none } ∧
      t.notices = ((s.notify .interlock).notify .lift).notices ∧ Only [.lift, .level, .inputs, .notices] s t) ∧
    (¬agree → ∃ t, exec (.debounceExpiry i) s = .next t ∧ t.lift = s.lift ∧
      t.notices = (s.notify .interlock).notices ∧ Only [.inputs, .notices] s t)

/-- The expiry of the move timeout is a FAULT with cause TIMEOUT; that of the interval timer reloads it and raises
the backlog below 3: with the pit idle the owed re-level begins on the points off level, or, where none is off, all
that is owed is completed and an urgent demand ends; with a backlog of 3 and work going on an urgent demand holds
the stations and pauses the sweeps, and where only sweeps were in motion the re-level begins at once; a re-level
under way is not affected; that of the dwell timer in PARKED ends the dwell, and begins a deferred UNPARKING, as far as the pressure and the locks let it
(R50, R51, R62, R64, R65, R67, R68, R73, R74). Each of them that changes what LIFT tells of makes LIFT pending or missed,
and a reload alone does not (R58, R76). That an expiry of a timer that is not running leaves the state as it
is is the model's choice (log entry 10). -/
def Obligations.LiftTimersExpire : Prop :=
  ∀ s : State,
    (s.lift.moveTimer ≠ .stopped → ∃ t, exec .moveTimeout s = .next t ∧
      t.lift = { s.lift.halted .fault with fault := some .timeout } ∧ t.store = s.store ∧ t.plans = s.plans ∧
      (s.lift.state = .raised → t.allStale ∧ s.departs t ∧
        t.level = { s.level with backlog := 0, interval := .stopped, relevel := none } ∧
        s.liftTold t ∧ Only [.lift, .level, .stations, .axes, .capture, .context, .engine, .notices] s t) ∧
      (s.lift.state = .raising ∨ s.lift.state = .lowering →
        t.level = { s.level with relevel := none } ∧ s.tellsLift t ∧ Only [.lift, .level, .notices] s t)) ∧
    (s.lift.moveTimer = .stopped → exec .moveTimeout s = .next s) ∧
    (∀ pit length, s.setup.pit = some pit → s.level.interval = .running length → s.lift.state = .raised →
      (s.level.backlog < 3 → s.pitIdle = false →
        (s.level.backlog = 2 → s.level.urgent = false ∧ ∃ st, (s.cut st).state.inWork = true) → ∃ t,
        exec .intervalExpiry s = .next t ∧ t.level.backlog = s.level.backlog + 1 ∧
        t.level.interval = .running (pit.relevelInterval * 1000) ∧ t.level.epoch = s.level.epoch ∧
        s.liftTold t ∧
        (s.level.backlog < 2 → t.level.urgent = s.level.urgent ∧ s.tellsLift t ∧ Only [.lift, .level, .notices] s t) ∧
        (s.level.backlog = 2 → t.level.urgent = true ∧
          (∀ st, (s.cut st).state = .approach ∨ (s.cut st).state = .cutting →
            (t.cut st).state = .holding ∧ (t.cut st).holds = { CutCauses.empty with level := true }) ∧
          (∀ st, (s.cut st).state = .holding ∨ (s.cut st).state = .held →
            (t.cut st).state = (s.cut st).state ∧ (t.cut st).holds = { (s.cut st).holds with level := true }) ∧
          (∀ st, (s.sweepOf st).state = .indexing ∨ (s.sweepOf st).state = .traversing →
            (t.sweepOf st).state = .paused ∧ (t.sweepOf st).cause = some .level))) ∧
      (∀ m, s.level.backlog < 3 → s.level.relevel = some m → ∃ t, exec .intervalExpiry s = .next t ∧
        t.level.backlog = s.level.backlog + 1 ∧ t.level.relevel = some m ∧ t.level.epoch = s.level.epoch ∧
        t.level.interval = .running (pit.relevelInterval * 1000) ∧ (s.lift.inForm (some m) → t.lift = s.lift) ∧
        s.liftTold t ∧
        (s.pitIdle = true →
          t.level = { s.level with
            backlog := s.level.backlog + 1, interval := .running (pit.relevelInterval * 1000) } ∧
          s.tellsLift t ∧ Only [.lift, .level, .notices] s t)) ∧
      (s.level.backlog < 3 → s.pitIdle = true → s.level.relevel = none →
        s.lift.offLevel pit.relevelBand ≠ Four.const false → ∃ t, exec .intervalExpiry s = .next t ∧
        t.level = { s.level with
          backlog := s.level.backlog + 1, relevel := some (s.lift.offLevel pit.relevelBand)
          interval := .running (pit.relevelInterval * 1000) } ∧
        t.lift.moveTimer = .running (pit.moveTimeout * 1000) ∧
        (∀ i, (t.lift.points.get i).valve =
          if (s.lift.offLevel pit.relevelBand).get i ∧ (s.lift.points.get i).paused = false then
            (s.lift.points.get i).driving else .closed) ∧
        s.tellsLift t ∧ Only [.lift, .level, .notices] s t) ∧
      (let off := s.lift.offLevel pit.relevelBand
       let paid : Level := { s.level with
         backlog := 0, urgent := false, interval := .running (pit.relevelInterval * 1000) }
       let released (x : CutStation) : CutStation :=
         if { x.holds with level := false } = CutCauses.empty then
           { x with state := .approach, holds := CutCauses.empty }
         else { x with holds := { x.holds with level := false } }
       (s.level.backlog < 3 → s.pitIdle = true → s.level.relevel = none → off = Four.const false → ∃ t,
          exec .intervalExpiry s = .next t ∧ t.level = paid ∧ s.liftTold t ∧
          (s.level.urgent = false →
            t.notices = (s.notify .lift).notices ∧ Only [.lift, .level, .notices] s t) ∧
          (s.level.urgent = true →
            (∀ st, (s.cut st).state = .held → t.cut st = released (s.cut st)) ∧
            Only [.lift, .level, .stations, .axes, .notices] s t)) ∧
       (s.level.backlog = 2 → s.level.urgent = false → s.level.relevel = none → s.pitIdle = false →
          (∀ st, (s.cut st).state.inWork = false) → ∃ t, exec .intervalExpiry s = .next t ∧
          (∀ st, (s.sweepOf st).state = .indexing ∨ (s.sweepOf st).state = .traversing →
            t.sweepOf st = { s.sweepOf st with state := .paused, cause := some .level, step := .none }) ∧
          (off ≠ Four.const false →
            t.level = { paid with backlog := 3, urgent := true, relevel := some off } ∧
            ∀ st, (s.cut st).state = .held →
              t.cut st = { s.cut st with holds := { (s.cut st).holds with level := true } }) ∧
          (off = Four.const false →
            t.level = paid ∧ ∀ st, (s.cut st).state = .held → t.cut st = released (s.cut st)) ∧
          s.liftTold t ∧ Only [.lift, .level, .stations, .axes, .capture, .notices] s t)) ∧
      (3 ≤ s.level.backlog → ∃ t, exec .intervalExpiry s = .next t ∧
        t.level = { s.level with interval := .running (pit.relevelInterval * 1000) } ∧
        Only [.lift, .level] s t)) ∧
    (s.level.interval = .stopped → exec .intervalExpiry s = .next s) ∧
    (s.lift.state = .parked → s.level.dwell = .running → s.level.unparkPending = false →
      ∃ t, exec .dwellExpiry s = .next t ∧ t.level = { s.level with dwell := .expired } ∧
        s.tellsLift t ∧ Only [.lift, .level, .notices] s t) ∧
    (s.lift.state = .parked → s.level.dwell = .running → s.level.unparkPending = true →
      s.level? .pressureOk = false → ∃ t, exec .dwellExpiry s = .next t ∧ t.lift.state = .unparking ∧
      t.level = { s.level with
        dwell := .expired, unparkPending := false, relief := false, parkStep := some .pressureWait } ∧
      s.tellsLift t ∧ Only [.lift, .level, .notices] s t) ∧
    (s.lift.state = .parked → s.level.dwell = .running → s.level.unparkPending = true →
      s.level? .pressureOk = true → ∃ t, exec .dwellExpiry s = .next t ∧
      t.level.dwell = .expired ∧ t.level.unparkPending = false ∧
      t.level.relief = false ∧ t.level.lockRaised = false ∧
      (s.level? .locksEngaged = true → t.lift.state = .unparking ∧ t.level.parkStep = some .releaseWait ∧
        t.level.epoch = s.level.epoch ∧ s.tellsLift t ∧ Only [.lift, .level, .notices] s t) ∧
      (s.level? .locksEngaged = false → t.lift.state = .raised ∧ t.level.parkStep = none ∧
        t.level.epoch = s.level.epoch + 1 ∧ t.context = s.context ∧ t.store = s.store ∧
        t.probes = s.probes ∧ s.liftTold t)) ∧
    (s.lift.state ≠ .parked ∨ s.level.dwell ≠ .running → exec .dwellExpiry s = .next s)

/-- PARK takes a level, idle group out of RAISED onto the locks: it waits for them, or is PARKED with the dwell
running when they are engaged; otherwise it is refused (R70). UNPARK is answered by its checks in order (R72):
during the dwell it is deferred; after it UNPARKING begins in the wait for pressure or for the release of the locks,
or reaches RAISED at once, with a new level epoch, where neither is awaited. Each wait ends with the accepted change
it waits for; locks lost in PARKED, or before their release in UNPARKING, are a FAULT with cause LOCK_LOST; in other
states a change of the locks moves nothing. What the LIFT source tells of, where it has changed, makes LIFT pending or
missed (R58, R71, R73, R75, R76, R90). -/
def Obligations.ParkingAndUnparking : Prop :=
  (∀ (tag : Byte) (s s1 : State),
    (s.handed 0x38 tag [] = some s1 →
      (s1.lift.state = .raised → s1.pitIdle = true → s1.level.backlog = 0 → s1.level.urgent = false →
        ∃ t, exec (.park tag []) s = .next t ∧ s1.answers t 0x38 tag .ok .none ∧ t.allStale ∧
          t.lift.state = (if s1.level? .locksEngaged then .parked else .parking) ∧
          t.level = { s1.level with
            backlog := 0, interval := .stopped, relevel := none, lockRaised := true
            relief := s1.level.relief || s1.level? .locksEngaged
            parkStep := if s1.level? .locksEngaged then none else some .engageWait
            dwell := if s1.level? .locksEngaged then .running else s1.level.dwell
            unparkPending := s1.level.unparkPending && !s1.level? .locksEngaged } ∧
          (∀ i, (t.lift.points.get i).valve = .closed ∧
            (t.lift.points.get i).demand = (s1.lift.points.get i).demand) ∧
          (∀ st, (s1.cut st).state = .held → (t.cut st).holds = { (s1.cut st).holds with lift := true }) ∧
          s1.departs t ∧ s1.liftTold t ∧
          Only [.lift, .level, .context, .engine, .stations, .axes, .capture, .notices, .link] s1 t) ∧
      (s1.lift.state ≠ .raised ∨ s1.pitIdle = false →
        exec (.park tag []) s = .next (s1.replied 0x38 tag .wrongState .none)) ∧
      (s1.lift.state = .raised → s1.pitIdle = true → (0 < s1.level.backlog ∨ s1.level.urgent = true) →
        exec (.park tag []) s = .next (s1.replied 0x38 tag .levelPending .none))) ∧
    (s.handed 0x39 tag [] = some s1 →
      (s1.lift.state ≠ .parked → exec (.unpark tag []) s = .next (s1.replied 0x39 tag .wrongState .none)) ∧
      (s1.lift.state = .parked → s1.setup.pit = none →
        exec (.unpark tag []) s = .next (s1.replied 0x39 tag .notConfigured .none)) ∧
      (s1.lift.state = .parked → s1.setup.pit ≠ none →
      (s1.level? .estopOk = false → exec (.unpark tag []) s = .next (s1.replied 0x39 tag .interlock .none)) ∧
      (s1.level? .estopOk = true → s1.level.dwell = .running → ∃ t, exec (.unpark tag []) s = .next t ∧
        s1.answers t 0x39 tag .deferred .none ∧ t.level = { s1.level with unparkPending := true } ∧
        t.lift.state = .parked ∧ s1.tellsLift t ∧ Only [.lift, .level, .notices, .link] s1 t) ∧
      (s1.level? .estopOk = true → s1.level.dwell ≠ .running →
        (s1.level? .pressureOk = false ∨ s1.level? .locksEngaged = true) → ∃ t,
        exec (.unpark tag []) s = .next t ∧ s1.answers t 0x39 tag .ok .none ∧ t.lift.state = .unparking ∧
        t.level = { s1.level with
          relief := false, unparkPending := false
          lockRaised := s1.level.lockRaised && !s1.level? .pressureOk
          parkStep := if s1.level? .pressureOk then some .releaseWait else some .pressureWait } ∧
        s1.tellsLift t ∧ Only [.lift, .level, .notices, .link] s1 t) ∧
      (s1.level? .estopOk = true → s1.level.dwell ≠ .running → s1.level? .pressureOk = true →
        s1.level? .locksEngaged = false → ∃ t, exec (.unpark tag []) s = .next t ∧
        s1.answers t 0x39 tag .ok .none ∧ t.lift.state = .raised ∧ t.level.parkStep = none ∧
        t.level.lockRaised = false ∧ t.level.relief = false ∧ t.level.epoch = s1.level.epoch + 1 ∧
        t.context = s1.context ∧ t.store = s1.store ∧ t.probes = s1.probes ∧ s1.liftTold t)))) ∧
  ∀ (s : State) (length : Nat),
    let accepts (i : Input) (level : Bool) : Prop :=
      (s.inputs.get i).timer = .running length ∧ (s.inputs.get i).raw = level
    let lifted (t : State) : Prop := t.lift.state = .raised ∧ t.level.parkStep = none ∧
      t.level.lockRaised = (s.level.lockRaised && !decide (s.level.parkStep = some .pressureWait)) ∧
      t.level.epoch = s.level.epoch + 1 ∧
      (∀ i, (t.lift.points.get i).demand = (s.lift.points.get i).demand) ∧ t.context = s.context ∧
      t.store = s.store ∧ t.probes = s.probes ∧ t.plans = s.plans ∧ s.liftTold t
    let told (t : State) : Prop := t.notices = ((s.notify .interlock).notify .lift).notices
    (accepts .locksEngaged true → s.lift.state = .parking → s.level.parkStep = some .engageWait → ∃ t,
      exec (.debounceExpiry .locksEngaged) s = .next t ∧ t.lift.state = .parked ∧
      t.level = { s.level with relief := true, parkStep := none, dwell := .running, unparkPending := false } ∧
      told t ∧ Only [.lift, .level, .inputs, .notices] s t) ∧
    (accepts .pressureOk true → s.lift.state = .unparking → s.level.parkStep = some .pressureWait →
      (s.level? .locksEngaged = true → ∃ t, exec (.debounceExpiry .pressureOk) s = .next t ∧
        t.lift.state = .unparking ∧
        t.level = { s.level with lockRaised := false, parkStep := some .releaseWait } ∧
        told t ∧ Only [.lift, .level, .inputs, .notices] s t) ∧
      (s.level? .locksEngaged = false → ∃ t, exec (.debounceExpiry .pressureOk) s = .next t ∧ lifted t)) ∧
    (accepts .locksEngaged false → s.lift.state = .unparking → s.level.parkStep = some .releaseWait → ∃ t,
      exec (.debounceExpiry .locksEngaged) s = .next t ∧ lifted t) ∧
    (accepts .locksEngaged false →
      s.lift.state = .parked ∨ s.lift.state = .unparking ∧ s.level.parkStep = some .pressureWait → ∃ t,
      exec (.debounceExpiry .locksEngaged) s = .next t ∧
      t.lift = { s.lift.halted .fault with fault := some .lockLost } ∧
      t.level = { s.level with
        relevel := none, parkStep := none, relief := false, lockRaised := false, dwell := .stopped
        unparkPending := false } ∧
      told t ∧ Only [.lift, .level, .inputs, .notices] s t) ∧
    ∀ level, accepts .locksEngaged level → s.lift.state ≠ .parking → s.lift.state ≠ .parked →
      s.lift.state ≠ .unparking → ∃ t, exec (.debounceExpiry .locksEngaged) s = .next t ∧
      t.notices = (s.notify .interlock).notices ∧ Only [.inputs, .notices] s t

/-! ## Pit interlocks (chapter 5) -/

/-- A change of a raw level starts the debounce timer when it departs from the accepted level and stops it when it
returns; the expiry of a running timer makes the raw level the accepted one, sets the latch, and makes INTERLOCK
pending unless masked; an expired change of one input touches no other input. A change that ends no wait and is
no fall that a block acts on moves nothing else: a rise of ESTOP_OK, GUARD_CLOSED, HOLDDOWN_x and PROBE_PARKED_x, one of
PRESSURE_OK outside PRESSURE_WAIT and of TOOLHOME_x outside RETRACT and ABORTING, and a change of a bridge outside
BRIDGE_WAIT. The debounce time is that of the PIT table, or 20 ms without one (R79 to R81, R83, R90). That an expiry with the timer stopped leaves the state as it is is
the model's choice (log entry 10). -/
def Obligations.InputsAreDebounced : Prop :=
  ∀ (i : Input) (s : State),
    (∀ level, ∃ t, exec (.inputChange i level) s = .next t ∧
      t.inputs.get i =
        { s.inputs.get i with
          raw := level
          timer := if level = (s.inputs.get i).accepted then .stopped
            else if (s.inputs.get i).timer = .stopped then
              .running (match s.setup.pit with
                | some pit => pit.debounce
                | none => 20)
            else (s.inputs.get i).timer } ∧
      (∀ j, j ≠ i → t.inputs.get j = s.inputs.get j) ∧ Only [.inputs] s t) ∧
    ((s.inputs.get i).timer ≠ .stopped → ∃ t, exec (.debounceExpiry i) s = .next t ∧
      t.inputs.get i = { s.inputs.get i with accepted := (s.inputs.get i).raw, timer := .stopped, latch := true } ∧
      (∀ j, j ≠ i → t.inputs.get j = s.inputs.get j) ∧
      t.notices.get .interlock = (s.notices.get .interlock).event ∧
      t.probes = s.probes ∧ t.setup = s.setup ∧ t.link = s.link) ∧
    (let rises : Prop := (s.inputs.get i).raw = true
     (s.inputs.get i).timer ≠ .stopped →
      (rises ∧ i ∈ [Input.estopOk, .guardClosed, .holddownA, .holddownB, .probeParkedA, .probeParkedB] ∨
        rises ∧ i = .pressureOk ∧ ¬(s.lift.state = .unparking ∧ s.level.parkStep = some .pressureWait) ∨
        (∃ st : Station, rises ∧ i = st.toolhome ∧ (s.cut st).state ≠ .retract ∧ (s.cut st).state ≠ .aborting) ∨
        (i = .bridgeAOut ∨ i = .bridgeBOut) ∧ ∀ d, s.lift.state ≠ .bridgeWait d) →
      exec (.debounceExpiry i) s =
        .next
          { s with
            inputs := s.inputs.set i
              { s.inputs.get i with accepted := (s.inputs.get i).raw, timer := .stopped, latch := true }
            notices := (s.notify .interlock).notices }) ∧
    ((s.inputs.get i).timer = .stopped → exec (.debounceExpiry i) s = .next s)

/-- An accepted fall of ESTOP_OK stops every station that is not IDLE or STOPPED already, with a demand of where its
tools stand, ends its plan unless it was on its way home for recovery, abandons every sweep in motion or paused, and
holds the lift where it moves or is raised. A cut under way has its entry ABORTED with the passes completed, or, if
no pass had entered CUTTING, the record's radii and entries put back, and a WRITE of the record is in the FIFO (R53,
R75, R85, R172, R173). A lift that holds makes LIFT pending or missed (R58). -/
def Obligations.EmergencyStopStopsThePit : Prop :=
  ∀ (s : State) (length : Nat), (s.inputs.get .estopOk).timer = .running length →
    (s.inputs.get .estopOk).raw = false →
    ∃ t, exec (.debounceExpiry .estopOk) s = .next t ∧ t.level? .estopOk = false ∧
      (∀ st, (s.cut st).state ≠ .idle → (s.cut st).state ≠ .stopped →
        (t.cut st).holds = CutCauses.empty ∧ (t.cut st).abortKind = .none ∧ (t.cut st).heldAt = none ∧
        (¬((s.cut st).state = .aborting ∧ (s.cut st).abortKind = .recovery) → t.plan st = none) ∧
        ((s.sweepOf st).state.onStation = false → t.axes.roller.get st = .stop) ∧
        t.axes.tool.get st = .position (s.cut st).toolLateral (s.cut st).toolRadius) ∧
      (∀ st, (s.cut st).state ≠ .idle → (t.cut st).state = .stopped) ∧
      (∀ st, (s.cut st).state = .idle → t.cut st = s.cut st) ∧
      (∀ st i n r, s.boundSlot st = some i → (s.slot i).serial = some n → (s.slot i).working = some r →
        let x := s.cut st
        let cutting : Prop := x.state ≠ .idle ∧ x.state ≠ .stopped ∧
          ¬(x.state = .aborting ∧ x.abortKind = .recovery)
        (cutting → (t.cut st).preCut = none ∧ (∃ j, .write n j ∈ t.store.fifo) ∧
          (∀ rest e c, x.entered = true → r.entries = rest ++ [e] → e.kind = .cut c → c.outcome = .inProgress →
            (t.slot i).working =
              some { r with
                entries := rest ++ [{ e with kind := .cut { c with
                  outcome := .aborted, completed := x.completed, afterRadius := ⟨none, none⟩ } }] }) ∧
          ∀ kept, x.entered = false → x.preCut = some kept →
            (t.slot i).working = some { r with lastRadius := kept.lastRadius, entries := kept.entries }) ∧
        (¬cutting → (t.slot i).working = some r ∧ (t.cut st).preCut = x.preCut)) ∧
      t.store.places = s.store.places ∧ t.store.table = s.store.table ∧
      (∀ st, t.sweepOf st =
        if (s.sweepOf st).state = .indexing ∨ (s.sweepOf st).state = .traversing ∨
            (s.sweepOf st).state = .paused then
          { s.sweepOf st with state := .abandoned, cause := none, step := .none }
        else s.sweepOf st) ∧
      (s.lift.state = .raising ∨ s.lift.state = .lowering ∨ (∃ d, s.lift.state = .bridgeWait d) ∨
          s.lift.state = .raised ∨ s.lift.state = .parking ∨ s.lift.state = .unparking →
        t.lift.state = .hold ∧ t.lift.holds = { LiftCauses.empty with estop := true } ∧
        t.lift.interrupted = some s.lift.state ∧ s.liftTold t) ∧
      (s.lift.state = .hold → t.lift.state = .hold ∧ t.lift.holds = { s.lift.holds with estop := true }) ∧
      (s.lift.state = .down ∨ s.lift.state = .fault ∨ s.lift.state = .parked → t.lift.state = s.lift.state) ∧
      t.probes = s.probes

/-- An accepted fall of GUARD_CLOSED holds every station in APPROACH or CUTTING, adds GUARD to those in HOLDING and
HELD, and pauses every sweep in motion; one of HOLDDOWN_x aborts the work of its station, home at once with
TOOLHOME_x true, and leaves the other station's plan and the lift's state; one of PRESSURE_OK holds a lift that
moves, waits or is raised with PRESSURE; one of TOOLHOME_x or PROBE_PARKED_x holds a lift that moves or waits with
PRECONDITION; each adds its cause to a hold of a move, and else the lift stays. A lift that holds
makes LIFT pending or missed (R53, R56, R58, R86 to R89, R172). -/
def Obligations.GuardAndClampFallsStopWork : Prop :=
  ∀ (s : State) (length : Nat),
    let moves : Prop := s.lift.state = .raising ∨ s.lift.state = .lowering ∨ ∃ d, s.lift.state = .bridgeWait d
    ((s.inputs.get .pressureOk).timer = .running length → (s.inputs.get .pressureOk).raw = false →
      ∃ t, exec (.debounceExpiry .pressureOk) s = .next t ∧ t.level? .pressureOk = false ∧
        (moves → t.lift = { s.lift.halted .hold with holds := { LiftCauses.empty with pressure := true } } ∧
          t.level = { s.level with relevel := none } ∧ s.liftTold t ∧
          Only [.lift, .level, .inputs, .notices] s t) ∧
        (s.lift.state = .raised →
          t.lift = { s.lift.halted .hold with holds := { LiftCauses.empty with pressure := true } } ∧
          t.level = { s.level with backlog := 0, interval := .stopped, relevel := none } ∧ t.allStale ∧
          (∀ st, (s.cut st).state = .approach ∨ (s.cut st).state = .cutting →
            (t.cut st).state = .holding ∧ (t.cut st).holds = { CutCauses.empty with lift := true }) ∧
          (∀ st, (s.cut st).state = .holding ∨ (s.cut st).state = .held →
            t.cut st = { s.cut st with holds := { (s.cut st).holds with lift := true } }) ∧
          (∀ st, (s.sweepOf st).state = .indexing ∨ (s.sweepOf st).state = .traversing →
            t.sweepOf st = { s.sweepOf st with state := .paused, cause := some .lift, step := .none }) ∧
          s.departs t ∧ s.liftTold t ∧
          Only [.lift, .level, .inputs, .stations, .axes, .capture, .context, .engine, .notices] s t) ∧
        (s.lift.state = .hold → t.lift.state = .hold ∧ t.lift.holds = { s.lift.holds with pressure := true } ∧
          t.lift.move = s.lift.move ∧ Only [.lift, .inputs, .notices] s t) ∧
        (¬moves → s.lift.state ≠ .raised → s.lift.state ≠ .hold → Only [.inputs, .notices] s t)) ∧
    (∀ i ∈ [Input.toolhomeA, .toolhomeB, .probeParkedA, .probeParkedB],
      (s.inputs.get i).timer = .running length → (s.inputs.get i).raw = false →
      ∃ t, exec (.debounceExpiry i) s = .next t ∧ t.level? i = false ∧
        (moves → t.lift = { s.lift.halted .hold with holds := { LiftCauses.empty with precondition := true } } ∧
          t.level = { s.level with relevel := none } ∧ s.liftTold t ∧
          Only [.lift, .level, .inputs, .notices] s t) ∧
        (s.lift.state = .hold → s.lift.move ≠ none → t.lift.state = .hold ∧
          t.lift.holds = { s.lift.holds with precondition := true } ∧ t.lift.move = s.lift.move ∧
          Only [.lift, .inputs, .notices] s t) ∧
        (¬moves → s.lift.state ≠ .hold ∨ s.lift.move = none → Only [.inputs, .notices] s t)) ∧
    ((s.inputs.get .guardClosed).timer = .running length → (s.inputs.get .guardClosed).raw = false →
      ∃ t, exec (.debounceExpiry .guardClosed) s = .next t ∧ t.level? .guardClosed = false ∧
        (∀ st, (s.cut st).state = .approach ∨ (s.cut st).state = .cutting →
          (t.cut st).state = .holding ∧ (t.cut st).holds = { CutCauses.empty with guard := true } ∧
          (t.cut st).heldAt = some (s.cut st).toolLateral) ∧
        (∀ st, (s.cut st).state = .holding ∨ (s.cut st).state = .held →
          (t.cut st).state = (s.cut st).state ∧ (t.cut st).holds.guard = true) ∧
        (∀ st, (s.sweepOf st).state = .indexing ∨ (s.sweepOf st).state = .traversing →
          t.sweepOf st = { s.sweepOf st with state := .paused, cause := some .guard, step := .none }) ∧
        t.lift.state = s.lift.state ∧ t.context = s.context ∧ t.store = s.store ∧ t.plans = s.plans) ∧
    ∀ st, (s.inputs.get st.holddown).timer = .running length → (s.inputs.get st.holddown).raw = false →
      ∃ t, exec (.debounceExpiry st.holddown) s = .next t ∧ t.level? st.holddown = false ∧
        ((s.cut st).state.inWork = true ∨ (s.cut st).state = .held →
          (s.level? st.toolhome = false →
            (t.cut st).state = .aborting ∧ (t.cut st).abortKind = .cut ∧ (t.cut st).holds = CutCauses.empty ∧
            t.axes.tool.get st = .home ∧ t.axes.roller.get st = .stop) ∧
          (s.level? st.toolhome = true → (t.cut st).state = .idle ∧ t.plan st = none)) ∧
        ((s.cut st).state.inWork = false → (s.cut st).state ≠ .held → t.cut st = s.cut st) ∧
        t.plan st.other = s.plan st.other ∧ t.lift.state = s.lift.state ∧ t.capture = s.capture

/-! ## Probe units (chapter 6) -/

/-- PROBE REFERENCE, under its checks in their order, takes an unreferenced or ready unit to REFERENCING with its
bases absent and its carriage sent to the pad. At the pad one reading of each head is asked for; two good answers
make each base the datum radius less the displacement and start the settle timer, whose expiry makes the unit READY;
a NO_CONTACT, or a base outside 250,000 to 750,000 µm, makes it UNREFERENCED. Both send the carriage to park. An
answer or arrival not awaited changes nothing (R95 to R97, R104). That an expiry with the settle timer stopped
leaves the state as it is is the model's choice (log entry 10). -/
def Obligations.ReferencingRunsToReady : Prop :=
  ∀ (st : Station) (s : State),
    let p := s.probe st
    let become (s : State) (q : Probe) (d : ProbeDemand) : State :=
      { s with
        probes := s.probes.set st q
        axes := { s.axes with probe := s.axes.probe.set st d }
        notices := (s.notify (.probe st)).notices }
    let bad (d : Reading) (datum : Int) : Prop :=
      ∀ x, d = some x → datum - x < 250000 ∨ 750000 < datum - x
    (∀ (tag : Byte) (payload : List Byte) (s1 : State), stationParam payload = .ok st →
      s.handed 0x40 tag payload = some s1 →
      let p := s1.probe st
      let checks : List (Bool × Code) :=
        [(p.calMode, .calibrationMode),
          (decide (p.state = .referencing ∨ p.state = .settling), .wrongState),
          (decide ((s1.cut st).state ≠ .idle), .wrongState),
          (decide ((s1.sweepOf st).state = .indexing ∨ (s1.sweepOf st).state = .traversing ∨
            (s1.sweepOf st).state = .paused), .wrongState),
          (decide (s1.setup.pit = none), .notConfigured),
          (decide (s1.lift.state = .raising ∨ s1.lift.state = .lowering ∨ s1.lift.state = .bridgeWait .up ∨
            s1.lift.state = .bridgeWait .down), .wrongState)]
      (∀ c, firstOf checks = some c →
        exec (.probeReference tag payload) s = .next (s1.replied 0x40 tag c .none)) ∧
      (firstOf checks = none →
        exec (.probeReference tag payload) s =
          .next
            { (become (s1.replied 0x40 tag .ok .none)
                { p with state := .referencing, base := none, settle := .stopped, padRequested := false } .pad) with
              context := (s1.touchStation st).context })) ∧
    (p.state = .referencing →
      exec (.probePadInPosition st) s =
        .next { s with probes := s.probes.set st { p with padRequested := true } }) ∧
    (p.state ≠ .referencing → exec (.probePadInPosition st) s = .next s) ∧
    (∀ pit, s.setup.pit = some pit → p.state = .referencing → p.padRequested = true →
      (∀ dl dr, 250000 ≤ pit.datum.get st - dl → pit.datum.get st - dl ≤ 750000 →
        250000 ≤ pit.datum.get st - dr → pit.datum.get st - dr ≤ 750000 →
        exec (.referenceReading st (some dl) (some dr)) s =
          .next (become s
            { p with
              state := .settling, base := some ⟨pit.datum.get st - dl, pit.datum.get st - dr⟩, refOutcome := .ok,
              padRequested := false, settle := .running (pit.probeSettle * 1000) } .park)) ∧
      ∀ l r, bad l (pit.datum.get st) ∨ bad r (pit.datum.get st) →
        exec (.referenceReading st l r) s =
          .next (become s
            { p with state := .unreferenced, base := none, refOutcome := .noContact, padRequested := false }
            .park)) ∧
    (∀ l r, p.state ≠ .referencing ∨ p.padRequested = false → exec (.referenceReading st l r) s = .next s) ∧
    (p.state = .settling → p.settle ≠ .stopped →
      exec (.settleExpiry st) s =
        .next
          { s with
            probes := s.probes.set st { p with state := .ready, settle := .stopped }
            notices := (s.notify (.probe st)).notices }) ∧
    (p.settle = .stopped → exec (.settleExpiry st) s = .next s)

/-- Calibration mode is switched on for a ready unit of a station at rest, and off at any time. A calibration
measure goes to the ring, takes eight pairs of readings there and stores both corrections, each brought down by the
error of its head's floor mean, when both lie within 500 µm; one outside, or a NO_CONTACT, leaves them and is a
calibration fault; switching off abandons it (R99, R101 to R103). How the late answers of an abandoned measure are
counted, and that the bound slot becomes most recent also where the flag already stands as asked, are the model's
choice (log entries 13 and 21). -/
def Obligations.CalibrationRuns : Prop :=
  ∀ (st : Station) (s : State),
    let p := s.probe st
    let noticed (s : State) (q : Probe) : State :=
      { s with probes := s.probes.set st q, notices := (s.notify (.probe st)).notices }
    let sent (d : ProbeDemand) (s : State) : State :=
      { s with axes := { s.axes with probe := s.axes.probe.set st d } }
    (∀ (tag : Byte) (payload : List Byte) (s1 : State), stationParam payload = .ok st →
      let p := s1.probe st
      let touched (s : State) : State := { s with context := (s1.touchStation st).context }
      (s.handed 0x41 tag payload = some s1 →
        let on : List (Bool × Code) :=
          [(decide (p.state ≠ .ready), .probeNotReady),
            (decide ((s1.cut st).state ≠ .idle ∨ (s1.sweepOf st).state = .indexing ∨
              (s1.sweepOf st).state = .traversing ∨ (s1.sweepOf st).state = .paused), .wrongState)]
        (p.calMode = true →
          exec (.calibrateOn tag payload) s = .next (touched (s1.replied 0x41 tag .ok .none))) ∧
        (∀ c, p.calMode = false → firstOf on = some c →
          exec (.calibrateOn tag payload) s = .next (s1.replied 0x41 tag c .none)) ∧
        (p.calMode = false → firstOf on = none →
          exec (.calibrateOn tag payload) s =
            .next (touched (noticed (s1.replied 0x41 tag .ok .none) { p with calMode := true })))) ∧
      (s.handed 0x42 tag payload = some s1 →
        let measure : List (Bool × Code) :=
          [(!p.calMode, .wrongState), (decide (p.measure ≠ .none), .busy),
            (decide (s1.setup.pit = none), .notConfigured),
            (decide (s1.lift.state = .raising ∨ s1.lift.state = .lowering ∨ s1.lift.state = .bridgeWait .up ∨
              s1.lift.state = .bridgeWait .down), .wrongState)]
        (∀ c, firstOf measure = some c →
          exec (.calibrateMeasure tag payload) s = .next (s1.replied 0x42 tag c .none)) ∧
        (firstOf measure = none →
          exec (.calibrateMeasure tag payload) s =
            .next (touched (sent .ring
              (noticed (s1.replied 0x42 tag .ok .none) { p with measure := .toRing }))))) ∧
      (s.handed 0x43 tag payload = some s1 →
        (p.calMode = false →
          exec (.calibrateOff tag payload) s = .next (touched (s1.replied 0x43 tag .ok .none))) ∧
        (p.calMode = true → p.measure = .none →
          exec (.calibrateOff tag payload) s =
            .next (touched (noticed (s1.replied 0x43 tag .ok .none) { p with calMode := false }))) ∧
        ∀ late, p.calMode = true →
          (p.measure = .toRing ∧ late = 0 ∨ (∃ taken, p.measure = .reading taken) ∧ late = 1) →
          exec (.calibrateOff tag payload) s =
            .next (touched (sent .park (noticed (s1.replied 0x43 tag .ok .none)
              { p with
                calMode := false, measure := .none, lateAnswers := p.lateAnswers + late,
                result := some ⟨.abandoned, none⟩ }))))) ∧
    ((p.measure = .toRing →
        exec (.ringInPosition st) s = .next { s with probes := s.probes.set st { p with measure := .reading [] } }) ∧
      (p.measure ≠ .toRing → exec (.ringInPosition st) s = .next s) ∧
      (∀ l r, 0 < p.lateAnswers →
        exec (.calibrationReading st l r) s =
          .next { s with probes := s.probes.set st { p with lateAnswers := p.lateAnswers - 1 } }) ∧
      (∀ l r, p.lateAnswers = 0 → p.measure = .none ∨ p.measure = .toRing →
        exec (.calibrationReading st l r) s = .next s) ∧
      ∀ taken base pit, p.lateAnswers = 0 → p.measure = .reading taken → p.base = some base →
        s.setup.pit = some pit →
        (∀ l r, l = none ∨ r = none →
          exec (.calibrationReading st l r) s =
            .next (sent .park (noticed s
              { p with calibrated := false, calFault := true, measure := .none,
                       result := some ⟨.noContact, none⟩ }))) ∧
        ∀ dl dr,
          let raw : List (Pair Int) := ⟨dl + base.l, dr + base.r⟩ :: taken
          let head (side : Side) : HeadResult :=
            let mean := (raw.map fun x => x.get side + p.correction.get side).sum / 8
            ⟨mean, mean - pit.ring.get st, p.correction.get side - (mean - pit.ring.get st)⟩
          (taken.length < 7 →
            exec (.calibrationReading st (some dl) (some dr)) s =
              .next { s with probes := s.probes.set st { p with measure := .reading raw } }) ∧
          (taken.length = 7 → (∀ side, -500 ≤ (head side).proposed ∧ (head side).proposed ≤ 500) →
            exec (.calibrationReading st (some dl) (some dr)) s =
              .next (sent .park (noticed s
                { p with
                  correction := ⟨(head .l).proposed, (head .r).proposed⟩, calibrated := true, calFault := false,
                  measure := .none, result := some ⟨.stored, some ⟨head .l, head .r⟩⟩ }))) ∧
          (taken.length = 7 → (∃ side, (head side).proposed < -500 ∨ 500 < (head side).proposed) →
            exec (.calibrationReading st (some dl) (some dr)) s =
              .next (sent .park (noticed s
                { p with
                  calibrated := false, calFault := true, measure := .none,
                  result := some ⟨.outOfRange, some ⟨head .l, head .r⟩⟩ }))))

/-! ## Profile capture (chapter 7) -/

/-- SWEEP, under its ten checks in their order, settles its window and mode, abandons a paused sweep, clears the
samples its mode clears and no other, and begins INDEXING at the row of the latest roller angle with the level epoch
and material count copied (R109 to R112). -/
def Obligations.SweepsStartAtTheRollersRow : Prop :=
  ∀ (tag : Byte) (payload : List Byte) (x : SweepParams) (s s1 : State),
    sweepParams payload = .ok x → s.handed 0x48 tag payload = some s1 →
    let st := x.station
    let p := s1.probe st
    let w := s1.sweepOf st
    let checks : List (Bool × Code) :=
      [(p.calMode, .calibrationMode), (decide (p.state ≠ .ready), .probeNotReady),
        (!p.calibrated, .probeUncalibrated),
        (decide (s1.setup.pit = none ∨ s1.setup.cut = none), .notConfigured),
        (decide (s1.lift.state ≠ .raised), .wrongState), (decide (s1.boundSlot st = none), .wrongState),
        (decide ((s1.cut st).state ≠ .idle), .wrongState),
        (decide (w.state = .indexing ∨ w.state = .traversing), .wrongState), (s1.notLevel, .levelPending),
        (!s1.level? .guardClosed, .interlock)]
    let current : Prop := ∃ r, w.run = some r ∧ r.epoch = s1.level.epoch ∧ r.material = (s1.cut st).material
    let one := min 159 x.first
    let two := min 159 x.last
    let first := min one two
    let last := max one two
    let entry := s1.capture.angle.get st / 4500
    (∀ c, firstOf checks = some c → exec (.sweep tag payload) s = .next (s1.replied 0x48 tag c .none)) ∧
    ∀ mode : SweepMode, firstOf checks = none → (mode = .merge ↔ x.mode = .merge ∧ current) →
      ∃ t, exec (.sweep tag payload) s = .next t ∧
        s1.answers t 0x48 tag (if x.first = first ∧ x.last = last ∧ x.mode = mode then .ok else .adjusted)
          (.sweep first last mode entry) ∧
        t.sweepOf st =
          { state := .indexing, rowsDone := 0, cause := none, step := .none
            run := some
              { first := first, last := last, mode := mode, entry := entry, angular := entry, lateral := first,
                epoch := s1.level.epoch, material := (s1.cut st).material } } ∧
        t.sweepOf st.other = s1.sweepOf st.other ∧
        (∀ (wh : Wheel) (a k : Nat), k < 160 →
          Area.sample (t.capture.areas.get wh.ix) a k =
            if wh.station = st ∧ (mode = .fresh ∨ first ≤ k ∧ k ≤ last) then .unset
            else Area.sample (s1.capture.areas.get wh.ix) a k) ∧
        t.capture.angle = s1.capture.angle ∧
        t.capture.request =
          (if w.state = .paused ∧ s1.capture.request.get st = .live then s1.capture.request.set st .givenUp
            else s1.capture.request) ∧
        t.axes =
          { s1.axes with
            roller := s1.axes.roller.set st (.angle (entry * 4500))
            probe := if w.state = .paused then s1.axes.probe.set st .park else s1.axes.probe } ∧
        t.context = (s1.touchStation st).context ∧ t.notices = (s1.notify (.capture st)).notices ∧
        Only [.capture, .axes, .context, .notices, .link] s1 t

/-- SWEEP STOP pauses a sweep in motion for the host and abandons a paused one; the rollers stop where they stand,
the carriage goes to park, and samples and addresses are kept. SWEEP CONTINUE, under its checks, goes on at the
address of a current capture, and starts any other again under FRESH over the same window. READ PROFILE returns up to
40 samples of a row and changes no sample; an angle report is the latest angle (R112, R116 to R119, R121). -/
def Obligations.SweepsStopContinueAndAreRead : Prop :=
  ∀ (st : Station) (tag : Byte) (payload : List Byte) (s s1 : State),
    let w := s1.sweepOf st
    let givenUp : Two SampleRequest :=
      if s1.capture.request.get st = .live then s1.capture.request.set st .givenUp else s1.capture.request
    let stopped : Axes :=
      { s1.axes with
        roller := s1.axes.roller.set st (.angle (s1.capture.angle.get st))
        probe := s1.axes.probe.set st .park }
    (stationParam payload = .ok st → s.handed 0x4A tag payload = some s1 →
      (w.state = .indexing ∨ w.state = .traversing → ∃ t, exec (.sweepStop tag payload) s = .next t ∧
        s1.answers t 0x4A tag .ok .none ∧
        t.capture =
          { s1.capture with
            sweep := s1.capture.sweep.set st { w with state := .paused, cause := some .host, step := .none }
            request := givenUp } ∧
        t.context = (s1.touchStation st).context ∧ t.notices.get (.capture st) = (s1.notices.get (.capture st)).event ∧
        (s1.level.backlog = 0 → t.axes = stopped ∧ Only [.capture, .axes, .context, .notices, .link] s1 t)) ∧
      (w.state = .paused →
        exec (.sweepStop tag payload) s =
          .next
            { s1.replied 0x4A tag .ok .none with
              capture :=
                { s1.capture with
                  sweep := s1.capture.sweep.set st { w with state := .abandoned, cause := none, step := .none }
                  request := givenUp }
              axes := stopped
              context := (s1.touchStation st).context
              notices := (s1.notify (.capture st)).notices }) ∧
      (w.state = .idle ∨ w.state = .done ∨ w.state = .abandoned →
        exec (.sweepStop tag payload) s = .next (s1.replied 0x4A tag .wrongState .none))) ∧
    (stationParam payload = .ok st → s.handed 0x49 tag payload = some s1 →
      let checks : List (Bool × Code) :=
        [(decide (w.state ≠ .paused), .wrongState), ((s1.probe st).calMode, .calibrationMode),
          (decide (s1.lift.state ≠ .raised), .wrongState), (decide (s1.boundSlot st = none), .wrongState),
          (s1.notLevel, .levelPending), (!s1.level? .guardClosed, .interlock)]
      (∀ c, firstOf checks = some c →
        exec (.sweepContinue tag payload) s = .next (s1.replied 0x49 tag c .none)) ∧
      ∀ r, firstOf checks = none → w.run = some r →
        let current : Prop := r.epoch = s1.level.epoch ∧ r.material = (s1.cut st).material
        let rollers (row : Nat) : Axes := { s1.axes with roller := s1.axes.roller.set st (.angle (row * 4500)) }
        (current →
          exec (.sweepContinue tag payload) s =
            .next
              { s1.replied 0x49 tag .ok .none with
                capture :=
                  { s1.capture with
                    sweep := s1.capture.sweep.set st { w with state := .indexing, cause := none, step := .none } }
                axes := rollers r.angular
                context := (s1.touchStation st).context
                notices := (s1.notify (.capture st)).notices }) ∧
        (¬current → let entry := s1.capture.angle.get st / 4500
          ∃ t, exec (.sweepContinue tag payload) s = .next t ∧
            s1.answers t 0x49 tag .restarted (.restarted entry) ∧
            t.sweepOf st =
              { state := .indexing, rowsDone := 0, cause := none, step := .none
                run := some
                  { first := r.first, last := r.last, mode := .fresh, entry := entry, angular := entry,
                    lateral := r.first, epoch := s1.level.epoch, material := (s1.cut st).material } } ∧
            t.sweepOf st.other = s1.sweepOf st.other ∧
            (∀ wh : Wheel, t.capture.areas.get wh.ix =
              if wh.station = st then [] else s1.capture.areas.get wh.ix) ∧
            t.capture.request = s1.capture.request ∧ t.axes = rollers entry ∧
            t.context = (s1.touchStation st).context ∧ t.notices = (s1.notify (.capture st)).notices ∧
            Only [.capture, .axes, .context, .notices, .link] s1 t)) ∧
    (∀ x, readProfileParams payload = .ok x → x.wheel.station = st → s.handed 0x4B tag payload = some s1 →
      let a := min 7 x.angular
      let f := min 159 x.first
      let n := max 1 (min 40 x.count)
      exec (.readProfile tag payload) s =
        .next
          { s1.replied 0x4B tag (if a = x.angular ∧ f = x.first ∧ n = x.count then .ok else .adjusted)
              (.profile x.wheel a f
                ((List.range (min n (160 - f))).map fun k => Area.sample (s1.capture.areas.get x.wheel.ix) a (f + k))
                w.state (s1.captureCurrent st)) with
            context := (s1.touchStation st).context }) ∧
    ∀ angle, exec (.rollerAngleReport st angle) s =
      .next { s with capture := { s.capture with angle := s.capture.angle.set st angle.val } }

/-- A sweep waits for the rollers at its row, then at each lateral station for the carriage and for one sample of
each head, composed of displacement, base and correction and INVALID without contact or outside 300,000 to
700,000 µm; the pair is written at its address and nowhere else, and the next station, the next row, or DONE after
eight rows follows. What a sweep does not wait for is discarded (R104, R113 to R115). -/
def Obligations.SweepStepsWriteEachPair : Prop :=
  ∀ (st : Station) (s : State),
    let w := s.sweepOf st
    let put (w : Sweep) (s : State) : State :=
      { s with capture := { s.capture with sweep := s.capture.sweep.set st w } }
    (∀ angle : Fin 36000,
      let told : State := { s with capture := { s.capture with angle := s.capture.angle.set st angle.val } }
      (∀ r, w.state = .indexing → w.run = some r →
        exec (.rollerInPosition st angle) s =
          .next
            { put { w with state := .traversing, step := .awaitPosition } told with
              axes := { s.axes with probe := s.axes.probe.set st (.lateral r.lateral) } }) ∧
      (w.state ≠ .indexing → exec (.rollerInPosition st angle) s = .next told)) ∧
    (w.state = .traversing → w.step = .awaitPosition → ∃ t, exec (.sweepCarriageInPosition st) s = .next t ∧
      t.capture =
        { s.capture with
          sweep := s.capture.sweep.set st { w with step := .awaitSample }
          request := s.capture.request.set st
            (if s.capture.request.get st = .givenUp then .givenUp else .live) } ∧
      Only [.capture] s t) ∧
    (w.state ≠ .traversing ∨ w.step ≠ .awaitPosition → exec (.sweepCarriageInPosition st) s = .next s) ∧
    ∀ l r : Reading,
      (s.capture.request.get st = .none → exec (.sampleAnswer st l r) s = .next s) ∧
      (s.capture.request.get st = .givenUp →
        exec (.sampleAnswer st l r) s =
          .next
            { s with
              capture :=
                { s.capture with
                  request := s.capture.request.set st
                    (if w.state = .traversing ∧ w.step = .awaitSample then .live else .none) } }) ∧
      ∀ x base, s.capture.request.get st = .live → w.state = .traversing → w.step = .awaitSample →
        w.run = some x → x.lateral < 160 → (s.probe st).base = some base →
        let composed (side : Side) (d : Reading) : Sample :=
          match d with
          | none => .invalid
          | some d =>
            let v := d + base.get side + (s.probe st).correction.get side
            if 300000 ≤ v ∧ v ≤ 700000 then .radius v else .invalid
        ∃ t, exec (.sampleAnswer st l r) s = .next t ∧
          (∀ (wh : Wheel) (a k : Nat), k < 160 →
            Area.sample (t.capture.areas.get wh.ix) a k =
              if a = x.angular ∧ k = x.lateral ∧ wh = st.wheel .l then composed .l l
              else if a = x.angular ∧ k = x.lateral ∧ wh = st.wheel .r then composed .r r
              else Area.sample (s.capture.areas.get wh.ix) a k) ∧
          t.capture.request = s.capture.request.set st .none ∧ t.capture.angle = s.capture.angle ∧
          t.sweepOf st.other = s.sweepOf st.other ∧
          (x.lateral < x.last →
            t.sweepOf st =
              { w with step := .awaitPosition, run := some { x with lateral := x.lateral + 1 } } ∧
            t.axes = { s.axes with probe := s.axes.probe.set st (.lateral (x.lateral + 1)) } ∧
            Only [.capture, .axes] s t) ∧
          (x.lateral = x.last →
            let next : SweepRun := { x with angular := (x.angular + 1) % 8, lateral := x.first }
            (w.rowsDone < 7 →
              t.sweepOf st =
                { state := .indexing, run := some next, rowsDone := w.rowsDone + 1, cause := none, step := .none } ∧
              t.axes = { s.axes with roller := s.axes.roller.set st (.angle (next.angular * 4500)) } ∧
              Only [.capture, .axes] s t) ∧
            (7 ≤ w.rowsDone →
              t.sweepOf st =
                { w with state := .done, run := some next, rowsDone := w.rowsDone + 1, step := .none } ∧
              t.notices.get (.capture st) = (s.notices.get (.capture st)).event ∧
              (s.level.backlog = 0 →
                t.axes = { s.axes with probe := s.axes.probe.set st .park } ∧
                Only [.capture, .axes, .notices] s t)))

/-! ## The Measurement Engine (chapter 8) -/

/-- MEASURE, under its checks in their order, numbers a run, notes the serial and unit of each bound station's
record, and adds a SEARCH of their units to the FIFO. READ MEASUREMENT returns the record of a bound station's slot,
with whether it is current and the run in progress (R125 to R127, R143, R144). -/
def Obligations.MeasuringStartsWithASearch : Prop :=
  (∀ (tag : Byte) (s s1 : State), s.handed 0x50 tag [] = some s1 →
    let captured (st : Station) : List (Bool × Code) :=
      [(decide (s1.boundSlot st ≠ none ∧ (s1.sweepOf st).state ≠ .done), .noCapture),
        (decide (s1.boundSlot st ≠ none) && !s1.captureCurrent st, .staleCapture),
        ((s1.boundSlot st).any fun i =>
          decide (((s1.slot i).working.map fun r => (s1.profile r.profileId).state) ≠ some .complete),
          .profileIncomplete)]
    let checks : List (Bool × Code) :=
      [(decide (s1.engine.run ≠ none), .busy),
        (decide (s1.setup.pit = none ∨ s1.setup.cut = none), .notConfigured),
        (decide (s1.lift.state ≠ .raised), .wrongState),
        (decide (s1.boundSlot .a = none ∧ s1.boundSlot .b = none), .wrongState)] ++
        captured .a ++ captured .b ++ [(decide (6 < s1.store.fifo.length + 1), .busy)]
    let number := if s1.engine.runNumber = 65535 then 1 else s1.engine.runNumber + 1
    let entries : List RunEntry := [Station.a, .b].filterMap fun st => (s1.boundSlot st).map fun i =>
      { station := st, slot := i, serial := (s1.slot i).serial.getD 0
        unit := ((s1.slot i).working.map fun r => r.unit).getD 0, rebound := false }
    (∀ c, firstOf checks = some c → exec (.measure tag []) s = .next (s1.replied 0x50 tag c .none)) ∧
    (firstOf checks = none → s1.store.fifoServed → ∃ t, exec (.measure tag []) s = .next t ∧
      s1.answers t 0x50 tag .ok
        (.measure number ⟨decide (s1.boundSlot .a ≠ none), decide (s1.boundSlot .b ≠ none)⟩) ∧
      t.engine =
        { s1.engine with
          runNumber := number, delivered := ⟨false, false⟩
          run := some { number := number, entries := entries, departed := false } } ∧
      t.store.fifo =
        s1.store.fifo ++ [.search (entries.map fun x => x.unit).dedup (entries.map fun x => x.serial)] ∧
      t.store.places = s1.store.places ∧ t.store.table = s1.store.table ∧ t.store.window = s1.store.window ∧
      t.store.results = s1.store.results ∧ t.store.resultsLost = s1.store.resultsLost ∧
      t.store.scanned = s1.store.scanned ∧ t.store.fifoServed ∧
      (∀ r, s1.store.service = some r → t.store.service = some r) ∧
      t.notices = (s1.notify .measure).notices ∧ Only [.engine, .store, .notices, .link] s1 t)) ∧
  ∀ (tag : Byte) (payload : List Byte) (st : Station) (s s1 : State),
    stationParam payload = .ok st → s.handed 0x51 tag payload = some s1 →
    (s1.boundSlot st = none →
      exec (.readMeasurement tag payload) s = .next (s1.replied 0x51 tag .wrongState .none)) ∧
    ∀ i, s1.boundSlot st = some i →
      ((s1.slot i).measurement = none →
        exec (.readMeasurement tag payload) s = .next (s1.replied 0x51 tag .noMeasurement .none)) ∧
      ∀ m, (s1.slot i).measurement = some m →
        exec (.readMeasurement tag payload) s =
          .next
            { s1.replied 0x51 tag .ok
                (.measurement m (s1.slot i).serial
                  (decide (m.stale = false ∧ m.epoch = s1.level.epoch ∧ m.material = (s1.cut st).material))
                  (s1.engine.run.map fun r => r.number)) with
              context := s1.context.touch i }

/-- The usable rows of a wheel, the flange tip of a row, the walk down its flank from the sample at the measuring
station, and the values a wheel takes from its usable rows (R130 to R133). -/
def Obligations.WheelsAreGaugedFromUsableRows : Prop :=
  (∀ (p : Profile) (row : List Sample) (k : Nat),
    (k ∈ p.zone ↔ p.zoneFirst ≤ k ∧ k ≤ p.zoneLast) ∧
    (p.usable row = true ↔
      (∃ v, rowValue row p.measuring = some v) ∧ (p.zone.countP fun k => rowValue row k = none) ≤ 4)) ∧
  (∀ (row : List Sample) (i : Nat) (v : Int),
    flangeTip 0 row = some (i, v) ↔
      rowValue row i = some v ∧ (∀ k w, rowValue row k = some w → w ≤ v) ∧
        ∀ k, k < i → rowValue row k ≠ some v) ∧
  (∀ (p : Profile) (h : Int) (row : List Sample) (i : Nat) (v : Int), flangeTip 0 row = some (i, v) →
    let level := p.treadValue row + h
    (∀ x, rowValue row p.measuring = some x → p.treadValue row = x) ∧
    p.rowHeight row = v - p.treadValue row ∧
    (v < level → p.rowThickness h row = none) ∧
    ∀ n, i ≤ n → (∀ k, i ≤ k → k ≤ n → ∃ w, rowValue row k = some w ∧ level ≤ w) →
      (rowValue row (n + 1) = none → p.rowThickness h row = none) ∧
      ∀ w x, rowValue row n = some w → rowValue row (n + 1) = some x → x < level →
        p.rowThickness h row = some ((n : Int) * 1000 + (w - level) * 1000 / (w - x))) ∧
  ∀ (p : Profile) (h : Int) (rows : List (List Sample)), rows ≠ [] →
    let values := p.wheelValues h rows
    let thick := rows.filterMap (p.rowThickness h)
    values.before = some ((rows.map p.treadValue).sum / rows.length) ∧
    values.flangeHeight = some ((rows.map p.rowHeight).sum / rows.length) ∧
    (thick = [] → values.flangeThickness = none) ∧
    (thick ≠ [] → values.flangeThickness = some (thick.sum / thick.length)) ∧
    ∃ runout, values.runout = some runout ∧
      (∀ x ∈ rows, ∀ y ∈ rows, p.treadValue x - p.treadValue y ≤ runout) ∧
      ∃ x ∈ rows, ∃ y ∈ rows, p.treadValue x - p.treadValue y = runout

/-- The stages of the arithmetic on a live wheelset: INCOMPLETE below six usable rows or without a flange thickness;
the fit radius, the largest multiple of 10 that leaves the clean-up allowance at every measured point of the zone;
the unit cap; the bogie band, after which the two targets differ by no more than the band; the verdict, the first of
its list that holds; and the required removal (R130, R133 to R140). -/
def Obligations.TargetsAreSettledInStages : Prop :=
  (∀ (p : Profile) (rows : List (List Sample)) (x : Int), x ∈ p.zoneTerms rows ↔
    ∃ row ∈ rows, ∃ k ∈ p.zone, ∃ v ∈ rowValue row k, x = v - p.offset k) ∧
  (∀ (p : Profile) (rows : List (List Sample)) (c : Int), p.zoneTerms rows ≠ [] →
    let fit := p.fitRadius c rows
    fit % 10 = 0 ∧ (∀ x ∈ p.zoneTerms rows, fit ≤ x - c) ∧ (∃ x ∈ p.zoneTerms rows, x - c < fit + 10) ∧
    ∀ target, (∀ x ∈ p.zoneTerms rows, x - target ≤ p.removal target rows) ∧
      ∃ x ∈ p.zoneTerms rows, x - target = p.removal target rows) ∧
  (∀ (cut : CutTable) (p : Profile) (r : Record) (areas : Pair Area) (items : List SiblingItem),
    let rows (side : Side) : List (List Sample) :=
      ((List.range 8).map fun a => Area.row (areas.get side) a).filter p.usable
    let values (side : Side) : WheelValues := p.wheelValues cut.flangeLevel (rows side)
    let few : Prop := ∃ side, (rows side).length < 6
    let thin : Prop := ∃ side, (values side).flangeThickness = none
    let usable : Pair Nat := ⟨(rows .l).length, (rows .r).length⟩
    let fit : Pair Int := ⟨p.fitRadius cut.cleanUp (rows .l), p.fitRadius cut.cleanUp (rows .r)⟩
    let sib := siblingsOf items r.unit
    let capped := unitCap (min fit.l fit.r) r.condemning cut.unitBand sib
    (few → gauge cut p r areas items = .fewRows usable) ∧
    (¬few → thin → gauge cut p r areas items = .noThickness usable ⟨values .l, values .r⟩) ∧
    (¬few → ¬thin →
      gauge cut p r areas items =
        .targeted
          { profile := p, condemning := r.condemning, rows := ⟨rows .l, rows .r⟩,
            values := ⟨values .l, values .r⟩, fit := fit, siblings := sib, target := capped.1,
            unitSpread := capped.2 })) ∧
  (∀ (items : List SiblingItem) (unit : Nat),
    (siblingsOf items unit).count = items.countP (fun x => x.unit = unit) ∧
    ((siblingsOf items unit).range = none ↔ ∀ x ∈ items, x.unit ≠ unit) ∧
    ∀ lo hi, (siblingsOf items unit).range = some (lo, hi) →
      (∀ x ∈ items, x.unit = unit → lo ≤ min x.lastL x.lastR ∧ min x.lastL x.lastR ≤ hi) ∧
      (∃ x ∈ items, x.unit = unit ∧ min x.lastL x.lastR = lo) ∧
      ∃ x ∈ items, x.unit = unit ∧ min x.lastL x.lastR = hi) ∧
  (∀ (target condemning band : Int) (n : Nat),
    unitCap target condemning band ⟨n, none⟩ = (target, false) ∧
    ∀ lo hi, let cap := (lo + band) / 10 * 10
      unitCap target condemning band ⟨n, some (lo, hi)⟩ =
        if target ≤ cap then (target, false) else if condemning ≤ cap then (cap, false) else (target, true)) ∧
  (∀ band one two : Int, 0 ≤ band →
    bogieTarget band one none = one ∧
    let low := bogieTarget band one (some two)
    let high := bogieTarget band two (some one)
    (one ≤ two → low = one ∧ high = if band < two - one then one + band else two) ∧
    low - high ≤ band ∧ high - low ≤ band) ∧
  ∀ (w : Wheelset) (cut : CutTable) (other : Option Int) (base : Verdict → Measurement),
    let target := bogieTarget cut.bogieBand w.target other
    let fitTarget := min w.fit.l w.fit.r
    let beyond (v : WheelValues) : Prop :=
      cut.flangeHeightLimit < v.flangeHeight.getD 0 ∨ v.flangeThickness.getD 0 < cut.flangeThicknessMin ∨
        cut.runoutLimit < v.runout.getD 0
    let verdict : Verdict :=
      if target < w.condemning ∧ fitTarget < w.condemning then .condemned
      else if target < w.condemning then .bogieLimit
      else if beyond w.values.l ∨ beyond w.values.r then .reprofile else .withinLimits
    let spread : Bool := w.siblings.range.any fun x => decide (target < x.2 - cut.unitBand)
    w.measurement cut other base =
      { base verdict with
        advisories := ⟨w.unitSpread || spread, decide (other = none)⟩
        usableRows := some ⟨w.rows.l.length, w.rows.r.length⟩
        wheels := w.values, fitRadius := some w.fit, fitTarget := some fitTarget, target := some target
        removal := some (max (w.profile.removal target w.rows.l) (w.profile.removal target w.rows.r))
        siblings := some w.siblings, cutUsed := some (cut.cleanUp, cut.bogieBand) }

/-- A SEARCH that completes takes every in-service record of the searched units that no entry names and that has
both radii, from the working copy of an OPEN or WRITING slot where there is one, and marks the places that failed,
those whose record a working copy replaces among them, as the model reads R6 and R19 (log entry 19). Each entry's
result is delivered to its slot if the slot still holds the serial OPEN and bound to the station; a wheelset is
STALE after a departure or with a capture no longer finished and current, INCOMPLETE when its rows do not do, and
has a target and verdict otherwise. That one made INCOMPLETE by stage 2 holds no clean-up allowance and no bogie
band is the model's choice (log entry 22). Plans not in execution are removed and the run ends (R6, R19, R20, R129,
R137, R141, R142). -/
def Obligations.SearchDeliversTheResults : Prop :=
  ∀ (units bound : List Nat) (content : Option Record) (r : Run) (s : State),
    s.store.service = some ⟨.search units bound, content⟩ → s.engine.run = some r →
    (r.entries.map fun e => e.slot).Nodup → (r.entries.map fun e => e.station).Nodup →
    let copy (x : Nat × TableItem) : Option Record :=
      match x.2.serial.bind s.searchCopy with
      | some rec => some rec
      | none => (s.store.place x.1).body
    let items := s.siblingList units bound
    let damaged := (s.store.table.filter fun x => x.2.serial.isSome && (copy x).isNone).filterMap fun x => x.2.serial
    let gauged (e : RunEntry) : Gauged := s.gaugeEntry r.departed items e
    let stays (e : RunEntry) : Prop :=
      (s.slot e.slot).state = .openSlot ∧ (s.slot e.slot).serial = some e.serial ∧
        (s.slot e.slot).binding = some e.station ∧ e.rebound = false
    ∃ t, exec .searchComplete s = .next t ∧
      (∀ x : SiblingItem, x ∈ items ↔ ∃ y ∈ s.store.table, ∃ rec ∈ copy y,
        y.2.serial = some x.serial ∧ rec.unit = x.unit ∧ rec.lastRadius = ⟨some x.lastL, some x.lastR⟩ ∧
          rec.unit ∈ units ∧ x.serial ∉ bound ∧ rec.state = .inService) ∧
      t.engine.run = none ∧ t.engine.runNumber = s.engine.runNumber ∧
      t.engine.lastSearch = some ⟨r.number, items.length, damaged.length, damaged.take 8⟩ ∧
      (∀ k, t.store.item k =
        if (s.store.item k).serial ≠ none ∧ (s.store.place k).body = none then
          { s.store.item k with damaged := true } else s.store.item k) ∧
      t.store.places = s.store.places ∧ t.store.results = s.store.results ∧ t.store.window = s.store.window ∧
      s.movesOn t ∧ t.context.results = s.context.results ∧ t.context.resultsLost = s.context.resultsLost ∧
      (∀ i, t.slot i = s.cleaned i { s.slot i with measurement := (t.slot i).measurement }) ∧
      (∀ i, (∀ e ∈ r.entries, e.slot = i → ¬stays e) → (t.slot i).measurement = (s.slot i).measurement) ∧
      (∀ e ∈ r.entries, stays e → ∃ m ∈ (t.slot e.slot).measurement,
        m.run = r.number ∧ (m.stale = true ↔ m.verdict = .stale) ∧
        (∀ w ∈ (s.sweepOf e.station).run, m.epoch = w.epoch ∧ m.material = w.material) ∧
        t.engine.delivered.get e.station = true ∧
        (r.departed = true ∨ (s.sweepOf e.station).state ≠ .done ∨ s.captureCurrent e.station = false →
          m = Measurement.bare r.number m.epoch m.material .stale) ∧
        (r.departed = false → (s.sweepOf e.station).state = .done → s.captureCurrent e.station = true →
          ∀ rec ∈ (s.slot e.slot).working, ∀ cut ∈ s.setup.cut,
            gauged e =
              gauge cut (s.profile rec.profileId) rec
                ⟨s.capture.areas.get (e.station.wheel .l).ix, s.capture.areas.get (e.station.wheel .r).ix⟩ items ∧
            (∀ usable, gauged e = .fewRows usable →
              m = { Measurement.bare r.number m.epoch m.material .incomplete with usableRows := some usable }) ∧
            (∀ usable values, gauged e = .noThickness usable values →
              m = { Measurement.bare r.number m.epoch m.material .incomplete with
                    usableRows := some usable, wheels := values }) ∧
            ∀ w, gauged e = .targeted w →
              let other := (r.entries.find? fun x => x.station = e.station.other).bind fun x => (gauged x).target
              m = w.measurement cut other (Measurement.bare r.number m.epoch m.material))) ∧
      (∀ st, t.plan st = (s.plan st).filter fun p => p.inExecution) ∧
      t.notices.get .measure = (s.notices.get .measure).event ∧
      Only [.store, .context, .engine, .plans, .notices] s t

/-! ## The Plan Table (chapter 9) -/

/-- PLAN AUTO and PLAN PASSES, under the checks they share, make a plan of the current measurement: PLAN AUTO as many
roughing passes as the removal takes and a finishing pass, of at most 16 in all; PLAN PASSES the host's depths, each
10 to 5,000 µm, adding up to the removal. Each pass radius is the target plus the removal less the depths so far, and
the revolutions are the zone width over the feed, rounded up. The plan replaces what the record held (R149 to R153). -/
def Obligations.PlansCoverTheRemoval : Prop :=
  ∀ (c : Instr) (kind tag : Byte) (payload : List Byte) (st : Station) (given : Option (List Int)) (s s1 : State),
    (c = .planAuto tag payload ∧ kind = 0x58 ∧ stationParam payload = .ok st ∧ given = none ∨
      c = .planPasses tag payload ∧ kind = 0x59 ∧ ∃ l, planPassesParams payload = .ok (st, l) ∧ given = some l) →
    s.handed kind tag payload = some s1 →
    let refused (code : Code) : Prop := exec c s = .next (s1.replied kind tag code .none)
    let measured : Option Measurement := (s1.boundSlot st).bind fun i => (s1.slot i).measurement
    let checks : List (Bool × Code) :=
      [((s1.probe st).calMode, .calibrationMode),
        (decide (s1.setup.pit = none ∨ s1.setup.cut = none), .notConfigured),
        (decide (s1.boundSlot st = none), .wrongState), ((s1.plan st).any fun p => p.inExecution, .wrongState),
        (!(measured.any fun m =>
          !m.stale && decide (m.epoch = s1.level.epoch) && decide (m.material = (s1.cut st).material)),
          .noMeasurement),
        (!(measured.any fun m => decide (m.verdict = .withinLimits ∨ m.verdict = .reprofile)), .verdictForbids)]
    (∀ code, firstOf checks = some code → refused code) ∧
    (firstOf checks = none → ∀ i, s1.boundSlot st = some i → ∀ m, (s1.slot i).measurement = some m →
      ∀ rec, (s1.slot i).working = some rec → ∀ cut, s1.setup.cut = some cut →
      ∀ total, m.removal = some total → ∀ target, m.target = some target →
      let zone := s1.profile rec.profileId
      let made (depths : List Int) : Prop := ∃ (passes : List Pass) (turns : Nat),
        passes.map (fun p => p.depth) = depths ∧
        (∀ k p, passes[k]? = some p → p.radius = target + total - (depths.take (k + 1)).sum) ∧
        (0 < cut.feed → zone.zoneFirst ≤ zone.zoneLast →
          let width : Int := ((zone.zoneLast + 1 - zone.zoneFirst) * 1000 : Nat)
          width ≤ (turns : Int) * cut.feed ∧ (turns - 1 : Int) * cut.feed < width) ∧
        let p : Plan :=
          { source := if given = none then .auto else .host, serial := (s1.slot i).serial.getD 0, run := m.run
            target := target, removal := total, advisories := m.advisories, passes := passes
            zoneFirst := zone.zoneFirst, zoneLast := zone.zoneLast, revolutions := turns, feed := cut.feed
            inExecution := false, passIndex := 0 }
        exec c s =
          .next
            { s1.replied kind tag .ok (.plan p) with
              plans := s1.plans.set st (some p)
              context := s1.context.touch i
              notices := (s1.notify (.station st)).notices }
      (given = none → total ≤ cut.qFinish → made [total]) ∧
      (∀ n : Nat, given = none → cut.qFinish < total → 0 < cut.qRough →
        (n : Int) * cut.qRough < total - cut.qFinish → total - cut.qFinish ≤ (n + 1 : Int) * cut.qRough →
        if n + 2 ≤ 16 then
          made (List.replicate n cut.qRough ++ [total - cut.qFinish - n * cut.qRough, cut.qFinish])
        else refused .removalTooDeep) ∧
      ∀ l, given = some l →
        if (∀ d ∈ l, 10 ≤ d ∧ d ≤ 5000) ∧ l.sum = total then made l else refused .planMismatch)

/-! ## Cutting Stations (chapter 10) -/

/-- CUT START, under its twelve checks in their order, takes the plan into execution, steps the material count,
keeps the record's last radii and entries, appends a CUT entry in progress and clears both last radii, queues a
WRITE of the slot, and sends the tools to the first pass with the rollers turning (R9, R161 to R163). That a lateral
station k of the tool stands at k times 1,000 µm is the model's reading of the pitch in 00_scope.md (log entry 7).
-/
def Obligations.CuttingStartsWithAnEntry : Prop :=
  ∀ (tag : Byte) (payload : List Byte) (st : Station) (accept : Bool) (s s1 : State),
    cutStartParams payload = .ok (st, accept) → s.handed 0x60 tag payload = some s1 →
    let x := s1.cut st
    let kept : Option Plan := (s1.plan st).filter fun p =>
      !p.inExecution && (s1.boundSlot st).any fun i =>
        decide ((s1.slot i).serial = some p.serial) && (s1.slot i).measurement.any fun m =>
          decide (m.run = p.run) && !m.stale && decide (m.epoch = s1.level.epoch) && decide (m.material = x.material)
    let held : Option Record := (s1.boundSlot st).bind fun i => (s1.slot i).working
    let checks : List (Bool × Code) :=
      [((s1.probe st).calMode, .calibrationMode),
        (decide (s1.setup.pit = none ∨ s1.setup.cut = none), .notConfigured), (decide (x.state ≠ .idle), .wrongState),
        (decide ((s1.sweepOf st).state = .indexing ∨ (s1.sweepOf st).state = .traversing ∨
          (s1.sweepOf st).state = .paused), .wrongState),
        (decide (s1.lift.state ≠ .raised), .wrongState), (decide (s1.boundSlot st = none), .wrongState),
        (s1.notLevel, .levelPending), (!(s1.level? .guardClosed && s1.level? st.holddown), .interlock),
        (kept.isNone, .noPlan),
        (kept.any (fun p => decide (p.advisories ≠ Advisories.empty)) && !accept, .advisoryNotAccepted),
        (held.any fun r => decide (r.state = .condemned), .verdictForbids),
        ((held.bind fun r => r.nextSequence).isNone, .recordExhausted)]
    (∀ c, firstOf checks = some c → exec (.cutStart tag payload) s = .next (s1.replied 0x60 tag c .none)) ∧
    (firstOf checks = none → s1.store.fifoServed → ∀ i, s1.boundSlot st = some i → ∀ p, s1.plan st = some p →
      ∀ q rest, p.passes = q :: rest → ∀ n, (s1.slot i).serial = some n → ∀ r, (s1.slot i).working = some r →
      ∀ m, (s1.slot i).measurement = some m → ∀ w,
      r.append
        { sequence := 0, kind := .cut ⟨⟨none, none⟩, p.passes.length, 0, .inProgress⟩
          workOrder := (s1.slot i).workOrder.getD 0, verdict := m.verdict, wheels := m.wheels } = some w →
      ∃ t, exec (.cutStart tag payload) s = .next t ∧ s1.answers t 0x60 tag .ok .none ∧
        t.plans = s1.plans.set st (some { p with inExecution := true, passIndex := 1 }) ∧
        t.stations = s1.stations.set st
          { x with
            state := .approach, material := x.material + 1, completed := 0, begun := false, entered := false
            preCut := some ⟨r.lastRadius, r.entries⟩ } ∧
        t.slot i =
          { s1.slot i with
            working := some { w with lastRadius := ⟨none, none⟩ }, rank := 0
            dirty := !(s1.store.scanned && s1.store.service.isNone) } ∧
        (∀ j, j ≠ i → t.slot j = (s1.context.touch i).slots.get j) ∧
        t.context.results = s1.context.results ∧ t.context.resultsLost = s1.context.resultsLost ∧
        s1.writesBack t n i [] ∧
        t.axes =
          { s1.axes with
            roller := s1.axes.roller.set st .turning
            tool := s1.axes.tool.set st (.position (p.zoneFirst * 1000) q.radius) } ∧
        t.notices = (s1.notify (.station st)).notices ∧
        Only [.plans, .stations, .context, .store, .axes, .notices, .link] s1 t)

/-- FEED HOLD holds a station in APPROACH or CUTTING for the host, its tools backing 2 mm off where they stand, and
adds the cause to one held; the arrival of the tools makes it HELD with the rollers stopped, or, its set empty,
sends it back to APPROACH. Where that arrival leaves the pit idle with a re-level owed, the re-level begins if a
point is off level; with none off, all that is owed is completed, an urgent demand ends, and a station held for
LEVEL alone goes on to APPROACH (R64, R65, R68). RESUME, under its checks, empties the set; a HELD station with an
empty set goes back to APPROACH, to where the hold began if the pass had entered CUTTING, else to the zone's first
station (R163, R167 to R170). That a lateral station k stands at k times 1,000 µm is the model's reading of the
pitch in 00_scope.md (log entry 7). -/
def Obligations.FeedHoldsAndResumes : Prop :=
  ∀ (st : Station) (s : State),
    let back (s : State) (x : CutStation) (t : State) : Prop :=
      t.stations = s.stations.set st { x with state := .approach } ∧
        ∀ p q, s.plan st = some p → p.pass = some q →
          t.axes =
            { s.axes with
              roller := s.axes.roller.set st .turning
              tool := s.axes.tool.set st
                (.position (if x.begun then x.heldAt.getD (p.zoneFirst * 1000) else p.zoneFirst * 1000)
                  q.radius) }
    (∀ (tag : Byte) (payload : List Byte) (s1 : State), stationParam payload = .ok st →
      let x := s1.cut st
      (s.handed 0x61 tag payload = some s1 →
        (x.state = .approach ∨ x.state = .cutting → ∃ t, exec (.feedHold tag payload) s = .next t ∧
          s1.answers t 0x61 tag .ok .none ∧
          t.stations = s1.stations.set st
            { x with
              state := .holding, holds := { CutCauses.empty with host := true }, heldAt := some x.toolLateral } ∧
          (∀ p q, s1.plan st = some p → p.pass = some q →
            t.axes = { s1.axes with tool := s1.axes.tool.set st (.position x.toolLateral (q.radius + 2000)) }) ∧
          t.context = (s1.touchStation st).context ∧ t.notices = (s1.notify (.station st)).notices ∧
          Only [.stations, .axes, .context, .notices, .link] s1 t) ∧
        (x.state = .holding ∨ x.state = .held → ∃ t, exec (.feedHold tag payload) s = .next t ∧
          s1.answers t 0x61 tag .ok .none ∧
          t.stations = s1.stations.set st { x with holds := { x.holds with host := true } } ∧
          t.context = (s1.touchStation st).context ∧ Only [.stations, .context, .notices, .link] s1 t) ∧
        (x.state = .idle ∨ x.state = .retract ∨ x.state = .aborting ∨ x.state = .stopped →
          exec (.feedHold tag payload) s = .next (s1.replied 0x61 tag .wrongState .none))) ∧
      (s.handed 0x62 tag payload = some s1 →
        let checks : List (Bool × Code) :=
          [(decide (x.state ≠ .holding ∧ x.state ≠ .held), .wrongState),
            (decide (s1.lift.state ≠ .raised), .causePresent), (!s1.level? .guardClosed, .causePresent),
            (s1.notLevel, .levelPending)]
        let free : CutStation := { x with holds := CutCauses.empty }
        (∀ c, firstOf checks = some c →
          exec (.resume tag payload) s = .next (s1.replied 0x62 tag c .none)) ∧
        (firstOf checks = none → x.holds.level = false → ∃ t, exec (.resume tag payload) s = .next t ∧
          s1.answers t 0x62 tag .ok .none ∧ t.context = (s1.touchStation st).context ∧
          (x.state = .holding → t.stations = s1.stations.set st free ∧ t.axes = s1.axes) ∧
          (x.state = .held → back s1 free t) ∧
          Only [.stations, .axes, .context, .notices, .link] s1 t))) ∧
    (let x := s.cut st
     let held : CutStation := { x with state := .held }
     let stopped : Axes := { s.axes with roller := s.axes.roller.set st .stop }
     let idle : Prop := s.lift.state = .raised ∧ s.level.relevel = none ∧ 0 < s.level.backlog ∧
       (s.cut st.other).state.inWork = false ∧
       ∀ o, (s.sweepOf o).state ≠ .indexing ∧ (s.sweepOf o).state ≠ .traversing
     let levelAlone : Prop := x.holds = { CutCauses.empty with level := true }
     ((x.state = .holding → x.holds ≠ CutCauses.empty → ¬idle → ∃ t, exec (.toolBackoffArrival st) s = .next t ∧
        t.stations = s.stations.set st held ∧ t.axes = stopped ∧ Only [.stations, .axes, .notices] s t) ∧
      (∀ pit, x.state = .holding → x.holds ≠ CutCauses.empty → idle → s.setup.pit = some pit →
        (s.lift.offLevel pit.relevelBand ≠ Four.const false → ∃ t, exec (.toolBackoffArrival st) s = .next t ∧
          t.stations = s.stations.set st held ∧ t.axes = stopped ∧
          t.level = { s.level with relevel := some (s.lift.offLevel pit.relevelBand) } ∧
          Only [.stations, .axes, .lift, .level, .notices] s t) ∧
        (s.lift.offLevel pit.relevelBand = Four.const false → s.level.urgent = false →
          ∃ t, exec (.toolBackoffArrival st) s = .next t ∧ t.stations = s.stations.set st held ∧
          t.axes = stopped ∧ t.level = { s.level with backlog := 0 } ∧
          Only [.stations, .axes, .lift, .level, .notices] s t) ∧
        (s.lift.offLevel pit.relevelBand = Four.const false → s.level.urgent = true →
          ∃ t, exec (.toolBackoffArrival st) s = .next t ∧
          t.level = { s.level with backlog := 0, urgent := false } ∧
          (let y := s.cut st.other
           y.state = .held → t.cut st.other =
             if { y.holds with level := false } = CutCauses.empty then
               { y with state := .approach, holds := CutCauses.empty }
             else { y with holds := { y.holds with level := false } }) ∧
          (¬levelAlone → t.cut st = { held with holds := { x.holds with level := false } } ∧
            t.axes.roller.get st = .stop) ∧
          (levelAlone → t.cut st = { x with state := .approach, holds := CutCauses.empty } ∧
            t.axes.roller.get st = .turning ∧
            ∀ p q, s.plan st = some p → p.pass = some q →
              t.axes.tool.get st =
                .position (if x.begun then x.heldAt.getD (p.zoneFirst * 1000) else p.zoneFirst * 1000) q.radius) ∧
          Only [.stations, .axes, .lift, .level, .notices] s t)) ∧
      (x.state = .holding → x.holds = CutCauses.empty → ∃ t, exec (.toolBackoffArrival st) s = .next t ∧
        back s x t ∧ Only [.stations, .axes, .notices] s t) ∧
      (x.state ≠ .holding → exec (.toolBackoffArrival st) s = .next s)))

/-- CUT ABORT sends the tools of a station at work home; when they are home, at once or with the accepted rise of
TOOLHOME_x, the cut's entry is ABORTED with the passes completed, or, if no pass had entered CUTTING, the record's
radii and entries are put back, a WRITE is queued, the plan is removed and the station is IDLE. A STOPPED station is
brought home with the stop circuit good, touching no entry, write or plan (R172, R174). -/
def Obligations.AbortsTreatTheEntry : Prop :=
  (∀ (tag : Byte) (payload : List Byte) (st : Station) (s s1 : State),
    stationParam payload = .ok st → s.handed 0x63 tag payload = some s1 →
    let x := s1.cut st
    let working : Prop := x.state = .approach ∨ x.state = .cutting ∨ x.state = .holding ∨ x.state = .held
    let home : Axes :=
      { s1.axes with
        roller := if x.state = .stopped then s1.axes.roller else s1.axes.roller.set st .stop
        tool := s1.axes.tool.set st .home }
    (working → s1.level? st.toolhome = false → ∃ t, exec (.cutAbort tag payload) s = .next t ∧
      s1.answers t 0x63 tag .ok .none ∧ t.plans = s1.plans ∧ t.store = s1.store ∧
      t.context = (s1.touchStation st).context ∧ (t.cut st).state = .aborting ∧ (t.cut st).abortKind = .cut ∧
      (s1.level.backlog = 0 →
        t.stations = s1.stations.set st
          { x with state := .aborting, abortKind := .cut, holds := CutCauses.empty } ∧
        t.axes = home ∧ Only [.stations, .axes, .context, .notices, .link] s1 t)) ∧
    (∀ i n r, working → s1.level? st.toolhome = true → s1.store.fifoServed → s1.boundSlot st = some i →
      (s1.slot i).serial = some n → (s1.slot i).working = some r → ∃ t, exec (.cutAbort tag payload) s = .next t ∧
      s1.answers t 0x63 tag .ok .none ∧ (t.cut st).state = .idle ∧ (t.cut st).abortKind = .none ∧
      (t.cut st).preCut = none ∧ (t.cut st).material = x.material ∧ t.plan st = none ∧
      t.plan st.other = s1.plan st.other ∧ (t.slot i).rank = 0 ∧
      (∀ rest e c, x.entered = true → r.entries = rest ++ [e] → e.kind = .cut c → c.outcome = .inProgress →
        (t.slot i).working =
          some { r with
            entries := rest ++ [{ e with kind := .cut { c with
              outcome := .aborted, completed := x.completed, afterRadius := ⟨none, none⟩ } }] }) ∧
      (∀ kept, x.entered = false → x.preCut = some kept →
        (t.slot i).working = some { r with lastRadius := kept.lastRadius, entries := kept.entries }) ∧
      s1.writesBack t n i [] ∧ (∀ j, j ≠ i → t.slot j = (s1.context.touch i).slots.get j) ∧
      t.context.results = s1.context.results ∧ t.context.resultsLost = s1.context.resultsLost ∧
      (s1.level.backlog = 0 →
        t.axes = home ∧ Only [.stations, .axes, .context, .store, .plans, .notices, .link] s1 t)) ∧
    (x.state = .aborting →
      exec (.cutAbort tag payload) s =
        .next { s1.replied 0x63 tag .ok .none with context := (s1.touchStation st).context }) ∧
    (x.state = .stopped →
      (s1.level? .estopOk = false →
        exec (.cutAbort tag payload) s = .next (s1.replied 0x63 tag .causePresent .none)) ∧
      (s1.level? .estopOk = true → ∃ t, exec (.cutAbort tag payload) s = .next t ∧
        s1.answers t 0x63 tag .ok .none ∧
        t.stations = s1.stations.set st
          (if s1.level? st.toolhome then { x with state := .idle, abortKind := .none, holds := CutCauses.empty }
            else { x with state := .aborting, abortKind := .recovery, holds := CutCauses.empty }) ∧
        t.axes = home ∧ t.context = (s1.touchStation st).context ∧
        Only [.stations, .axes, .context, .notices, .link] s1 t)) ∧
    (x.state = .idle ∨ x.state = .retract →
      exec (.cutAbort tag payload) s = .next (s1.replied 0x63 tag .wrongState .none))) ∧
  ∀ (st : Station) (s : State) (length : Nat), (s.inputs.get st.toolhome).timer = .running length →
    (s.inputs.get st.toolhome).raw = true → (s.cut st).state = .aborting →
    let x := s.cut st
    (x.abortKind ≠ .cut → ∃ t, exec (.debounceExpiry st.toolhome) s = .next t ∧
      t.stations = s.stations.set st { x with state := .idle, abortKind := .none } ∧
      Only [.stations, .inputs, .notices] s t) ∧
    ∀ i n r, x.abortKind = .cut → s.store.fifoServed → s.boundSlot st = some i → (s.slot i).serial = some n →
      (s.slot i).working = some r → ∃ t, exec (.debounceExpiry st.toolhome) s = .next t ∧
      t.stations = s.stations.set st { x with state := .idle, abortKind := .none, preCut := none } ∧
      t.plans = s.plans.set st none ∧
      (∀ rest e c, x.entered = true → r.entries = rest ++ [e] → e.kind = .cut c → c.outcome = .inProgress →
        (t.slot i).working =
          some { r with
            entries := rest ++ [{ e with kind := .cut { c with
              outcome := .aborted, completed := x.completed, afterRadius := ⟨none, none⟩ } }] }) ∧
      (∀ kept, x.entered = false → x.preCut = some kept →
        (t.slot i).working = some { r with lastRadius := kept.lastRadius, entries := kept.entries }) ∧
      (∀ j, j ≠ i → t.slot j = s.slot j) ∧
      s.writesBack t n i [] ∧
      t.context.results = s.context.results ∧ t.context.resultsLost = s.context.resultsLost ∧
      Only [.stations, .plans, .context, .store, .inputs, .notices] s t

/-- The tools at the wheel begin the pass, loading the counter if the pass is new, and feed across the zone; each
pulse in CUTTING takes one revolution off; the pulse that brings the counter to 0 ends the pass and the next one is
approached, or after the last the tools go home; and when they are home the cut is COMPLETE, with the target as
after radii and as last radii, a WRITE queued and the plan removed. In other states arrivals and pulses change
nothing (R155, R163 to R166). That a lateral station k stands at k times 1,000 µm is the model's reading of the
pitch in 00_scope.md (log entry 7). -/
def Obligations.PassesRunToTheEndOfTheCut : Prop :=
  ∀ (st : Station) (s : State),
    let x := s.cut st
    let completes (i : Ix) (p : Plan) (done : Nat) (n : Nat) (r : Record) (t : State) : Prop :=
      (t.cut st).state = .idle ∧ (t.cut st).preCut = none ∧ t.plan st = none ∧ (t.cut st).completed = done ∧
        (∀ rest e c, r.entries = rest ++ [e] → e.kind = .cut c → c.outcome = .inProgress →
          (t.slot i).working =
            some { r with
              lastRadius := ⟨some p.target, some p.target⟩
              entries := rest ++ [{ e with kind := .cut { c with
                outcome := .complete, completed := done, afterRadius := ⟨some p.target, some p.target⟩ } }] }) ∧
        s.writesBack t n i [] ∧ (∀ j, j ≠ i → t.slot j = s.slot j) ∧ t.context.results = s.context.results ∧
        t.context.resultsLost = s.context.resultsLost ∧ t.plan st.other = s.plan st.other
    (∀ lateral radius, exec (.toolPositionReport st lateral radius) s =
      .next { s with stations := s.stations.set st { x with toolLateral := lateral, toolRadius := radius } }) ∧
    (∀ p q, x.state = .approach → s.plan st = some p → p.pass = some q → ∃ t,
      exec (.toolApproachArrival st) s = .next t ∧
      t.stations = s.stations.set st
        { x with
          state := .cutting, begun := true, entered := true
          counter := if x.begun then x.counter else p.revolutions
          loaded := if x.begun then x.loaded else p.revolutions } ∧
      t.axes = { s.axes with tool := s.axes.tool.set st (.feed (p.zoneLast * 1000) p.feed q.radius) } ∧
      Only [.stations, .axes, .notices] s t) ∧
    (x.state ≠ .approach → exec (.toolApproachArrival st) s = .next s) ∧
    (x.state = .cutting → 2 ≤ x.counter →
      exec (.revolutionPulse st) s =
        .next { s with stations := s.stations.set st { x with counter := x.counter - 1 } }) ∧
    (x.state ≠ .cutting → exec (.revolutionPulse st) s = .next s) ∧
    (∀ p, x.state = .cutting → x.counter = 1 → s.plan st = some p →
      (∀ q, p.passIndex < p.passes.length → 1 ≤ p.passIndex → p.passes[p.passIndex]? = some q → ∃ t,
        exec (.revolutionPulse st) s = .next t ∧
        t.stations = s.stations.set st
          { x with state := .approach, counter := 0, begun := false, completed := x.completed + 1 } ∧
        t.plans = s.plans.set st (some { p with passIndex := p.passIndex + 1 }) ∧
        t.axes = { s.axes with tool := s.axes.tool.set st (.position (p.zoneFirst * 1000) q.radius) } ∧
        Only [.stations, .plans, .axes, .notices] s t) ∧
      (p.passes.length ≤ p.passIndex → s.level? st.toolhome = false → ∃ t,
        exec (.revolutionPulse st) s = .next t ∧ (t.cut st).state = .retract ∧
        (t.cut st).completed = x.completed + 1 ∧ (t.cut st).counter = 0 ∧ t.plan st = some p ∧ t.store = s.store ∧
        t.context = s.context ∧
        (s.level.backlog = 0 →
          t.axes = { s.axes with roller := s.axes.roller.set st .stop, tool := s.axes.tool.set st .home } ∧
          Only [.stations, .axes, .notices] s t)) ∧
      ∀ i n r, p.passes.length ≤ p.passIndex → s.level? st.toolhome = true → s.boundSlot st = some i →
        (s.slot i).serial = some n → (s.slot i).working = some r → s.store.fifoServed → ∃ t,
        exec (.revolutionPulse st) s = .next t ∧ completes i p (x.completed + 1) n r t) ∧
    ∀ length i n p r, (s.inputs.get st.toolhome).timer = .running length → (s.inputs.get st.toolhome).raw = true →
      (s.inputs.get st.toolhome).accepted = false → x.state = .retract → s.boundSlot st = some i →
      (s.slot i).serial = some n → (s.slot i).working = some r → s.plan st = some p → s.store.fifoServed → ∃ t,
      exec (.debounceExpiry st.toolhome) s = .next t ∧ completes i p x.completed n r t

/-! ## Reset -/

/-- RESET leaves every block at the values its rules give, from the lines as they are read: the lift PARKED with the
locks engaged, DOWN at rail, and else in HOLD for the host; each station IDLE with its tools home and else STOPPED;
every input at its sampled level; the LINK source alone pending, with the restarted indication. The record places
stay, but for the write of the request in service, begun or made: a rewrite or enrolment cut short leaves its
place's header and a body that fails its check, a retirement an empty header (R4, R21). No demand stands at an axis
port and the last tool position is 0 (log entry 7), a profile entry's stations are 0 (log entry 11), answers asked for
before the reset are forgotten (log entry 13), and the read window, invalid, holds no record and no serial (log entry
24): these are the model's choice (R21, R37, R38, R59, R77, R92,
R106, R124, R146, R159, R176, R188). -/
def Obligations.ResetRestoresEveryBlock : Prop :=
  ∀ (pins : ResetPins) (s : State), ∃ t, exec (.reset pins) s = .next t ∧ t.pending = s.pending ∧
    t.store = Store.reset t.store.places ∧
    (let cut : Prop := pins.writeMade = true ∧ ∃ r c, s.store.service = some ⟨r, c⟩ ∧
        ((∃ n k, ((∃ i, r = .write n i) ∨ (∃ x tag, r = .amend n x tag) ∨ (∃ tag, r = .retire n tag)) ∧
            s.store.placeOf n = some k) ∨
          ∃ n w k tag, r = .enrol n w k tag)
     (¬cut → t.store.places = s.store.places) ∧
     (Memory.wf s → Memory.wf t ∧
      ∀ r c, pins.writeMade = true → s.store.service = some ⟨r, c⟩ →
        let others (k : Nat) : Prop := ∀ j, j ≠ k → t.store.place j = s.store.place j
        (∀ n k, (∃ i, r = .write n i) ∨ (∃ x tag, r = .amend n x tag) → s.store.placeOf n = some k →
          (t.store.place k).header = (s.store.place k).header ∧ (t.store.place k).body = none ∧ others k) ∧
        (∀ n w k tag, r = .enrol n w k tag →
          (t.store.place k).header = (s.store.place k).header ∧ (t.store.place k).body = none ∧ others k) ∧
        ∀ n k tag, r = .retire n tag → s.store.placeOf n = some k →
          t.store.place k = { s.store.place k with header := none } ∧ others k)) ∧
    t.context = { slots := ⟨Slot.free 0, Slot.free 1, Slot.free 2, Slot.free 3⟩, results := [], resultsLost := false } ∧
    (let heights : Four Int := pins.heights.map fun h : Nat => min (h : Int) 60000
     let top := heights.toList.foldl max 0
     let parked := pins.sampled.locksEngaged
     t.lift =
        { state := if parked then .parked else if top ≤ 200 then .down else .hold
          points := heights.map fun h =>
            { position := h, demand := if parked then top else h, valve := .closed, paused := false,
              pausedDir := none, arrived := false }
          move := none, fault := none, interrupted := none, moveTimer := .stopped
          holds := { LiftCauses.empty with host := !parked && decide (200 < top) } } ∧
      t.level =
        { backlog := 0, interval := .stopped, epoch := 0, relevel := none, urgent := false, parkStep := none
          dwell := if parked then .expired else .stopped, unparkPending := false, lockRaised := parked
          relief := parked }) ∧
    (∀ i, t.level? i = pins.sampled.get i ∧ (t.inputs.get i).latch = false ∧
      (t.inputs.get i).raw = pins.raw.get i ∧
      (t.inputs.get i).timer = if pins.raw.get i = pins.sampled.get i then .stopped else .running 20) ∧
    (∀ st, t.probe st = Probe.reset ∧ t.sweepOf st = Sweep.idle ∧ t.plan st = none ∧
      t.cut st =
        { state := if pins.sampled.get st.toolhome then .idle else .stopped, holds := CutCauses.empty
          counter := 0, loaded := 0, begun := false, entered := false, completed := 0, heldAt := none
          abortKind := .none, preCut := none, material := 0, toolLateral := 0, toolRadius := 0 }) ∧
    (∀ i, t.capture.areas.get i = [] ∧ t.profile i = Profile.reset) ∧
    t.capture.angle = ⟨0, 0⟩ ∧ t.capture.request = ⟨.none, .none⟩ ∧ t.setup.pit = none ∧ t.setup.cut = none ∧
    t.engine = { runNumber := 0, run := none, lastSearch := none, delivered := ⟨false, false⟩ } ∧
    t.axes = { roller := ⟨.none, .none⟩, probe := ⟨.none, .none⟩, tool := ⟨.none, .none⟩ } ∧
    t.link =
      { assembler := .hunting, breakOn := false, queue := [], holding := none, reply := none, sending := none
        hostReady := pins.hostReady, flags := LinkFlags.clear, restarted := true, supervisor := .stopped
        timeout := 10
        rate := if pins.rate1 then .r921600 else if pins.rate0 then .r460800 else .r115200 } ∧
    ∀ src, t.notices.get src = { pending := decide (src = .link), missed := false, masked := false }

/-! ## What holds at every moment -/

/-- Every addressed list of the state, the record places, the place table, the four capture areas and the profile
offsets, keeps its canonical form through every step, so that equal contents are equal data. The form is the model's
choice. -/
def Obligations.EveryStepKeepsAddressedLists : Prop :=
  ∀ s t : State, Memory.wf s → step s = .next t → Memory.wf t

/-- Through every step the command queue, the holding slot and the result lists stay within their capacities (R17,
R36, R179), at most one profile entry is LOADING (R192), no request waits with none in service (R7), and every sample
of a capture area is UNSET, INVALID or a radius from 300,000 to 700,000 µm (R107). -/
def Obligations.EveryStepKeepsListsAndSamples : Prop :=
  ∀ s t : State, step s = .next t →
    (s.listsBounded → t.listsBounded) ∧ (s.oneLoad → t.oneLoad) ∧ (s.store.fifoServed → t.store.fifoServed) ∧
      (s.samplesInRange → t.samplesInRange)

/-- Through every step no two slots hold one serial, no station is bound to or asked for by two slots, the recency
ranks are 0 to 3 with one slot each, a bound slot is OPEN, and each slot that waits for a record has its one LOAD in
the FIFO (R22, R23, R26, R27, R30). -/
def Obligations.EveryStepKeepsSlotsDistinct : Prop :=
  ∀ s t : State, step s = .next t → (s.slotsDistinct → t.slotsDistinct) ∧ (s.slotsServed → t.slotsServed)

/-- Through every step the valves stand as R39 gives, a hold cause set is empty outside HOLD, a fault cause stands
only in FAULT, the backlog is 0 to 3 and 0 outside RAISED, and the move timeout runs only in a leg or a re-level
(R39, R40, R50, R60, R61, R64). -/
def Obligations.EveryStepKeepsTheLiftInForm : Prop :=
  ∀ s t : State, s.liftInForm → step s = .next t → t.liftInForm

/-- Through every step a station is in APPROACH or CUTTING only with the bogie RAISED, the guard closed, its wheelset
clamped and bound, its probe unit out of calibration mode and no hold cause; in HOLDING and HELD a departed lift or an
open guard is among its causes; and its revolution counter does not exceed the loaded total (R160, R164, R167,
R169). -/
def Obligations.EveryStepKeepsCuttingSafe : Prop :=
  ∀ s t : State, s.cuttingSafe → step s = .next t → t.cuttingSafe

/-- `State.reset`, the state after reset with the pit at rest and an empty memory, meets every condition that the
steps keep. That it is this state among those a reset can leave is the model's choice (log entries 1 and 2). -/
def Obligations.ResetMeetsEveryCondition : Prop :=
  Memory.wf State.reset ∧ State.reset.listsBounded ∧ State.reset.oneLoad ∧ State.reset.store.fifoServed ∧
    State.reset.samplesInRange ∧ State.reset.slotsDistinct ∧ State.reset.slotsServed ∧ State.reset.liftInForm ∧
    State.reset.cuttingSafe
end

