-- ==== Sys2Proof/Laws/State.lean ====
section
/-! SUPPORT. What each named update of the state does to each field: one lemma for each field, true by
unfolding, so that no later proof opens a record update. -/

namespace Sys2Proof.Machine

/-! ### notify -/

@[simp] theorem State.notify_pending (s : State) (src : Source) : (s.notify src).pending = s.pending := rfl
@[simp] theorem State.notify_store (s : State) (src : Source) : (s.notify src).store = s.store := rfl
@[simp] theorem State.notify_context (s : State) (src : Source) : (s.notify src).context = s.context := rfl
@[simp] theorem State.notify_lift (s : State) (src : Source) : (s.notify src).lift = s.lift := rfl
@[simp] theorem State.notify_level (s : State) (src : Source) : (s.notify src).level = s.level := rfl
@[simp] theorem State.notify_inputs (s : State) (src : Source) : (s.notify src).inputs = s.inputs := rfl
@[simp] theorem State.notify_probes (s : State) (src : Source) : (s.notify src).probes = s.probes := rfl
@[simp] theorem State.notify_capture (s : State) (src : Source) : (s.notify src).capture = s.capture := rfl
@[simp] theorem State.notify_engine (s : State) (src : Source) : (s.notify src).engine = s.engine := rfl
@[simp] theorem State.notify_plans (s : State) (src : Source) : (s.notify src).plans = s.plans := rfl
@[simp] theorem State.notify_stations (s : State) (src : Source) : (s.notify src).stations = s.stations := rfl
@[simp] theorem State.notify_axes (s : State) (src : Source) : (s.notify src).axes = s.axes := rfl
@[simp] theorem State.notify_setup (s : State) (src : Source) : (s.notify src).setup = s.setup := rfl
@[simp] theorem State.notify_link (s : State) (src : Source) : (s.notify src).link = s.link := rfl
@[simp] theorem State.notify_notices (s : State) (src : Source) :
    (s.notify src).notices = s.notices.set src (s.notices.get src).event := rfl

/-! ### setSlot -/

@[simp] theorem State.setSlot_pending (s : State) (i : Ix) (sl : Slot) :
    (s.setSlot i sl).pending = s.pending := rfl
@[simp] theorem State.setSlot_store (s : State) (i : Ix) (sl : Slot) : (s.setSlot i sl).store = s.store := rfl
@[simp] theorem State.setSlot_context (s : State) (i : Ix) (sl : Slot) :
    (s.setSlot i sl).context = { s.context with slots := s.context.slots.set i sl } := rfl
@[simp] theorem State.setSlot_lift (s : State) (i : Ix) (sl : Slot) : (s.setSlot i sl).lift = s.lift := rfl
@[simp] theorem State.setSlot_level (s : State) (i : Ix) (sl : Slot) : (s.setSlot i sl).level = s.level := rfl
@[simp] theorem State.setSlot_inputs (s : State) (i : Ix) (sl : Slot) :
    (s.setSlot i sl).inputs = s.inputs := rfl
@[simp] theorem State.setSlot_probes (s : State) (i : Ix) (sl : Slot) :
    (s.setSlot i sl).probes = s.probes := rfl
@[simp] theorem State.setSlot_capture (s : State) (i : Ix) (sl : Slot) :
    (s.setSlot i sl).capture = s.capture := rfl
@[simp] theorem State.setSlot_engine (s : State) (i : Ix) (sl : Slot) :
    (s.setSlot i sl).engine = s.engine := rfl
@[simp] theorem State.setSlot_plans (s : State) (i : Ix) (sl : Slot) : (s.setSlot i sl).plans = s.plans := rfl
@[simp] theorem State.setSlot_stations (s : State) (i : Ix) (sl : Slot) :
    (s.setSlot i sl).stations = s.stations := rfl
@[simp] theorem State.setSlot_axes (s : State) (i : Ix) (sl : Slot) : (s.setSlot i sl).axes = s.axes := rfl
@[simp] theorem State.setSlot_setup (s : State) (i : Ix) (sl : Slot) : (s.setSlot i sl).setup = s.setup := rfl
@[simp] theorem State.setSlot_link (s : State) (i : Ix) (sl : Slot) : (s.setSlot i sl).link = s.link := rfl
@[simp] theorem State.setSlot_notices (s : State) (i : Ix) (sl : Slot) :
    (s.setSlot i sl).notices = s.notices := rfl

/-! ### touchSlot -/

@[simp] theorem State.touchSlot_pending (s : State) (i : Ix) : (s.touchSlot i).pending = s.pending := rfl
@[simp] theorem State.touchSlot_store (s : State) (i : Ix) : (s.touchSlot i).store = s.store := rfl
@[simp] theorem State.touchSlot_context (s : State) (i : Ix) :
    (s.touchSlot i).context = s.context.touch i := rfl
@[simp] theorem State.touchSlot_lift (s : State) (i : Ix) : (s.touchSlot i).lift = s.lift := rfl
@[simp] theorem State.touchSlot_level (s : State) (i : Ix) : (s.touchSlot i).level = s.level := rfl
@[simp] theorem State.touchSlot_inputs (s : State) (i : Ix) : (s.touchSlot i).inputs = s.inputs := rfl
@[simp] theorem State.touchSlot_probes (s : State) (i : Ix) : (s.touchSlot i).probes = s.probes := rfl
@[simp] theorem State.touchSlot_capture (s : State) (i : Ix) : (s.touchSlot i).capture = s.capture := rfl
@[simp] theorem State.touchSlot_engine (s : State) (i : Ix) : (s.touchSlot i).engine = s.engine := rfl
@[simp] theorem State.touchSlot_plans (s : State) (i : Ix) : (s.touchSlot i).plans = s.plans := rfl
@[simp] theorem State.touchSlot_stations (s : State) (i : Ix) : (s.touchSlot i).stations = s.stations := rfl
@[simp] theorem State.touchSlot_axes (s : State) (i : Ix) : (s.touchSlot i).axes = s.axes := rfl
@[simp] theorem State.touchSlot_setup (s : State) (i : Ix) : (s.touchSlot i).setup = s.setup := rfl
@[simp] theorem State.touchSlot_link (s : State) (i : Ix) : (s.touchSlot i).link = s.link := rfl
@[simp] theorem State.touchSlot_notices (s : State) (i : Ix) : (s.touchSlot i).notices = s.notices := rfl

/-! ### freeSlot -/

@[simp] theorem State.freeSlot_pending (s : State) (i : Ix) : (s.freeSlot i).pending = s.pending := rfl
@[simp] theorem State.freeSlot_store (s : State) (i : Ix) : (s.freeSlot i).store = s.store := rfl
@[simp] theorem State.freeSlot_context (s : State) (i : Ix) :
    (s.freeSlot i).context = s.context.release i := rfl
@[simp] theorem State.freeSlot_lift (s : State) (i : Ix) : (s.freeSlot i).lift = s.lift := rfl
@[simp] theorem State.freeSlot_level (s : State) (i : Ix) : (s.freeSlot i).level = s.level := rfl
@[simp] theorem State.freeSlot_inputs (s : State) (i : Ix) : (s.freeSlot i).inputs = s.inputs := rfl
@[simp] theorem State.freeSlot_probes (s : State) (i : Ix) : (s.freeSlot i).probes = s.probes := rfl
@[simp] theorem State.freeSlot_capture (s : State) (i : Ix) : (s.freeSlot i).capture = s.capture := rfl
@[simp] theorem State.freeSlot_engine (s : State) (i : Ix) : (s.freeSlot i).engine = s.engine := rfl
@[simp] theorem State.freeSlot_plans (s : State) (i : Ix) : (s.freeSlot i).plans = s.plans := rfl
@[simp] theorem State.freeSlot_stations (s : State) (i : Ix) : (s.freeSlot i).stations = s.stations := rfl
@[simp] theorem State.freeSlot_axes (s : State) (i : Ix) : (s.freeSlot i).axes = s.axes := rfl
@[simp] theorem State.freeSlot_setup (s : State) (i : Ix) : (s.freeSlot i).setup = s.setup := rfl
@[simp] theorem State.freeSlot_link (s : State) (i : Ix) : (s.freeSlot i).link = s.link := rfl
@[simp] theorem State.freeSlot_notices (s : State) (i : Ix) : (s.freeSlot i).notices = s.notices := rfl

/-! ### mapStore -/

@[simp] theorem State.mapStore_pending (s : State) (f : Store → Store) :
    (s.mapStore f).pending = s.pending := rfl
@[simp] theorem State.mapStore_store (s : State) (f : Store → Store) : (s.mapStore f).store = f s.store := rfl
@[simp] theorem State.mapStore_context (s : State) (f : Store → Store) :
    (s.mapStore f).context = s.context := rfl
@[simp] theorem State.mapStore_lift (s : State) (f : Store → Store) : (s.mapStore f).lift = s.lift := rfl
@[simp] theorem State.mapStore_level (s : State) (f : Store → Store) : (s.mapStore f).level = s.level := rfl
@[simp] theorem State.mapStore_inputs (s : State) (f : Store → Store) : (s.mapStore f).inputs = s.inputs := rfl
@[simp] theorem State.mapStore_probes (s : State) (f : Store → Store) : (s.mapStore f).probes = s.probes := rfl
@[simp] theorem State.mapStore_capture (s : State) (f : Store → Store) :
    (s.mapStore f).capture = s.capture := rfl
@[simp] theorem State.mapStore_engine (s : State) (f : Store → Store) : (s.mapStore f).engine = s.engine := rfl
@[simp] theorem State.mapStore_plans (s : State) (f : Store → Store) : (s.mapStore f).plans = s.plans := rfl
@[simp] theorem State.mapStore_stations (s : State) (f : Store → Store) :
    (s.mapStore f).stations = s.stations := rfl
@[simp] theorem State.mapStore_axes (s : State) (f : Store → Store) : (s.mapStore f).axes = s.axes := rfl
@[simp] theorem State.mapStore_setup (s : State) (f : Store → Store) : (s.mapStore f).setup = s.setup := rfl
@[simp] theorem State.mapStore_link (s : State) (f : Store → Store) : (s.mapStore f).link = s.link := rfl
@[simp] theorem State.mapStore_notices (s : State) (f : Store → Store) :
    (s.mapStore f).notices = s.notices := rfl

/-! ### putSweep -/

@[simp] theorem State.putSweep_pending (s : State) (st : Station) (w : Sweep) :
    (s.putSweep st w).pending = s.pending := rfl
@[simp] theorem State.putSweep_store (s : State) (st : Station) (w : Sweep) :
    (s.putSweep st w).store = s.store := rfl
@[simp] theorem State.putSweep_context (s : State) (st : Station) (w : Sweep) :
    (s.putSweep st w).context = s.context := rfl
@[simp] theorem State.putSweep_lift (s : State) (st : Station) (w : Sweep) :
    (s.putSweep st w).lift = s.lift := rfl
@[simp] theorem State.putSweep_level (s : State) (st : Station) (w : Sweep) :
    (s.putSweep st w).level = s.level := rfl
@[simp] theorem State.putSweep_inputs (s : State) (st : Station) (w : Sweep) :
    (s.putSweep st w).inputs = s.inputs := rfl
@[simp] theorem State.putSweep_probes (s : State) (st : Station) (w : Sweep) :
    (s.putSweep st w).probes = s.probes := rfl
@[simp] theorem State.putSweep_capture (s : State) (st : Station) (w : Sweep) :
    (s.putSweep st w).capture = { s.capture with sweep := s.capture.sweep.set st w } := rfl
@[simp] theorem State.putSweep_engine (s : State) (st : Station) (w : Sweep) :
    (s.putSweep st w).engine = s.engine := rfl
@[simp] theorem State.putSweep_plans (s : State) (st : Station) (w : Sweep) :
    (s.putSweep st w).plans = s.plans := rfl
@[simp] theorem State.putSweep_stations (s : State) (st : Station) (w : Sweep) :
    (s.putSweep st w).stations = s.stations := rfl
@[simp] theorem State.putSweep_axes (s : State) (st : Station) (w : Sweep) :
    (s.putSweep st w).axes = s.axes := rfl
@[simp] theorem State.putSweep_setup (s : State) (st : Station) (w : Sweep) :
    (s.putSweep st w).setup = s.setup := rfl
@[simp] theorem State.putSweep_link (s : State) (st : Station) (w : Sweep) :
    (s.putSweep st w).link = s.link := rfl
@[simp] theorem State.putSweep_notices (s : State) (st : Station) (w : Sweep) :
    (s.putSweep st w).notices = s.notices := rfl

/-! ### putRequest -/

@[simp] theorem State.putRequest_pending (s : State) (st : Station) (r : SampleRequest) :
    (s.putRequest st r).pending = s.pending := rfl
@[simp] theorem State.putRequest_store (s : State) (st : Station) (r : SampleRequest) :
    (s.putRequest st r).store = s.store := rfl
@[simp] theorem State.putRequest_context (s : State) (st : Station) (r : SampleRequest) :
    (s.putRequest st r).context = s.context := rfl
@[simp] theorem State.putRequest_lift (s : State) (st : Station) (r : SampleRequest) :
    (s.putRequest st r).lift = s.lift := rfl
@[simp] theorem State.putRequest_level (s : State) (st : Station) (r : SampleRequest) :
    (s.putRequest st r).level = s.level := rfl
@[simp] theorem State.putRequest_inputs (s : State) (st : Station) (r : SampleRequest) :
    (s.putRequest st r).inputs = s.inputs := rfl
@[simp] theorem State.putRequest_probes (s : State) (st : Station) (r : SampleRequest) :
    (s.putRequest st r).probes = s.probes := rfl
@[simp] theorem State.putRequest_capture (s : State) (st : Station) (r : SampleRequest) :
    (s.putRequest st r).capture = { s.capture with request := s.capture.request.set st r } := rfl
@[simp] theorem State.putRequest_engine (s : State) (st : Station) (r : SampleRequest) :
    (s.putRequest st r).engine = s.engine := rfl
@[simp] theorem State.putRequest_plans (s : State) (st : Station) (r : SampleRequest) :
    (s.putRequest st r).plans = s.plans := rfl
@[simp] theorem State.putRequest_stations (s : State) (st : Station) (r : SampleRequest) :
    (s.putRequest st r).stations = s.stations := rfl
@[simp] theorem State.putRequest_axes (s : State) (st : Station) (r : SampleRequest) :
    (s.putRequest st r).axes = s.axes := rfl
@[simp] theorem State.putRequest_setup (s : State) (st : Station) (r : SampleRequest) :
    (s.putRequest st r).setup = s.setup := rfl
@[simp] theorem State.putRequest_link (s : State) (st : Station) (r : SampleRequest) :
    (s.putRequest st r).link = s.link := rfl
@[simp] theorem State.putRequest_notices (s : State) (st : Station) (r : SampleRequest) :
    (s.putRequest st r).notices = s.notices := rfl

/-! ### putAngle -/

@[simp] theorem State.putAngle_pending (s : State) (st : Station) (n : Nat) :
    (s.putAngle st n).pending = s.pending := rfl
@[simp] theorem State.putAngle_store (s : State) (st : Station) (n : Nat) :
    (s.putAngle st n).store = s.store := rfl
@[simp] theorem State.putAngle_context (s : State) (st : Station) (n : Nat) :
    (s.putAngle st n).context = s.context := rfl
@[simp] theorem State.putAngle_lift (s : State) (st : Station) (n : Nat) :
    (s.putAngle st n).lift = s.lift := rfl
@[simp] theorem State.putAngle_level (s : State) (st : Station) (n : Nat) :
    (s.putAngle st n).level = s.level := rfl
@[simp] theorem State.putAngle_inputs (s : State) (st : Station) (n : Nat) :
    (s.putAngle st n).inputs = s.inputs := rfl
@[simp] theorem State.putAngle_probes (s : State) (st : Station) (n : Nat) :
    (s.putAngle st n).probes = s.probes := rfl
@[simp] theorem State.putAngle_capture (s : State) (st : Station) (n : Nat) :
    (s.putAngle st n).capture = { s.capture with angle := s.capture.angle.set st n } := rfl
@[simp] theorem State.putAngle_engine (s : State) (st : Station) (n : Nat) :
    (s.putAngle st n).engine = s.engine := rfl
@[simp] theorem State.putAngle_plans (s : State) (st : Station) (n : Nat) :
    (s.putAngle st n).plans = s.plans := rfl
@[simp] theorem State.putAngle_stations (s : State) (st : Station) (n : Nat) :
    (s.putAngle st n).stations = s.stations := rfl
@[simp] theorem State.putAngle_axes (s : State) (st : Station) (n : Nat) :
    (s.putAngle st n).axes = s.axes := rfl
@[simp] theorem State.putAngle_setup (s : State) (st : Station) (n : Nat) :
    (s.putAngle st n).setup = s.setup := rfl
@[simp] theorem State.putAngle_link (s : State) (st : Station) (n : Nat) :
    (s.putAngle st n).link = s.link := rfl
@[simp] theorem State.putAngle_notices (s : State) (st : Station) (n : Nat) :
    (s.putAngle st n).notices = s.notices := rfl

/-! ### driveRoller -/

@[simp] theorem State.driveRoller_pending (s : State) (st : Station) (d : RollerDemand) :
    (s.driveRoller st d).pending = s.pending := rfl
@[simp] theorem State.driveRoller_store (s : State) (st : Station) (d : RollerDemand) :
    (s.driveRoller st d).store = s.store := rfl
@[simp] theorem State.driveRoller_context (s : State) (st : Station) (d : RollerDemand) :
    (s.driveRoller st d).context = s.context := rfl
@[simp] theorem State.driveRoller_lift (s : State) (st : Station) (d : RollerDemand) :
    (s.driveRoller st d).lift = s.lift := rfl
@[simp] theorem State.driveRoller_level (s : State) (st : Station) (d : RollerDemand) :
    (s.driveRoller st d).level = s.level := rfl
@[simp] theorem State.driveRoller_inputs (s : State) (st : Station) (d : RollerDemand) :
    (s.driveRoller st d).inputs = s.inputs := rfl
@[simp] theorem State.driveRoller_probes (s : State) (st : Station) (d : RollerDemand) :
    (s.driveRoller st d).probes = s.probes := rfl
@[simp] theorem State.driveRoller_capture (s : State) (st : Station) (d : RollerDemand) :
    (s.driveRoller st d).capture = s.capture := rfl
@[simp] theorem State.driveRoller_engine (s : State) (st : Station) (d : RollerDemand) :
    (s.driveRoller st d).engine = s.engine := rfl
@[simp] theorem State.driveRoller_plans (s : State) (st : Station) (d : RollerDemand) :
    (s.driveRoller st d).plans = s.plans := rfl
@[simp] theorem State.driveRoller_stations (s : State) (st : Station) (d : RollerDemand) :
    (s.driveRoller st d).stations = s.stations := rfl
@[simp] theorem State.driveRoller_axes (s : State) (st : Station) (d : RollerDemand) :
    (s.driveRoller st d).axes = { s.axes with roller := s.axes.roller.set st d } := rfl
@[simp] theorem State.driveRoller_setup (s : State) (st : Station) (d : RollerDemand) :
    (s.driveRoller st d).setup = s.setup := rfl
@[simp] theorem State.driveRoller_link (s : State) (st : Station) (d : RollerDemand) :
    (s.driveRoller st d).link = s.link := rfl
@[simp] theorem State.driveRoller_notices (s : State) (st : Station) (d : RollerDemand) :
    (s.driveRoller st d).notices = s.notices := rfl

/-! ### driveProbe -/

@[simp] theorem State.driveProbe_pending (s : State) (st : Station) (d : ProbeDemand) :
    (s.driveProbe st d).pending = s.pending := rfl
@[simp] theorem State.driveProbe_store (s : State) (st : Station) (d : ProbeDemand) :
    (s.driveProbe st d).store = s.store := rfl
@[simp] theorem State.driveProbe_context (s : State) (st : Station) (d : ProbeDemand) :
    (s.driveProbe st d).context = s.context := rfl
@[simp] theorem State.driveProbe_lift (s : State) (st : Station) (d : ProbeDemand) :
    (s.driveProbe st d).lift = s.lift := rfl
@[simp] theorem State.driveProbe_level (s : State) (st : Station) (d : ProbeDemand) :
    (s.driveProbe st d).level = s.level := rfl
@[simp] theorem State.driveProbe_inputs (s : State) (st : Station) (d : ProbeDemand) :
    (s.driveProbe st d).inputs = s.inputs := rfl
@[simp] theorem State.driveProbe_probes (s : State) (st : Station) (d : ProbeDemand) :
    (s.driveProbe st d).probes = s.probes := rfl
@[simp] theorem State.driveProbe_capture (s : State) (st : Station) (d : ProbeDemand) :
    (s.driveProbe st d).capture = s.capture := rfl
@[simp] theorem State.driveProbe_engine (s : State) (st : Station) (d : ProbeDemand) :
    (s.driveProbe st d).engine = s.engine := rfl
@[simp] theorem State.driveProbe_plans (s : State) (st : Station) (d : ProbeDemand) :
    (s.driveProbe st d).plans = s.plans := rfl
@[simp] theorem State.driveProbe_stations (s : State) (st : Station) (d : ProbeDemand) :
    (s.driveProbe st d).stations = s.stations := rfl
@[simp] theorem State.driveProbe_axes (s : State) (st : Station) (d : ProbeDemand) :
    (s.driveProbe st d).axes = { s.axes with probe := s.axes.probe.set st d } := rfl
@[simp] theorem State.driveProbe_setup (s : State) (st : Station) (d : ProbeDemand) :
    (s.driveProbe st d).setup = s.setup := rfl
@[simp] theorem State.driveProbe_link (s : State) (st : Station) (d : ProbeDemand) :
    (s.driveProbe st d).link = s.link := rfl
@[simp] theorem State.driveProbe_notices (s : State) (st : Station) (d : ProbeDemand) :
    (s.driveProbe st d).notices = s.notices := rfl

/-! ### driveTool -/

@[simp] theorem State.driveTool_pending (s : State) (st : Station) (d : ToolDemand) :
    (s.driveTool st d).pending = s.pending := rfl
@[simp] theorem State.driveTool_store (s : State) (st : Station) (d : ToolDemand) :
    (s.driveTool st d).store = s.store := rfl
@[simp] theorem State.driveTool_context (s : State) (st : Station) (d : ToolDemand) :
    (s.driveTool st d).context = s.context := rfl
@[simp] theorem State.driveTool_lift (s : State) (st : Station) (d : ToolDemand) :
    (s.driveTool st d).lift = s.lift := rfl
@[simp] theorem State.driveTool_level (s : State) (st : Station) (d : ToolDemand) :
    (s.driveTool st d).level = s.level := rfl
@[simp] theorem State.driveTool_inputs (s : State) (st : Station) (d : ToolDemand) :
    (s.driveTool st d).inputs = s.inputs := rfl
@[simp] theorem State.driveTool_probes (s : State) (st : Station) (d : ToolDemand) :
    (s.driveTool st d).probes = s.probes := rfl
@[simp] theorem State.driveTool_capture (s : State) (st : Station) (d : ToolDemand) :
    (s.driveTool st d).capture = s.capture := rfl
@[simp] theorem State.driveTool_engine (s : State) (st : Station) (d : ToolDemand) :
    (s.driveTool st d).engine = s.engine := rfl
@[simp] theorem State.driveTool_plans (s : State) (st : Station) (d : ToolDemand) :
    (s.driveTool st d).plans = s.plans := rfl
@[simp] theorem State.driveTool_stations (s : State) (st : Station) (d : ToolDemand) :
    (s.driveTool st d).stations = s.stations := rfl
@[simp] theorem State.driveTool_axes (s : State) (st : Station) (d : ToolDemand) :
    (s.driveTool st d).axes = { s.axes with tool := s.axes.tool.set st d } := rfl
@[simp] theorem State.driveTool_setup (s : State) (st : Station) (d : ToolDemand) :
    (s.driveTool st d).setup = s.setup := rfl
@[simp] theorem State.driveTool_link (s : State) (st : Station) (d : ToolDemand) :
    (s.driveTool st d).link = s.link := rfl
@[simp] theorem State.driveTool_notices (s : State) (st : Station) (d : ToolDemand) :
    (s.driveTool st d).notices = s.notices := rfl

/-! ### staleMeasurements -/

@[simp] theorem State.staleMeasurements_pending (s : State) : (s.staleMeasurements).pending = s.pending := rfl
@[simp] theorem State.staleMeasurements_store (s : State) : (s.staleMeasurements).store = s.store := rfl
@[simp] theorem State.staleMeasurements_lift (s : State) : (s.staleMeasurements).lift = s.lift := rfl
@[simp] theorem State.staleMeasurements_level (s : State) : (s.staleMeasurements).level = s.level := rfl
@[simp] theorem State.staleMeasurements_inputs (s : State) : (s.staleMeasurements).inputs = s.inputs := rfl
@[simp] theorem State.staleMeasurements_probes (s : State) : (s.staleMeasurements).probes = s.probes := rfl
@[simp] theorem State.staleMeasurements_capture (s : State) : (s.staleMeasurements).capture = s.capture := rfl
@[simp] theorem State.staleMeasurements_engine (s : State) : (s.staleMeasurements).engine = s.engine := rfl
@[simp] theorem State.staleMeasurements_plans (s : State) : (s.staleMeasurements).plans = s.plans := rfl
@[simp] theorem State.staleMeasurements_stations (s : State) :
    (s.staleMeasurements).stations = s.stations := rfl
@[simp] theorem State.staleMeasurements_axes (s : State) : (s.staleMeasurements).axes = s.axes := rfl
@[simp] theorem State.staleMeasurements_setup (s : State) : (s.staleMeasurements).setup = s.setup := rfl
@[simp] theorem State.staleMeasurements_link (s : State) : (s.staleMeasurements).link = s.link := rfl
@[simp] theorem State.staleMeasurements_notices (s : State) : (s.staleMeasurements).notices = s.notices := rfl

/-! ### markDeparted -/

@[simp] theorem State.markDeparted_pending (s : State) : (s.markDeparted).pending = s.pending := rfl
@[simp] theorem State.markDeparted_store (s : State) : (s.markDeparted).store = s.store := rfl
@[simp] theorem State.markDeparted_context (s : State) : (s.markDeparted).context = s.context := rfl
@[simp] theorem State.markDeparted_lift (s : State) : (s.markDeparted).lift = s.lift := rfl
@[simp] theorem State.markDeparted_level (s : State) : (s.markDeparted).level = s.level := rfl
@[simp] theorem State.markDeparted_inputs (s : State) : (s.markDeparted).inputs = s.inputs := rfl
@[simp] theorem State.markDeparted_probes (s : State) : (s.markDeparted).probes = s.probes := rfl
@[simp] theorem State.markDeparted_capture (s : State) : (s.markDeparted).capture = s.capture := rfl
@[simp] theorem State.markDeparted_engine (s : State) : (s.markDeparted).engine = s.engine.markDeparted := rfl
@[simp] theorem State.markDeparted_plans (s : State) : (s.markDeparted).plans = s.plans := rfl
@[simp] theorem State.markDeparted_stations (s : State) : (s.markDeparted).stations = s.stations := rfl
@[simp] theorem State.markDeparted_axes (s : State) : (s.markDeparted).axes = s.axes := rfl
@[simp] theorem State.markDeparted_setup (s : State) : (s.markDeparted).setup = s.setup := rfl
@[simp] theorem State.markDeparted_link (s : State) : (s.markDeparted).link = s.link := rfl
@[simp] theorem State.markDeparted_notices (s : State) : (s.markDeparted).notices = s.notices := rfl

/-! ### putReply -/

@[simp] theorem State.putReply_pending (s : State) (r : Reply) : (s.putReply r).pending = s.pending := rfl
@[simp] theorem State.putReply_store (s : State) (r : Reply) : (s.putReply r).store = s.store := rfl
@[simp] theorem State.putReply_context (s : State) (r : Reply) : (s.putReply r).context = s.context := rfl
@[simp] theorem State.putReply_lift (s : State) (r : Reply) : (s.putReply r).lift = s.lift := rfl
@[simp] theorem State.putReply_level (s : State) (r : Reply) : (s.putReply r).level = s.level := rfl
@[simp] theorem State.putReply_inputs (s : State) (r : Reply) : (s.putReply r).inputs = s.inputs := rfl
@[simp] theorem State.putReply_probes (s : State) (r : Reply) : (s.putReply r).probes = s.probes := rfl
@[simp] theorem State.putReply_capture (s : State) (r : Reply) : (s.putReply r).capture = s.capture := rfl
@[simp] theorem State.putReply_engine (s : State) (r : Reply) : (s.putReply r).engine = s.engine := rfl
@[simp] theorem State.putReply_plans (s : State) (r : Reply) : (s.putReply r).plans = s.plans := rfl
@[simp] theorem State.putReply_stations (s : State) (r : Reply) : (s.putReply r).stations = s.stations := rfl
@[simp] theorem State.putReply_axes (s : State) (r : Reply) : (s.putReply r).axes = s.axes := rfl
@[simp] theorem State.putReply_setup (s : State) (r : Reply) : (s.putReply r).setup = s.setup := rfl
@[simp] theorem State.putReply_link (s : State) (r : Reply) :
    (s.putReply r).link = { s.link with reply := some r } := rfl
@[simp] theorem State.putReply_notices (s : State) (r : Reply) : (s.putReply r).notices = s.notices := rfl

/-! ### acceptFrame -/

@[simp] theorem State.acceptFrame_pending (s : State) (f : Frame) :
    (s.acceptFrame f).pending = s.pending := rfl
@[simp] theorem State.acceptFrame_store (s : State) (f : Frame) : (s.acceptFrame f).store = s.store := rfl
@[simp] theorem State.acceptFrame_context (s : State) (f : Frame) :
    (s.acceptFrame f).context = s.context := rfl
@[simp] theorem State.acceptFrame_lift (s : State) (f : Frame) : (s.acceptFrame f).lift = s.lift := rfl
@[simp] theorem State.acceptFrame_level (s : State) (f : Frame) : (s.acceptFrame f).level = s.level := rfl
@[simp] theorem State.acceptFrame_inputs (s : State) (f : Frame) : (s.acceptFrame f).inputs = s.inputs := rfl
@[simp] theorem State.acceptFrame_probes (s : State) (f : Frame) : (s.acceptFrame f).probes = s.probes := rfl
@[simp] theorem State.acceptFrame_capture (s : State) (f : Frame) :
    (s.acceptFrame f).capture = s.capture := rfl
@[simp] theorem State.acceptFrame_engine (s : State) (f : Frame) : (s.acceptFrame f).engine = s.engine := rfl
@[simp] theorem State.acceptFrame_plans (s : State) (f : Frame) : (s.acceptFrame f).plans = s.plans := rfl
@[simp] theorem State.acceptFrame_stations (s : State) (f : Frame) :
    (s.acceptFrame f).stations = s.stations := rfl
@[simp] theorem State.acceptFrame_axes (s : State) (f : Frame) : (s.acceptFrame f).axes = s.axes := rfl
@[simp] theorem State.acceptFrame_setup (s : State) (f : Frame) : (s.acceptFrame f).setup = s.setup := rfl
@[simp] theorem State.acceptFrame_link (s : State) (f : Frame) :
    (s.acceptFrame f).link = s.link.restart.place f := rfl
@[simp] theorem State.acceptFrame_notices (s : State) (f : Frame) :
    (s.acceptFrame f).notices = s.notices := rfl

/-! ### breakLoad -/

@[simp] theorem State.breakLoad_pending (s : State) (k : Option Ix) :
    (s.breakLoad k).pending = s.pending := rfl
@[simp] theorem State.breakLoad_store (s : State) (k : Option Ix) : (s.breakLoad k).store = s.store := rfl
@[simp] theorem State.breakLoad_context (s : State) (k : Option Ix) :
    (s.breakLoad k).context = s.context := rfl
@[simp] theorem State.breakLoad_lift (s : State) (k : Option Ix) : (s.breakLoad k).lift = s.lift := rfl
@[simp] theorem State.breakLoad_level (s : State) (k : Option Ix) : (s.breakLoad k).level = s.level := rfl
@[simp] theorem State.breakLoad_inputs (s : State) (k : Option Ix) : (s.breakLoad k).inputs = s.inputs := rfl
@[simp] theorem State.breakLoad_probes (s : State) (k : Option Ix) : (s.breakLoad k).probes = s.probes := rfl
@[simp] theorem State.breakLoad_capture (s : State) (k : Option Ix) :
    (s.breakLoad k).capture = s.capture := rfl
@[simp] theorem State.breakLoad_engine (s : State) (k : Option Ix) : (s.breakLoad k).engine = s.engine := rfl
@[simp] theorem State.breakLoad_plans (s : State) (k : Option Ix) : (s.breakLoad k).plans = s.plans := rfl
@[simp] theorem State.breakLoad_stations (s : State) (k : Option Ix) :
    (s.breakLoad k).stations = s.stations := rfl
@[simp] theorem State.breakLoad_axes (s : State) (k : Option Ix) : (s.breakLoad k).axes = s.axes := rfl
@[simp] theorem State.breakLoad_link (s : State) (k : Option Ix) : (s.breakLoad k).link = s.link := rfl
@[simp] theorem State.breakLoad_notices (s : State) (k : Option Ix) :
    (s.breakLoad k).notices = s.notices := rfl

/-! ### putInput -/

@[simp] theorem State.putInput_pending (s : State) (i : Input) (x : InputState) :
    (s.putInput i x).pending = s.pending := rfl
@[simp] theorem State.putInput_store (s : State) (i : Input) (x : InputState) :
    (s.putInput i x).store = s.store := rfl
@[simp] theorem State.putInput_context (s : State) (i : Input) (x : InputState) :
    (s.putInput i x).context = s.context := rfl
@[simp] theorem State.putInput_lift (s : State) (i : Input) (x : InputState) :
    (s.putInput i x).lift = s.lift := rfl
@[simp] theorem State.putInput_level (s : State) (i : Input) (x : InputState) :
    (s.putInput i x).level = s.level := rfl
@[simp] theorem State.putInput_inputs (s : State) (i : Input) (x : InputState) :
    (s.putInput i x).inputs = s.inputs.set i x := rfl
@[simp] theorem State.putInput_probes (s : State) (i : Input) (x : InputState) :
    (s.putInput i x).probes = s.probes := rfl
@[simp] theorem State.putInput_capture (s : State) (i : Input) (x : InputState) :
    (s.putInput i x).capture = s.capture := rfl
@[simp] theorem State.putInput_engine (s : State) (i : Input) (x : InputState) :
    (s.putInput i x).engine = s.engine := rfl
@[simp] theorem State.putInput_plans (s : State) (i : Input) (x : InputState) :
    (s.putInput i x).plans = s.plans := rfl
@[simp] theorem State.putInput_stations (s : State) (i : Input) (x : InputState) :
    (s.putInput i x).stations = s.stations := rfl
@[simp] theorem State.putInput_axes (s : State) (i : Input) (x : InputState) :
    (s.putInput i x).axes = s.axes := rfl
@[simp] theorem State.putInput_setup (s : State) (i : Input) (x : InputState) :
    (s.putInput i x).setup = s.setup := rfl
@[simp] theorem State.putInput_link (s : State) (i : Input) (x : InputState) :
    (s.putInput i x).link = s.link := rfl
@[simp] theorem State.putInput_notices (s : State) (i : Input) (x : InputState) :
    (s.putInput i x).notices = s.notices := rfl

/-! ### clearLatches -/

@[simp] theorem State.clearLatches_pending (s : State) : (s.clearLatches).pending = s.pending := rfl
@[simp] theorem State.clearLatches_store (s : State) : (s.clearLatches).store = s.store := rfl
@[simp] theorem State.clearLatches_context (s : State) : (s.clearLatches).context = s.context := rfl
@[simp] theorem State.clearLatches_lift (s : State) : (s.clearLatches).lift = s.lift := rfl
@[simp] theorem State.clearLatches_level (s : State) : (s.clearLatches).level = s.level := rfl
@[simp] theorem State.clearLatches_probes (s : State) : (s.clearLatches).probes = s.probes := rfl
@[simp] theorem State.clearLatches_capture (s : State) : (s.clearLatches).capture = s.capture := rfl
@[simp] theorem State.clearLatches_engine (s : State) : (s.clearLatches).engine = s.engine := rfl
@[simp] theorem State.clearLatches_plans (s : State) : (s.clearLatches).plans = s.plans := rfl
@[simp] theorem State.clearLatches_stations (s : State) : (s.clearLatches).stations = s.stations := rfl
@[simp] theorem State.clearLatches_axes (s : State) : (s.clearLatches).axes = s.axes := rfl
@[simp] theorem State.clearLatches_setup (s : State) : (s.clearLatches).setup = s.setup := rfl
@[simp] theorem State.clearLatches_link (s : State) : (s.clearLatches).link = s.link := rfl
@[simp] theorem State.clearLatches_notices (s : State) : (s.clearLatches).notices = s.notices := rfl

/-! ### putProfile -/

@[simp] theorem State.putProfile_pending (s : State) (i : Ix) (p : Profile) :
    (s.putProfile i p).pending = s.pending := rfl
@[simp] theorem State.putProfile_store (s : State) (i : Ix) (p : Profile) :
    (s.putProfile i p).store = s.store := rfl
@[simp] theorem State.putProfile_context (s : State) (i : Ix) (p : Profile) :
    (s.putProfile i p).context = s.context := rfl
@[simp] theorem State.putProfile_lift (s : State) (i : Ix) (p : Profile) :
    (s.putProfile i p).lift = s.lift := rfl
@[simp] theorem State.putProfile_level (s : State) (i : Ix) (p : Profile) :
    (s.putProfile i p).level = s.level := rfl
@[simp] theorem State.putProfile_inputs (s : State) (i : Ix) (p : Profile) :
    (s.putProfile i p).inputs = s.inputs := rfl
@[simp] theorem State.putProfile_probes (s : State) (i : Ix) (p : Profile) :
    (s.putProfile i p).probes = s.probes := rfl
@[simp] theorem State.putProfile_capture (s : State) (i : Ix) (p : Profile) :
    (s.putProfile i p).capture = s.capture := rfl
@[simp] theorem State.putProfile_engine (s : State) (i : Ix) (p : Profile) :
    (s.putProfile i p).engine = s.engine := rfl
@[simp] theorem State.putProfile_plans (s : State) (i : Ix) (p : Profile) :
    (s.putProfile i p).plans = s.plans := rfl
@[simp] theorem State.putProfile_stations (s : State) (i : Ix) (p : Profile) :
    (s.putProfile i p).stations = s.stations := rfl
@[simp] theorem State.putProfile_axes (s : State) (i : Ix) (p : Profile) :
    (s.putProfile i p).axes = s.axes := rfl
@[simp] theorem State.putProfile_setup (s : State) (i : Ix) (p : Profile) :
    (s.putProfile i p).setup = { s.setup with profiles := s.setup.profiles.set i p } := rfl
@[simp] theorem State.putProfile_link (s : State) (i : Ix) (p : Profile) :
    (s.putProfile i p).link = s.link := rfl
@[simp] theorem State.putProfile_notices (s : State) (i : Ix) (p : Profile) :
    (s.putProfile i p).notices = s.notices := rfl

/-! ### writePair -/

@[simp] theorem State.writePair_pending (s : State) (st : Station) (a l : Nat) (x : Pair Sample) :
    (s.writePair st a l x).pending = s.pending := rfl
@[simp] theorem State.writePair_store (s : State) (st : Station) (a l : Nat) (x : Pair Sample) :
    (s.writePair st a l x).store = s.store := rfl
@[simp] theorem State.writePair_context (s : State) (st : Station) (a l : Nat) (x : Pair Sample) :
    (s.writePair st a l x).context = s.context := rfl
@[simp] theorem State.writePair_lift (s : State) (st : Station) (a l : Nat) (x : Pair Sample) :
    (s.writePair st a l x).lift = s.lift := rfl
@[simp] theorem State.writePair_level (s : State) (st : Station) (a l : Nat) (x : Pair Sample) :
    (s.writePair st a l x).level = s.level := rfl
@[simp] theorem State.writePair_inputs (s : State) (st : Station) (a l : Nat) (x : Pair Sample) :
    (s.writePair st a l x).inputs = s.inputs := rfl
@[simp] theorem State.writePair_probes (s : State) (st : Station) (a l : Nat) (x : Pair Sample) :
    (s.writePair st a l x).probes = s.probes := rfl
@[simp] theorem State.writePair_engine (s : State) (st : Station) (a l : Nat) (x : Pair Sample) :
    (s.writePair st a l x).engine = s.engine := rfl
@[simp] theorem State.writePair_plans (s : State) (st : Station) (a l : Nat) (x : Pair Sample) :
    (s.writePair st a l x).plans = s.plans := rfl
@[simp] theorem State.writePair_stations (s : State) (st : Station) (a l : Nat) (x : Pair Sample) :
    (s.writePair st a l x).stations = s.stations := rfl
@[simp] theorem State.writePair_axes (s : State) (st : Station) (a l : Nat) (x : Pair Sample) :
    (s.writePair st a l x).axes = s.axes := rfl
@[simp] theorem State.writePair_setup (s : State) (st : Station) (a l : Nat) (x : Pair Sample) :
    (s.writePair st a l x).setup = s.setup := rfl
@[simp] theorem State.writePair_link (s : State) (st : Station) (a l : Nat) (x : Pair Sample) :
    (s.writePair st a l x).link = s.link := rfl
@[simp] theorem State.writePair_notices (s : State) (st : Station) (a l : Nat) (x : Pair Sample) :
    (s.writePair st a l x).notices = s.notices := rfl

/-! ### mapAreas -/

@[simp] theorem State.mapAreas_pending (s : State) (st : Station) (f : Area → Area) :
    (s.mapAreas st f).pending = s.pending := rfl
@[simp] theorem State.mapAreas_store (s : State) (st : Station) (f : Area → Area) :
    (s.mapAreas st f).store = s.store := rfl
@[simp] theorem State.mapAreas_context (s : State) (st : Station) (f : Area → Area) :
    (s.mapAreas st f).context = s.context := rfl
@[simp] theorem State.mapAreas_lift (s : State) (st : Station) (f : Area → Area) :
    (s.mapAreas st f).lift = s.lift := rfl
@[simp] theorem State.mapAreas_level (s : State) (st : Station) (f : Area → Area) :
    (s.mapAreas st f).level = s.level := rfl
@[simp] theorem State.mapAreas_inputs (s : State) (st : Station) (f : Area → Area) :
    (s.mapAreas st f).inputs = s.inputs := rfl
@[simp] theorem State.mapAreas_probes (s : State) (st : Station) (f : Area → Area) :
    (s.mapAreas st f).probes = s.probes := rfl
@[simp] theorem State.mapAreas_engine (s : State) (st : Station) (f : Area → Area) :
    (s.mapAreas st f).engine = s.engine := rfl
@[simp] theorem State.mapAreas_plans (s : State) (st : Station) (f : Area → Area) :
    (s.mapAreas st f).plans = s.plans := rfl
@[simp] theorem State.mapAreas_stations (s : State) (st : Station) (f : Area → Area) :
    (s.mapAreas st f).stations = s.stations := rfl
@[simp] theorem State.mapAreas_axes (s : State) (st : Station) (f : Area → Area) :
    (s.mapAreas st f).axes = s.axes := rfl
@[simp] theorem State.mapAreas_setup (s : State) (st : Station) (f : Area → Area) :
    (s.mapAreas st f).setup = s.setup := rfl
@[simp] theorem State.mapAreas_link (s : State) (st : Station) (f : Area → Area) :
    (s.mapAreas st f).link = s.link := rfl
@[simp] theorem State.mapAreas_notices (s : State) (st : Station) (f : Area → Area) :
    (s.mapAreas st f).notices = s.notices := rfl

/-! ### putPlan -/

@[simp] theorem State.putPlan_pending (s : State) (st : Station) (p : Option Plan) :
    (s.putPlan st p).pending = s.pending := rfl
@[simp] theorem State.putPlan_store (s : State) (st : Station) (p : Option Plan) :
    (s.putPlan st p).store = s.store := rfl
@[simp] theorem State.putPlan_context (s : State) (st : Station) (p : Option Plan) :
    (s.putPlan st p).context = s.context := rfl
@[simp] theorem State.putPlan_lift (s : State) (st : Station) (p : Option Plan) :
    (s.putPlan st p).lift = s.lift := rfl
@[simp] theorem State.putPlan_level (s : State) (st : Station) (p : Option Plan) :
    (s.putPlan st p).level = s.level := rfl
@[simp] theorem State.putPlan_inputs (s : State) (st : Station) (p : Option Plan) :
    (s.putPlan st p).inputs = s.inputs := rfl
@[simp] theorem State.putPlan_probes (s : State) (st : Station) (p : Option Plan) :
    (s.putPlan st p).probes = s.probes := rfl
@[simp] theorem State.putPlan_capture (s : State) (st : Station) (p : Option Plan) :
    (s.putPlan st p).capture = s.capture := rfl
@[simp] theorem State.putPlan_engine (s : State) (st : Station) (p : Option Plan) :
    (s.putPlan st p).engine = s.engine := rfl
@[simp] theorem State.putPlan_plans (s : State) (st : Station) (p : Option Plan) :
    (s.putPlan st p).plans = s.plans.set st p := rfl
@[simp] theorem State.putPlan_stations (s : State) (st : Station) (p : Option Plan) :
    (s.putPlan st p).stations = s.stations := rfl
@[simp] theorem State.putPlan_axes (s : State) (st : Station) (p : Option Plan) :
    (s.putPlan st p).axes = s.axes := rfl
@[simp] theorem State.putPlan_setup (s : State) (st : Station) (p : Option Plan) :
    (s.putPlan st p).setup = s.setup := rfl
@[simp] theorem State.putPlan_link (s : State) (st : Station) (p : Option Plan) :
    (s.putPlan st p).link = s.link := rfl

/-! ### withCommand -/

@[simp] theorem State.withCommand_pending (s : State) (c : Instr) :
    (s.withCommand c).pending = c :: s.pending := rfl
@[simp] theorem State.withCommand_store (s : State) (c : Instr) : (s.withCommand c).store = s.store := rfl
@[simp] theorem State.withCommand_context (s : State) (c : Instr) :
    (s.withCommand c).context = s.context := rfl
@[simp] theorem State.withCommand_lift (s : State) (c : Instr) : (s.withCommand c).lift = s.lift := rfl
@[simp] theorem State.withCommand_level (s : State) (c : Instr) : (s.withCommand c).level = s.level := rfl
@[simp] theorem State.withCommand_inputs (s : State) (c : Instr) : (s.withCommand c).inputs = s.inputs := rfl
@[simp] theorem State.withCommand_probes (s : State) (c : Instr) : (s.withCommand c).probes = s.probes := rfl
@[simp] theorem State.withCommand_capture (s : State) (c : Instr) :
    (s.withCommand c).capture = s.capture := rfl
@[simp] theorem State.withCommand_engine (s : State) (c : Instr) : (s.withCommand c).engine = s.engine := rfl
@[simp] theorem State.withCommand_plans (s : State) (c : Instr) : (s.withCommand c).plans = s.plans := rfl
@[simp] theorem State.withCommand_stations (s : State) (c : Instr) :
    (s.withCommand c).stations = s.stations := rfl
@[simp] theorem State.withCommand_axes (s : State) (c : Instr) : (s.withCommand c).axes = s.axes := rfl
@[simp] theorem State.withCommand_setup (s : State) (c : Instr) : (s.withCommand c).setup = s.setup := rfl
@[simp] theorem State.withCommand_link (s : State) (c : Instr) : (s.withCommand c).link = s.link := rfl
@[simp] theorem State.withCommand_notices (s : State) (c : Instr) :
    (s.withCommand c).notices = s.notices := rfl

/-! ### putLift -/

@[simp] theorem State.putLift_pending (s : State) (l : Lift) (v : Level) :
    (s.putLift l v).pending = s.pending := by unfold State.putLift; split <;> rfl
@[simp] theorem State.putLift_store (s : State) (l : Lift) (v : Level) :
    (s.putLift l v).store = s.store := by unfold State.putLift; split <;> rfl
@[simp] theorem State.putLift_context (s : State) (l : Lift) (v : Level) :
    (s.putLift l v).context = s.context := by unfold State.putLift; split <;> rfl
@[simp] theorem State.putLift_lift (s : State) (l : Lift) (v : Level) :
    (s.putLift l v).lift = l.revalve v.relevel := by unfold State.putLift; split <;> rfl
@[simp] theorem State.putLift_level (s : State) (l : Lift) (v : Level) :
    (s.putLift l v).level = v := by unfold State.putLift; split <;> rfl
@[simp] theorem State.putLift_inputs (s : State) (l : Lift) (v : Level) :
    (s.putLift l v).inputs = s.inputs := by unfold State.putLift; split <;> rfl
@[simp] theorem State.putLift_probes (s : State) (l : Lift) (v : Level) :
    (s.putLift l v).probes = s.probes := by unfold State.putLift; split <;> rfl
@[simp] theorem State.putLift_capture (s : State) (l : Lift) (v : Level) :
    (s.putLift l v).capture = s.capture := by unfold State.putLift; split <;> rfl
@[simp] theorem State.putLift_engine (s : State) (l : Lift) (v : Level) :
    (s.putLift l v).engine = s.engine := by unfold State.putLift; split <;> rfl
@[simp] theorem State.putLift_plans (s : State) (l : Lift) (v : Level) :
    (s.putLift l v).plans = s.plans := by unfold State.putLift; split <;> rfl
@[simp] theorem State.putLift_stations (s : State) (l : Lift) (v : Level) :
    (s.putLift l v).stations = s.stations := by unfold State.putLift; split <;> rfl
@[simp] theorem State.putLift_axes (s : State) (l : Lift) (v : Level) :
    (s.putLift l v).axes = s.axes := by unfold State.putLift; split <;> rfl
@[simp] theorem State.putLift_setup (s : State) (l : Lift) (v : Level) :
    (s.putLift l v).setup = s.setup := by unfold State.putLift; split <;> rfl
@[simp] theorem State.putLift_link (s : State) (l : Lift) (v : Level) :
    (s.putLift l v).link = s.link := by unfold State.putLift; split <;> rfl

/-! ### putCut -/

@[simp] theorem State.putCut_pending (s : State) (st : Station) (c : CutStation) :
    (s.putCut st c).pending = s.pending := by unfold State.putCut; split <;> rfl
@[simp] theorem State.putCut_store (s : State) (st : Station) (c : CutStation) :
    (s.putCut st c).store = s.store := by unfold State.putCut; split <;> rfl
@[simp] theorem State.putCut_context (s : State) (st : Station) (c : CutStation) :
    (s.putCut st c).context = s.context := by unfold State.putCut; split <;> rfl
@[simp] theorem State.putCut_lift (s : State) (st : Station) (c : CutStation) :
    (s.putCut st c).lift = s.lift := by unfold State.putCut; split <;> rfl
@[simp] theorem State.putCut_level (s : State) (st : Station) (c : CutStation) :
    (s.putCut st c).level = s.level := by unfold State.putCut; split <;> rfl
@[simp] theorem State.putCut_inputs (s : State) (st : Station) (c : CutStation) :
    (s.putCut st c).inputs = s.inputs := by unfold State.putCut; split <;> rfl
@[simp] theorem State.putCut_probes (s : State) (st : Station) (c : CutStation) :
    (s.putCut st c).probes = s.probes := by unfold State.putCut; split <;> rfl
@[simp] theorem State.putCut_capture (s : State) (st : Station) (c : CutStation) :
    (s.putCut st c).capture = s.capture := by unfold State.putCut; split <;> rfl
@[simp] theorem State.putCut_engine (s : State) (st : Station) (c : CutStation) :
    (s.putCut st c).engine = s.engine := by unfold State.putCut; split <;> rfl
@[simp] theorem State.putCut_plans (s : State) (st : Station) (c : CutStation) :
    (s.putCut st c).plans = s.plans := by unfold State.putCut; split <;> rfl
@[simp] theorem State.putCut_stations (s : State) (st : Station) (c : CutStation) :
    (s.putCut st c).stations = s.stations.set st c := by unfold State.putCut; split <;> rfl
@[simp] theorem State.putCut_axes (s : State) (st : Station) (c : CutStation) :
    (s.putCut st c).axes = s.axes := by unfold State.putCut; split <;> rfl
@[simp] theorem State.putCut_setup (s : State) (st : Station) (c : CutStation) :
    (s.putCut st c).setup = s.setup := by unfold State.putCut; split <;> rfl
@[simp] theorem State.putCut_link (s : State) (st : Station) (c : CutStation) :
    (s.putCut st c).link = s.link := by unfold State.putCut; split <;> rfl

/-! ### putProbe -/

@[simp] theorem State.putProbe_pending (s : State) (st : Station) (p : Probe) :
    (s.putProbe st p).pending = s.pending := by unfold State.putProbe; split <;> rfl
@[simp] theorem State.putProbe_store (s : State) (st : Station) (p : Probe) :
    (s.putProbe st p).store = s.store := by unfold State.putProbe; split <;> rfl
@[simp] theorem State.putProbe_context (s : State) (st : Station) (p : Probe) :
    (s.putProbe st p).context = s.context := by unfold State.putProbe; split <;> rfl
@[simp] theorem State.putProbe_lift (s : State) (st : Station) (p : Probe) :
    (s.putProbe st p).lift = s.lift := by unfold State.putProbe; split <;> rfl
@[simp] theorem State.putProbe_level (s : State) (st : Station) (p : Probe) :
    (s.putProbe st p).level = s.level := by unfold State.putProbe; split <;> rfl
@[simp] theorem State.putProbe_inputs (s : State) (st : Station) (p : Probe) :
    (s.putProbe st p).inputs = s.inputs := by unfold State.putProbe; split <;> rfl
@[simp] theorem State.putProbe_probes (s : State) (st : Station) (p : Probe) :
    (s.putProbe st p).probes = s.probes.set st p := by unfold State.putProbe; split <;> rfl
@[simp] theorem State.putProbe_capture (s : State) (st : Station) (p : Probe) :
    (s.putProbe st p).capture = s.capture := by unfold State.putProbe; split <;> rfl
@[simp] theorem State.putProbe_engine (s : State) (st : Station) (p : Probe) :
    (s.putProbe st p).engine = s.engine := by unfold State.putProbe; split <;> rfl
@[simp] theorem State.putProbe_plans (s : State) (st : Station) (p : Probe) :
    (s.putProbe st p).plans = s.plans := by unfold State.putProbe; split <;> rfl
@[simp] theorem State.putProbe_stations (s : State) (st : Station) (p : Probe) :
    (s.putProbe st p).stations = s.stations := by unfold State.putProbe; split <;> rfl
@[simp] theorem State.putProbe_axes (s : State) (st : Station) (p : Probe) :
    (s.putProbe st p).axes = s.axes := by unfold State.putProbe; split <;> rfl
@[simp] theorem State.putProbe_setup (s : State) (st : Station) (p : Probe) :
    (s.putProbe st p).setup = s.setup := by unfold State.putProbe; split <;> rfl
@[simp] theorem State.putProbe_link (s : State) (st : Station) (p : Probe) :
    (s.putProbe st p).link = s.link := by unfold State.putProbe; split <;> rfl

/-! ### spoilWindow -/

@[simp] theorem State.spoilWindow_pending (s : State) (n : Nat) :
    (s.spoilWindow n).pending = s.pending := by unfold State.spoilWindow; split <;> rfl
@[simp] theorem State.spoilWindow_context (s : State) (n : Nat) :
    (s.spoilWindow n).context = s.context := by unfold State.spoilWindow; split <;> rfl
@[simp] theorem State.spoilWindow_lift (s : State) (n : Nat) :
    (s.spoilWindow n).lift = s.lift := by unfold State.spoilWindow; split <;> rfl
@[simp] theorem State.spoilWindow_level (s : State) (n : Nat) :
    (s.spoilWindow n).level = s.level := by unfold State.spoilWindow; split <;> rfl
@[simp] theorem State.spoilWindow_inputs (s : State) (n : Nat) :
    (s.spoilWindow n).inputs = s.inputs := by unfold State.spoilWindow; split <;> rfl
@[simp] theorem State.spoilWindow_probes (s : State) (n : Nat) :
    (s.spoilWindow n).probes = s.probes := by unfold State.spoilWindow; split <;> rfl
@[simp] theorem State.spoilWindow_capture (s : State) (n : Nat) :
    (s.spoilWindow n).capture = s.capture := by unfold State.spoilWindow; split <;> rfl
@[simp] theorem State.spoilWindow_engine (s : State) (n : Nat) :
    (s.spoilWindow n).engine = s.engine := by unfold State.spoilWindow; split <;> rfl
@[simp] theorem State.spoilWindow_plans (s : State) (n : Nat) :
    (s.spoilWindow n).plans = s.plans := by unfold State.spoilWindow; split <;> rfl
@[simp] theorem State.spoilWindow_stations (s : State) (n : Nat) :
    (s.spoilWindow n).stations = s.stations := by unfold State.spoilWindow; split <;> rfl
@[simp] theorem State.spoilWindow_axes (s : State) (n : Nat) :
    (s.spoilWindow n).axes = s.axes := by unfold State.spoilWindow; split <;> rfl
@[simp] theorem State.spoilWindow_setup (s : State) (n : Nat) :
    (s.spoilWindow n).setup = s.setup := by unfold State.spoilWindow; split <;> rfl
@[simp] theorem State.spoilWindow_link (s : State) (n : Nat) :
    (s.spoilWindow n).link = s.link := by unfold State.spoilWindow; split <;> rfl
@[simp] theorem State.spoilWindow_notices (s : State) (n : Nat) :
    (s.spoilWindow n).notices = s.notices := by unfold State.spoilWindow; split <;> rfl

/-! ### One item of a pair, four or twelve -/

@[simp] theorem Two.get_set_same {α : Type} (t : Two α) (st : Station) (v : α) : (t.set st v).get st = v := by
  cases st <;> rfl

theorem Two.get_set_other {α : Type} (t : Two α) {st st' : Station} (v : α) (h : st' ≠ st) :
    (t.set st v).get st' = t.get st' := by
  cases st <;> cases st' <;> first | rfl | exact absurd rfl h

@[simp] theorem Four.get_set_same {α : Type} (t : Four α) (i : Ix) (v : α) : (t.set i v).get i = v := by
  cases i <;> rfl

theorem Four.get_set_other {α : Type} (t : Four α) {i j : Ix} (v : α) (h : j ≠ i) :
    (t.set i v).get j = t.get j := by
  cases i <;> cases j <;> first | rfl | exact absurd rfl h

@[simp] theorem Four.get_mapIx {α β : Type} (g : Ix → α → β) (t : Four α) (i : Ix) :
    (Four.mapIx g t).get i = g i (t.get i) := by
  cases i <;> rfl

@[simp] theorem Four.get_map {α β : Type} (g : α → β) (t : Four α) (i : Ix) : (t.map g).get i = g (t.get i) := by
  cases i <;> rfl

@[simp] theorem Twelve.get_set_same {α : Type} (t : Twelve α) (i : Input) (v : α) : (t.set i v).get i = v := by
  cases i <;> rfl

theorem Twelve.get_set_other {α : Type} (t : Twelve α) {i j : Input} (v : α) (h : j ≠ i) :
    (t.set i v).get j = t.get j := by
  cases i <;> cases j <;> first | rfl | exact absurd rfl h

@[simp] theorem Twelve.get_map {α β : Type} (g : α → β) (t : Twelve α) (i : Input) :
    (t.map g).get i = g (t.get i) := by
  cases i <;> rfl

theorem Notices.get_set_same (n : Notices) (src : Source) (v : SourceState) : (n.set src v).get src = v := by
  cases src <;> rfl

theorem Notices.get_set_other (n : Notices) {src src' : Source} (v : SourceState) (h : src' ≠ src) :
    (n.set src v).get src' = n.get src' := by
  cases src <;> cases src' <;> first | rfl | exact absurd rfl h

end Sys2Proof.Machine
end

