-- ==== Sys2Proof/Laws/Cells.lean ====
section
/-! SUPPORT. The laws of addressed cells: a read after a write, what a write and a clearing leave alone, and that
every operation on cells keeps the canonical form. -/

namespace Sys2Proof.Machine

variable {α : Type} [DecidableEq α] {d : α}

omit [DecidableEq α] in
/-- A sorted list read below its first address reads as unlisted. -/
theorem Cells.read_of_lt (c : Cells α) (a : Nat) (h : ∀ x ∈ c, a < x.1) : Cells.read d c a = d := by
  induction c with
  | nil => rfl
  | cons x rest ih =>
    obtain ⟨k, v⟩ := x
    have hk : a < k := h (k, v) (by simp)
    rw [Cells.read, if_neg (by omega)]
    exact ih fun y hy => h y (by simp [hy])

/-- A read after a write, in the canonical form: the value written at the address written, and what stood there
before everywhere else. -/
theorem Cells.read_write (c : Cells α) (a b : Nat) (v : α) (h : Cells.wf d c) :
    Cells.read d (Cells.write d a v c) b = if b = a then v else Cells.read d c b := by
  induction c with
  | nil =>
    simp only [Cells.write]
    split
    · next hv => split <;> simp_all [Cells.read]
    · simp [Cells.read]
  | cons x rest ih =>
    obtain ⟨k, w⟩ := x
    have hs := List.pairwise_cons.1 h.1
    have hrest : Cells.wf d rest := ⟨hs.2, fun y hy => h.2 y (by simp [hy])⟩
    simp only [Cells.write]
    split
    · next hak =>
      split
      · next hv =>
        subst hv
        by_cases hb : b = a
        · subst hb
          rw [if_pos rfl]
          refine Cells.read_of_lt _ _ fun y hy => ?_
          rcases List.mem_cons.1 hy with rfl | hy
          · exact hak
          · exact lt_trans hak (hs.1 y hy)
        · rw [if_neg hb]
      · rw [Cells.read]
    · next hak =>
      split
      · next hk =>
        subst hk
        split
        · next hv =>
          subst hv
          by_cases hb : b = a
          · subst hb
            rw [if_pos rfl]
            exact Cells.read_of_lt _ _ fun y hy => hs.1 y hy
          · rw [if_neg hb, Cells.read, if_neg hb]
        · rw [Cells.read, Cells.read]
          split <;> rfl
      · next hk =>
        rw [Cells.read, Cells.read, ih hrest]
        by_cases hb : b = k
        · subst hb
          rw [if_pos rfl, if_neg (Ne.symm hk), if_pos rfl]
        · rw [if_neg hb, if_neg hb]

/-- The addresses a write lists are those listed before and the one written. -/
theorem Cells.mem_write (c : Cells α) (a : Nat) (v : α) (x : Nat × α) (h : x ∈ Cells.write d a v c) :
    x = (a, v) ∨ x ∈ c := by
  induction c with
  | nil =>
    simp only [Cells.write] at h
    split at h <;> simp_all
  | cons y rest ih =>
    obtain ⟨k, w⟩ := y
    simp only [Cells.write] at h
    split at h
    · split at h <;> simp_all
    · split at h
      · split at h
        · simp_all
        · rcases List.mem_cons.1 h with h | h <;> simp_all
      · rcases List.mem_cons.1 h with h | h
        · simp_all
        · rcases ih h with h | h <;> simp_all

/-- A write lists nothing below an address that every listed cell and the cell written are above. -/
theorem Cells.lt_write (c : Cells α) (a b : Nat) (v : α) (hab : b < a) (h : ∀ x ∈ c, b < x.1) :
    ∀ x ∈ Cells.write d a v c, b < x.1 := fun x hx => by
  rcases Cells.mem_write c a v x hx with rfl | hx
  · exact hab
  · exact h x hx

/-- A write keeps the canonical form. -/
theorem Cells.wf_write (c : Cells α) (a : Nat) (v : α) (h : Cells.wf d c) : Cells.wf d (Cells.write d a v c) := by
  induction c with
  | nil =>
    simp only [Cells.write]
    split <;> simp_all [Cells.wf]
  | cons x rest ih =>
    obtain ⟨k, w⟩ := x
    have hs := List.pairwise_cons.1 h.1
    have hrest : Cells.wf d rest := ⟨hs.2, fun y hy => h.2 y (by simp [hy])⟩
    have hw : w ≠ d := h.2 (k, w) (by simp)
    simp only [Cells.write]
    split
    · next hak =>
      split
      · exact h
      · next hv =>
        refine ⟨List.pairwise_cons.2 ⟨fun y hy => ?_, h.1⟩, fun y hy => ?_⟩
        · rcases List.mem_cons.1 hy with rfl | hy
          · exact hak
          · exact lt_trans hak (hs.1 y hy)
        · rcases List.mem_cons.1 hy with rfl | hy
          · exact hv
          · exact h.2 y hy
    · next hak =>
      split
      · next hk =>
        split
        · exact hrest
        · next hv =>
          refine ⟨List.pairwise_cons.2 ⟨fun y hy => ?_, hs.2⟩, fun y hy => ?_⟩
          · exact hk ▸ hs.1 y hy
          · rcases List.mem_cons.1 hy with rfl | hy
            · exact hv
            · exact hrest.2 y hy
      · next hk =>
        have hr := ih hrest
        refine ⟨List.pairwise_cons.2 ⟨?_, hr.1⟩, fun y hy => ?_⟩
        · exact Cells.lt_write rest a k v (by omega) fun y hy => hs.1 y hy
        · rcases List.mem_cons.1 hy with rfl | hy
          · exact hw
          · exact hr.2 y hy

/-- A clearing keeps the canonical form. -/
theorem Cells.wf_clear (p : Nat → Bool) (c : Cells α) (h : Cells.wf d c) : Cells.wf d (Cells.clear p c) :=
  ⟨h.1.filter _, fun x hx => h.2 x (List.mem_filter.1 hx).1⟩

/-- A read after a clearing: what an unlisted cell reads as where the cells are cleared, and what stood there
before elsewhere. -/
theorem Cells.read_clear (p : Nat → Bool) (c : Cells α) (a : Nat) (h : Cells.wf d c) :
    Cells.read d (Cells.clear p c) a = if p a then d else Cells.read d c a := by
  induction c with
  | nil => simp [Cells.clear, Cells.read]
  | cons x rest ih =>
    obtain ⟨k, w⟩ := x
    have hs := List.pairwise_cons.1 h.1
    have hrest : Cells.wf d rest := ⟨hs.2, fun y hy => h.2 y (by simp [hy])⟩
    have ih' := ih hrest
    unfold Cells.clear at ih' ⊢
    rw [List.filter_cons]
    by_cases hk : p k = true
    · simp only [hk, Bool.not_true, Bool.false_eq_true, if_false, ih', Cells.read]
      by_cases hak : a = k
      · subst hak
        simp [hk]
      · simp [hak]
    · simp only [Bool.not_eq_true] at hk
      simp only [hk, Bool.not_false, if_true, Cells.read, ih']
      by_cases hak : a = k
      · subst hak
        simp [hk]
      · simp [hak]

/-- No cell listed is the canonical form of a memory in which every address reads as unlisted. -/
theorem Cells.wf_nil : Cells.wf d ([] : Cells α) := by simp [Cells.wf]

/-- Items made of the listed cells one by one, or left out, keep the canonical form when each keeps its address
and none is what an unlisted cell reads as. -/
theorem Cells.wf_filterMap {β : Type} [DecidableEq β] {e : β} (f : Nat × α → Option (Nat × β)) (c : Cells α)
    (h : Cells.wf d c) (hf : ∀ x ∈ c, ∀ y, f x = some y → y.1 = x.1 ∧ y.2 ≠ e) :
    Cells.wf e (c.filterMap f) := by
  refine ⟨?_, fun y hy => ?_⟩
  · rw [List.pairwise_filterMap]
    refine h.1.imp_of_mem fun {a b} ha hb hab => ?_
    intro y hy z hz
    rw [(hf a ha y hy).1, (hf b hb z hz).1]
    exact hab
  · obtain ⟨x, hx, hxy⟩ := List.mem_filterMap.1 hy
    exact (hf x hx y hxy).2

/-! ## Record places (R4) -/

@[simp] theorem Place.write_header (r : Record) (p : Place) : (p.write r).header = p.header := rfl
@[simp] theorem Place.write_content (r : Record) (p : Place) : (p.write r).content = r := rfl
@[simp] theorem Place.tear_header (p : Place) : p.tear.header = p.header := rfl
@[simp] theorem Place.body_header (p : Place) (h : Option Nat) : Place.body { p with header := h } = p.body := rfl

/-- A body written whole passes its check and reads as the record written. -/
@[simp] theorem Place.body_write (r : Record) (p : Place) : (p.write r).body = some r := by
  simp [Place.body, Place.write]

/-- A value that has the check of its record reads back. -/
@[simp] theorem Place.body_mk (h : Option Nat) (r : Record) :
    Place.body { header := h, content := r, check := crc16 r.bodyBytes } = some r := by simp [Place.body]

/-- A body write begun and not finished fails its check. -/
@[simp] theorem Place.body_tear (p : Place) : p.tear.body = none := by
  have h : crc16 p.content.bodyBytes ≠ ~~~ crc16 p.content.bodyBytes := fun e => by
    have := congrArg (fun x : BitVec 16 => x.getLsbD 0) e
    simp at this
  simp [Place.body, Place.tear, h]

/-- A place that nothing has written fails its check. -/
@[simp] theorem Place.body_blank : Place.blank.body = none := by decide +kernel

/-- What reading a body can give: the record held, with the check value that is its own. -/
theorem Place.body_eq_some {p : Place} {r : Record} :
    p.body = some r ↔ p.content = r ∧ p.check = crc16 r.bodyBytes := by
  unfold Place.body
  split
  · next h =>
    constructor
    · rintro ⟨⟩
      exact ⟨rfl, h.symm⟩
    · rintro ⟨rfl, -⟩
      rfl
  · next h => simp only [reduceCtorEq, false_iff, not_and]; rintro rfl e; exact h e.symm

end Sys2Proof.Machine
end

