-- ==== Sys2Proof/Laws/Frames.lean ====
section
/-! SUPPORT. What each shared operation can change: for every operation of Machine/Ops.lean and
Machine/PitOps.lean the blocks outside which it leaves everything as it was, so that a proof about one block
passes over the operations of the others. -/

namespace Sys2Proof.Machine

/-! ## Only -/

theorem Only.refl (l : List Block) (s : State) : Only l s s := ⟨rfl, fun b _ => by cases b <;> rfl⟩

theorem Block.same_trans {b : Block} {s t u : State} (h : b.same s t) (k : b.same t u) : b.same s u := by
  cases b <;> exact Eq.trans k h

theorem Only.trans {l : List Block} {s t u : State} (h : Only l s t) (k : Only l t u) : Only l s u :=
  ⟨k.1.trans h.1, fun b hb => Block.same_trans (h.2 b hb) (k.2 b hb)⟩

theorem Only.mono {l m : List Block} {s t : State} (h : Only l s t) (hm : l ⊆ m) : Only m s t :=
  ⟨h.1, fun b hb => h.2 b fun hl => hb (hm hl)⟩

/-- Two changes one after the other, each within its own blocks. -/
theorem Only.step {l m k : List Block} {s t u : State} (h : Only l s t) (g :
    Only m t u) (hl : l ⊆ k) (hm : m ⊆ k) :
    Only k s u := (h.mono hl).trans (g.mono hm)

theorem Only.ite {l : List Block} {s t u : State} {p : Prop} [Decidable p] (h : Only l s t) (k : Only l s u) :
    Only l s (if p then t else u) := by
  split
  · exact h
  · exact k

/-! ## Updates of one block -/

theorem State.notify_only (s : State) (src : Source) : Only [.notices] s (s.notify src) :=
  ⟨rfl, fun b hb => by cases b <;> first | rfl | exact absurd (by decide) hb⟩

theorem State.setSlot_only (s : State) (i : Ix) (sl : Slot) : Only [.context] s (s.setSlot i sl) :=
  ⟨rfl, fun b hb => by cases b <;> first | rfl | exact absurd (by decide) hb⟩

theorem State.touchSlot_only (s : State) (i : Ix) : Only [.context] s (s.touchSlot i) :=
  ⟨rfl, fun b hb => by cases b <;> first | rfl | exact absurd (by decide) hb⟩

theorem State.freeSlot_only (s : State) (i : Ix) : Only [.context] s (s.freeSlot i) :=
  ⟨rfl, fun b hb => by cases b <;> first | rfl | exact absurd (by decide) hb⟩

theorem State.addContextResult_only (s : State) (i : Ix) (n : Nat) (o : ContextOutcome) :
    Only [.context, .notices] s (s.addContextResult i n o) :=
  ⟨rfl, fun b hb => by cases b <;> first | rfl | exact absurd (by decide) hb⟩

theorem State.mapStore_only (s : State) (f : Store → Store) : Only [.store] s (s.mapStore f) :=
  ⟨rfl, fun b hb => by cases b <;> first | rfl | exact absurd (by decide) hb⟩

theorem State.addStoreResult_only (s : State) (r : StoreResult) :
    Only [.store, .notices] s (s.addStoreResult r) :=
  ⟨rfl, fun b hb => by cases b <;> first | rfl | exact absurd (by decide) hb⟩

theorem State.putSweep_only (s : State) (st : Station) (w : Sweep) : Only [.capture] s (s.putSweep st w) :=
  ⟨rfl, fun b hb => by cases b <;> first | rfl | exact absurd (by decide) hb⟩

theorem State.putRequest_only (s : State) (st : Station) (r : SampleRequest) :
    Only [.capture] s (s.putRequest st r) :=
  ⟨rfl, fun b hb => by cases b <;> first | rfl | exact absurd (by decide) hb⟩

theorem State.mapAreas_only (s : State) (st : Station) (f : Area → Area) :
    Only [.capture] s (s.mapAreas st f) :=
  ⟨rfl, fun b hb => by cases b <;> first | rfl | exact absurd (by decide) hb⟩

theorem State.driveRoller_only (s : State) (st : Station) (d : RollerDemand) :
    Only [.axes] s (s.driveRoller st d) :=
  ⟨rfl, fun b hb => by cases b <;> first | rfl | exact absurd (by decide) hb⟩

theorem State.driveProbe_only (s : State) (st : Station) (d : ProbeDemand) :
    Only [.axes] s (s.driveProbe st d) :=
  ⟨rfl, fun b hb => by cases b <;> first | rfl | exact absurd (by decide) hb⟩

theorem State.driveTool_only (s : State) (st : Station) (d : ToolDemand) : Only [.axes] s (s.driveTool st d) :=
  ⟨rfl, fun b hb => by cases b <;> first | rfl | exact absurd (by decide) hb⟩

theorem State.sendHome_only (s : State) (st : Station) : Only [.axes] s (s.sendHome st) :=
  ⟨rfl, fun b hb => by cases b <;> first | rfl | exact absurd (by decide) hb⟩

theorem State.staleMeasurements_only (s : State) : Only [.context] s (s.staleMeasurements) :=
  ⟨rfl, fun b hb => by cases b <;> first | rfl | exact absurd (by decide) hb⟩

theorem State.markDeparted_only (s : State) : Only [.engine] s (s.markDeparted) :=
  ⟨rfl, fun b hb => by cases b <;> first | rfl | exact absurd (by decide) hb⟩

theorem State.putPlan_only (s : State) (st : Station) (p : Option Plan) :
    Only [.plans, .notices] s (s.putPlan st p) :=
  ⟨rfl, fun b hb => by cases b <;> first | rfl | exact absurd (by decide) hb⟩

theorem State.stopSweepAxes_only (s : State) (st : Station) : Only [.capture, .axes] s (s.stopSweepAxes st) :=
  ⟨rfl, fun b hb => by cases b <;> first | rfl | exact absurd (by decide) hb⟩

theorem State.beginIndexing_only (s : State) (st : Station) (w : Sweep) :
    Only [.capture, .axes] s (s.beginIndexing st w) :=
  ⟨rfl, fun b hb => by cases b <;> first | rfl | exact absurd (by decide) hb⟩

theorem State.makeBinding_only (s : State) (i : Ix) (st : Station) :
    Only [.context, .capture, .engine, .notices] s (s.makeBinding i st) :=
  ⟨rfl, fun b hb => by cases b <;> first | rfl | exact absurd (by decide) hb⟩

theorem State.putReply_only (s : State) (r : Reply) : Only [.link] s (s.putReply r) :=
  ⟨rfl, fun b hb => by cases b <;> first | rfl | exact absurd (by decide) hb⟩

theorem State.acceptFrame_only (s : State) (f : Frame) : Only [.link] s (s.acceptFrame f) :=
  ⟨rfl, fun b hb => by cases b <;> first | rfl | exact absurd (by decide) hb⟩

theorem State.breakLoad_only (s : State) (k : Option Ix) : Only [.setup] s (s.breakLoad k) :=
  ⟨rfl, fun b hb => by cases b <;> first | rfl | exact absurd (by decide) hb⟩

theorem State.clearLatches_only (s : State) : Only [.inputs] s (s.clearLatches) :=
  ⟨rfl, fun b hb => by cases b <;> first | rfl | exact absurd (by decide) hb⟩

theorem State.putInput_only (s : State) (i : Input) (x : InputState) : Only [.inputs] s (s.putInput i x) :=
  ⟨rfl, fun b hb => by cases b <;> first | rfl | exact absurd (by decide) hb⟩

/-! ## Updates that depend on the state -/

theorem State.putLift_only (s : State) (l : Lift) (v : Level) :
    Only [.lift, .level, .notices] s (s.putLift l v) := by
  unfold State.putLift
  constructor
  · repeat' split
    all_goals rfl
  · intro b hb
    repeat' split
    all_goals cases b <;> first | rfl | exact absurd (by decide) hb

theorem State.putCut_only (s : State) (st : Station) (c : CutStation) :
    Only [.stations, .notices] s (s.putCut st c) := by
  unfold State.putCut
  constructor
  · repeat' split
    all_goals rfl
  · intro b hb
    repeat' split
    all_goals cases b <;> first | rfl | exact absurd (by decide) hb

theorem State.putProbe_only (s : State) (st : Station) (p : Probe) :
    Only [.probes, .notices] s (s.putProbe st p) := by
  unfold State.putProbe
  constructor
  · repeat' split
    all_goals rfl
  · intro b hb
    repeat' split
    all_goals cases b <;> first | rfl | exact absurd (by decide) hb

theorem State.removePlan_only (s : State) (st : Station) : Only [.plans, .notices] s (s.removePlan st) := by
  unfold State.removePlan
  constructor
  · repeat' split
    all_goals rfl
  · intro b hb
    repeat' split
    all_goals cases b <;> first | rfl | exact absurd (by decide) hb

theorem State.removeIdlePlan_only (s : State) (st : Station) :
    Only [.plans, .notices] s (s.removeIdlePlan st) := by
  unfold State.removeIdlePlan
  constructor
  · repeat' split
    all_goals rfl
  · intro b hb
    repeat' split
    all_goals cases b <;> first | rfl | exact absurd (by decide) hb

theorem State.touchStation_only (s : State) (st : Station) : Only [.context] s (s.touchStation st) := by
  unfold State.touchStation
  constructor
  · repeat' split
    all_goals rfl
  · intro b hb
    repeat' split
    all_goals cases b <;> first | rfl | exact absurd (by decide) hb

theorem State.spoilWindow_only (s : State) (n : Nat) : Only [.store] s (s.spoilWindow n) := by
  unfold State.spoilWindow
  constructor
  · repeat' split
    all_goals rfl
  · intro b hb
    repeat' split
    all_goals cases b <;> first | rfl | exact absurd (by decide) hb

theorem State.serve_only (s : State) : Only [.context, .store] s (s.serve) := by
  unfold State.serve
  constructor
  · repeat' split
    all_goals rfl
  · intro b hb
    repeat' split
    all_goals cases b <;> first | rfl | exact absurd (by decide) hb

theorem State.driveApproach_only (s : State) (st : Station) : Only [.axes] s (s.driveApproach st) := by
  unfold State.driveApproach
  constructor
  · repeat' split
    all_goals rfl
  · intro b hb
    repeat' split
    all_goals cases b <;> first | rfl | exact absurd (by decide) hb

/-! ## Passing over a change -/

/-- A change within blocks that may change is passed over. -/
theorem Only.iff {l k : List Block} {s t u : State} (h : Only l t u) (hl : l ⊆ k) :
    Only k s u ↔ Only k s t := by
  have h' : Only k t u := h.mono hl
  refine ⟨fun g => ⟨g.1 ▸ h'.1.symm ▸ rfl, fun b hb => ?_⟩, fun g => g.trans h'⟩
  have h1 := g.2 b hb
  have h2 := h'.2 b hb
  revert h1 h2
  cases b <;> exact fun h1 h2 => h2.symm.trans h1

@[simp] theorem only_self (k : List Block) (s : State) : Only k s s := Only.refl k s

@[simp] theorem only_ite (k : List Block) (s t u : State) (p : Prop) [Decidable p] :
    Only k s (if p then t else u) ↔ (p → Only k s t) ∧ (¬p → Only k s u) := by
  split <;> simp_all

@[simp] theorem only_with_store (k : List Block) (s t : State) (x : Store) (h : Block.store ∈ k) :
    Only k s { t with store := x } ↔ Only k s t :=
  Only.iff (l := [.store]) ⟨rfl, fun b hb => by cases b <;> first | rfl | exact absurd (by decide) hb⟩ (by simpa using h)

@[simp] theorem only_with_context (k : List Block) (s t : State) (x : Context) (h : Block.context ∈ k) :
    Only k s { t with context := x } ↔ Only k s t :=
  Only.iff (l := [.context]) ⟨rfl, fun b hb => by cases b <;> first | rfl | exact absurd (by decide) hb⟩ (by simpa using h)

@[simp] theorem only_with_lift (k : List Block) (s t : State) (x : Lift) (h : Block.lift ∈ k) :
    Only k s { t with lift := x } ↔ Only k s t :=
  Only.iff (l := [.lift]) ⟨rfl, fun b hb => by cases b <;> first | rfl | exact absurd (by decide) hb⟩ (by simpa using h)

@[simp] theorem only_with_level (k : List Block) (s t : State) (x : Level) (h : Block.level ∈ k) :
    Only k s { t with level := x } ↔ Only k s t :=
  Only.iff (l := [.level]) ⟨rfl, fun b hb => by cases b <;> first | rfl | exact absurd (by decide) hb⟩ (by simpa using h)

@[simp] theorem only_with_inputs (k : List Block) (s t : State) (x : Twelve InputState) (h : Block.inputs ∈ k) :
    Only k s { t with inputs := x } ↔ Only k s t :=
  Only.iff (l := [.inputs]) ⟨rfl, fun b hb => by cases b <;> first | rfl | exact absurd (by decide) hb⟩ (by simpa using h)

@[simp] theorem only_with_probes (k : List Block) (s t : State) (x : Two Probe) (h : Block.probes ∈ k) :
    Only k s { t with probes := x } ↔ Only k s t :=
  Only.iff (l := [.probes]) ⟨rfl, fun b hb => by cases b <;> first | rfl | exact absurd (by decide) hb⟩ (by simpa using h)

@[simp] theorem only_with_capture (k : List Block) (s t : State) (x : Capture) (h : Block.capture ∈ k) :
    Only k s { t with capture := x } ↔ Only k s t :=
  Only.iff (l := [.capture]) ⟨rfl, fun b hb => by cases b <;> first | rfl | exact absurd (by decide) hb⟩ (by simpa using h)

@[simp] theorem only_with_engine (k : List Block) (s t : State) (x : Engine) (h : Block.engine ∈ k) :
    Only k s { t with engine := x } ↔ Only k s t :=
  Only.iff (l := [.engine]) ⟨rfl, fun b hb => by cases b <;> first | rfl | exact absurd (by decide) hb⟩ (by simpa using h)

@[simp] theorem only_with_plans (k : List Block) (s t : State) (x : Two (Option Plan)) (h : Block.plans ∈ k) :
    Only k s { t with plans := x } ↔ Only k s t :=
  Only.iff (l := [.plans]) ⟨rfl, fun b hb => by cases b <;> first | rfl | exact absurd (by decide) hb⟩ (by simpa using h)

@[simp] theorem only_with_stations (k : List Block) (s t : State) (x : Two CutStation)
    (h : Block.stations ∈ k) :
    Only k s { t with stations := x } ↔ Only k s t :=
  Only.iff (l := [.stations]) ⟨rfl, fun b hb => by cases b <;> first | rfl | exact absurd (by decide) hb⟩ (by simpa using h)

@[simp] theorem only_with_axes (k : List Block) (s t : State) (x : Axes) (h : Block.axes ∈ k) :
    Only k s { t with axes := x } ↔ Only k s t :=
  Only.iff (l := [.axes]) ⟨rfl, fun b hb => by cases b <;> first | rfl | exact absurd (by decide) hb⟩ (by simpa using h)

@[simp] theorem only_with_setup (k : List Block) (s t : State) (x : Setup) (h : Block.setup ∈ k) :
    Only k s { t with setup := x } ↔ Only k s t :=
  Only.iff (l := [.setup]) ⟨rfl, fun b hb => by cases b <;> first | rfl | exact absurd (by decide) hb⟩ (by simpa using h)

@[simp] theorem only_with_link (k : List Block) (s t : State) (x : Link) (h : Block.link ∈ k) :
    Only k s { t with link := x } ↔ Only k s t :=
  Only.iff (l := [.link]) ⟨rfl, fun b hb => by cases b <;> first | rfl | exact absurd (by decide) hb⟩ (by simpa using h)

@[simp] theorem only_with_notices (k : List Block) (s t : State) (x : Notices) (h : Block.notices ∈ k) :
    Only k s { t with notices := x } ↔ Only k s t :=
  Only.iff (l := [.notices]) ⟨rfl, fun b hb => by cases b <;> first | rfl | exact absurd (by decide) hb⟩ (by simpa using h)

@[simp] theorem only_notify (ks : List Block) (s t : State) (src : Source) (h : [.notices] ⊆ ks) :
    Only ks s (t.notify src) ↔ Only ks s t := (t.notify_only src).iff h

@[simp] theorem only_setSlot (ks : List Block) (s t : State) (i : Ix) (sl : Slot) (h : [.context] ⊆ ks) :
    Only ks s (t.setSlot i sl) ↔ Only ks s t := (t.setSlot_only i sl).iff h

@[simp] theorem only_touchSlot (ks : List Block) (s t : State) (i : Ix) (h : [.context] ⊆ ks) :
    Only ks s (t.touchSlot i) ↔ Only ks s t := (t.touchSlot_only i).iff h

@[simp] theorem only_freeSlot (ks : List Block) (s t : State) (i : Ix) (h : [.context] ⊆ ks) :
    Only ks s (t.freeSlot i) ↔ Only ks s t := (t.freeSlot_only i).iff h

@[simp] theorem only_addContextResult (ks : List Block) (s t : State) (i : Ix) (n : Nat) (o : ContextOutcome)
    (h : [.context, .notices] ⊆ ks) :
    Only ks s (t.addContextResult i n o) ↔ Only ks s t := (t.addContextResult_only i n o).iff h

@[simp] theorem only_mapStore (ks : List Block) (s t : State) (f : Store → Store) (h : [.store] ⊆ ks) :
    Only ks s (t.mapStore f) ↔ Only ks s t := (t.mapStore_only f).iff h

@[simp] theorem only_addStoreResult (ks : List Block) (s t : State) (r : StoreResult)
    (h : [.store, .notices] ⊆ ks) :
    Only ks s (t.addStoreResult r) ↔ Only ks s t := (t.addStoreResult_only r).iff h

@[simp] theorem only_putSweep (ks : List Block) (s t : State) (st : Station) (w : Sweep) (h : [.capture] ⊆ ks) :
    Only ks s (t.putSweep st w) ↔ Only ks s t := (t.putSweep_only st w).iff h

@[simp] theorem only_putRequest (ks : List Block) (s t : State) (st : Station) (r : SampleRequest)
    (h : [.capture] ⊆ ks) :
    Only ks s (t.putRequest st r) ↔ Only ks s t := (t.putRequest_only st r).iff h

@[simp] theorem only_mapAreas (ks : List Block) (s t : State) (st : Station) (f : Area → Area)
    (h : [.capture] ⊆ ks) :
    Only ks s (t.mapAreas st f) ↔ Only ks s t := (t.mapAreas_only st f).iff h

@[simp] theorem only_driveRoller (ks : List Block) (s t : State) (st : Station) (d : RollerDemand)
    (h : [.axes] ⊆ ks) :
    Only ks s (t.driveRoller st d) ↔ Only ks s t := (t.driveRoller_only st d).iff h

@[simp] theorem only_driveProbe (ks : List Block) (s t : State) (st : Station) (d : ProbeDemand)
    (h : [.axes] ⊆ ks) :
    Only ks s (t.driveProbe st d) ↔ Only ks s t := (t.driveProbe_only st d).iff h

@[simp] theorem only_driveTool (ks : List Block) (s t : State) (st : Station) (d : ToolDemand)
    (h : [.axes] ⊆ ks) :
    Only ks s (t.driveTool st d) ↔ Only ks s t := (t.driveTool_only st d).iff h

@[simp] theorem only_sendHome (ks : List Block) (s t : State) (st : Station) (h : [.axes] ⊆ ks) :
    Only ks s (t.sendHome st) ↔ Only ks s t := (t.sendHome_only st).iff h

@[simp] theorem only_staleMeasurements (ks : List Block) (s t : State) (h : [.context] ⊆ ks) :
    Only ks s (t.staleMeasurements) ↔ Only ks s t := (t.staleMeasurements_only).iff h

@[simp] theorem only_markDeparted (ks : List Block) (s t : State) (h : [.engine] ⊆ ks) :
    Only ks s (t.markDeparted) ↔ Only ks s t := (t.markDeparted_only).iff h

@[simp] theorem only_putPlan (ks : List Block) (s t : State) (st : Station) (p : Option Plan)
    (h : [.plans, .notices] ⊆ ks) :
    Only ks s (t.putPlan st p) ↔ Only ks s t := (t.putPlan_only st p).iff h

@[simp] theorem only_stopSweepAxes (ks : List Block) (s t : State) (st : Station) (h : [.capture, .axes] ⊆ ks) :
    Only ks s (t.stopSweepAxes st) ↔ Only ks s t := (t.stopSweepAxes_only st).iff h

@[simp] theorem only_beginIndexing (ks : List Block) (s t : State) (st : Station) (w : Sweep)
    (h : [.capture, .axes] ⊆ ks) :
    Only ks s (t.beginIndexing st w) ↔ Only ks s t := (t.beginIndexing_only st w).iff h

@[simp] theorem only_makeBinding (ks : List Block) (s t : State) (i : Ix) (st : Station)
    (h : [.context, .capture, .engine, .notices] ⊆ ks) :
    Only ks s (t.makeBinding i st) ↔ Only ks s t := (t.makeBinding_only i st).iff h

@[simp] theorem only_putReply (ks : List Block) (s t : State) (r : Reply) (h : [.link] ⊆ ks) :
    Only ks s (t.putReply r) ↔ Only ks s t := (t.putReply_only r).iff h

@[simp] theorem only_acceptFrame (ks : List Block) (s t : State) (f : Frame) (h : [.link] ⊆ ks) :
    Only ks s (t.acceptFrame f) ↔ Only ks s t := (t.acceptFrame_only f).iff h

@[simp] theorem only_breakLoad (ks : List Block) (s t : State) (k : Option Ix) (h : [.setup] ⊆ ks) :
    Only ks s (t.breakLoad k) ↔ Only ks s t := (t.breakLoad_only k).iff h

@[simp] theorem only_clearLatches (ks : List Block) (s t : State) (h : [.inputs] ⊆ ks) :
    Only ks s (t.clearLatches) ↔ Only ks s t := (t.clearLatches_only).iff h

@[simp] theorem only_putInput (ks : List Block) (s t : State) (i : Input) (x : InputState)
    (h : [.inputs] ⊆ ks) :
    Only ks s (t.putInput i x) ↔ Only ks s t := (t.putInput_only i x).iff h

@[simp] theorem only_putLift (ks : List Block) (s t : State) (l : Lift) (v : Level)
    (h : [.lift, .level, .notices] ⊆ ks) :
    Only ks s (t.putLift l v) ↔ Only ks s t := (t.putLift_only l v).iff h

@[simp] theorem only_putCut (ks : List Block) (s t : State) (st : Station) (c : CutStation)
    (h : [.stations, .notices] ⊆ ks) :
    Only ks s (t.putCut st c) ↔ Only ks s t := (t.putCut_only st c).iff h

@[simp] theorem only_putProbe (ks : List Block) (s t : State) (st : Station) (p : Probe)
    (h : [.probes, .notices] ⊆ ks) :
    Only ks s (t.putProbe st p) ↔ Only ks s t := (t.putProbe_only st p).iff h

@[simp] theorem only_removePlan (ks : List Block) (s t : State) (st : Station) (h : [.plans, .notices] ⊆ ks) :
    Only ks s (t.removePlan st) ↔ Only ks s t := (t.removePlan_only st).iff h

@[simp] theorem only_removeIdlePlan (ks : List Block) (s t : State) (st : Station)
    (h : [.plans, .notices] ⊆ ks) :
    Only ks s (t.removeIdlePlan st) ↔ Only ks s t := (t.removeIdlePlan_only st).iff h

@[simp] theorem only_touchStation (ks : List Block) (s t : State) (st : Station) (h : [.context] ⊆ ks) :
    Only ks s (t.touchStation st) ↔ Only ks s t := (t.touchStation_only st).iff h

@[simp] theorem only_spoilWindow (ks : List Block) (s t : State) (n : Nat) (h : [.store] ⊆ ks) :
    Only ks s (t.spoilWindow n) ↔ Only ks s t := (t.spoilWindow_only n).iff h

@[simp] theorem only_serve (ks : List Block) (s t : State) (h : [.context, .store] ⊆ ks) :
    Only ks s (t.serve) ↔ Only ks s t := (t.serve_only).iff h

@[simp] theorem only_driveApproach (ks : List Block) (s t : State) (st : Station) (h : [.axes] ⊆ ks) :
    Only ks s (t.driveApproach st) ↔ Only ks s t := (t.driveApproach_only st).iff h

/-! ## Operations made of others -/

theorem State.enqueue_only (s : State) (r : Request) : Only [.context, .store] s (s.enqueue r) := by
  unfold State.enqueue
  simp

@[simp] theorem only_enqueue (ks : List Block) (s t : State) (r : Request) (h : [.context, .store] ⊆ ks) :
    Only ks s (t.enqueue r) ↔ Only ks s t := (t.enqueue_only r).iff h

theorem State.endService_only (s : State) : Only [.context, .store] s (s.endService) := by
  unfold State.endService
  simp

@[simp] theorem only_endService (ks : List Block) (s t : State) (h : [.context, .store] ⊆ ks) :
    Only ks s (t.endService) ↔ Only ks s t := (t.endService_only).iff h

theorem State.queueWrite_only (s : State) (n : Nat) (i : Ix) :
    Only [.context, .store] s (s.queueWrite n i) := by
  unfold State.queueWrite
  simp

@[simp] theorem only_queueWrite (ks : List Block) (s t : State) (n : Nat) (i : Ix)
    (h : [.context, .store] ⊆ ks) :
    Only ks s (t.queueWrite n i) ↔ Only ks s t := (t.queueWrite_only n i).iff h

theorem State.pauseSweep_only (s : State) (c : PauseCause) (st : Station) :
    Only [.capture, .axes, .notices] s (s.pauseSweep c st) := by
  unfold State.pauseSweep
  repeat' split
  all_goals simp

@[simp] theorem only_pauseSweep (ks : List Block) (s t : State) (c : PauseCause) (st : Station)
    (h : [.capture, .axes, .notices] ⊆ ks) :
    Only ks s (t.pauseSweep c st) ↔ Only ks s t := (t.pauseSweep_only c st).iff h

theorem State.abandonSweep_only (s : State) (st : Station) :
    Only [.capture, .axes, .notices] s (s.abandonSweep st) := by
  unfold State.abandonSweep
  repeat' split
  all_goals simp

@[simp] theorem only_abandonSweep (ks : List Block) (s t : State) (st : Station)
    (h : [.capture, .axes, .notices] ⊆ ks) :
    Only ks s (t.abandonSweep st) ↔ Only ks s t := (t.abandonSweep_only st).iff h

theorem State.enterHolding_only (s : State) (c : CutCause) (st : Station) :
    Only [.stations, .axes, .notices] s (s.enterHolding c st) := by
  unfold State.enterHolding
  repeat' split
  all_goals simp

@[simp] theorem only_enterHolding (ks : List Block) (s t : State) (c : CutCause) (st : Station)
    (h : [.stations, .axes, .notices] ⊆ ks) :
    Only ks s (t.enterHolding c st) ↔ Only ks s t := (t.enterHolding_only c st).iff h

theorem State.giveCause_only (s : State) (c : CutCause) (st : Station) :
    Only [.stations, .axes, .notices] s (s.giveCause c st) := by
  unfold State.giveCause
  repeat' split
  all_goals simp

@[simp] theorem only_giveCause (ks : List Block) (s t : State) (c : CutCause) (st : Station)
    (h : [.stations, .axes, .notices] ⊆ ks) :
    Only ks s (t.giveCause c st) ↔ Only ks s t := (t.giveCause_only c st).iff h

theorem State.leaveHeld_only (s : State) (st : Station) :
    Only [.stations, .axes, .notices] s (s.leaveHeld st) := by
  unfold State.leaveHeld
  repeat' split
  all_goals simp

@[simp] theorem only_leaveHeld (ks : List Block) (s t : State) (st : Station)
    (h : [.stations, .axes, .notices] ⊆ ks) :
    Only ks s (t.leaveHeld st) ↔ Only ks s t := (t.leaveHeld_only st).iff h

theorem State.rewriteBound_only (s : State) (st : Station) (f : Record → Record) :
    Only [.context, .store] s (s.rewriteBound st f) := by
  unfold State.rewriteBound
  dsimp only
  repeat' split
  all_goals simp

@[simp] theorem only_rewriteBound (ks : List Block) (s t : State) (st : Station) (f : Record → Record)
    (h : [.context, .store] ⊆ ks) :
    Only ks s (t.rewriteBound st f) ↔ Only ks s t := (t.rewriteBound_only st f).iff h

theorem State.treatCut_only (s : State) (st : Station) :
    Only [.context, .store, .plans, .notices] s (s.treatCut st) := by
  unfold State.treatCut
  simp

@[simp] theorem only_treatCut (ks : List Block) (s t : State) (st : Station)
    (h : [.context, .store, .plans, .notices] ⊆ ks) :
    Only ks s (t.treatCut st) ↔ Only ks s t := (t.treatCut_only st).iff h

theorem State.completeAbort_only (s : State) (st : Station) :
    Only [.context, .store, .plans, .stations, .notices] s (s.completeAbort st) := by
  unfold State.completeAbort
  repeat' split
  all_goals simp

@[simp] theorem only_completeAbort (ks : List Block) (s t : State) (st : Station)
    (h : [.context, .store, .plans, .stations, .notices] ⊆ ks) :
    Only ks s (t.completeAbort st) ↔ Only ks s t := (t.completeAbort_only st).iff h

theorem State.completeCut_only (s : State) (st : Station) :
    Only [.context, .store, .plans, .stations, .notices] s (s.completeCut st) := by
  unfold State.completeCut
  simp

@[simp] theorem only_completeCut (ks : List Block) (s t : State) (st : Station)
    (h : [.context, .store, .plans, .stations, .notices] ⊆ ks) :
    Only ks s (t.completeCut st) ↔ Only ks s t := (t.completeCut_only st).iff h

theorem State.testHome_only (s : State) (st : Station) :
    Only [.context, .store, .plans, .stations, .notices] s (s.testHome st) := by
  unfold State.testHome
  repeat' split
  all_goals simp

@[simp] theorem only_testHome (ks : List Block) (s t : State) (st : Station)
    (h : [.context, .store, .plans, .stations, .notices] ⊆ ks) :
    Only ks s (t.testHome st) ↔ Only ks s t := (t.testHome_only st).iff h

theorem State.enterAborting_only (s : State) (k : AbortKind) (st : Station) :
    Only [.context, .store, .plans, .stations, .axes, .notices] s (s.enterAborting k st) := by
  unfold State.enterAborting
  repeat' split
  all_goals simp

@[simp] theorem only_enterAborting (ks : List Block) (s t : State) (k : AbortKind) (st : Station)
    (h : [.context, .store, .plans, .stations, .axes, .notices] ⊆ ks) :
    Only ks s (t.enterAborting k st) ↔ Only ks s t := (t.enterAborting_only k st).iff h

theorem State.stopStation_only (s : State) (st : Station) :
    Only [.context, .store, .plans, .stations, .axes, .notices] s (s.stopStation st) := by
  unfold State.stopStation
  simp

@[simp] theorem only_stopStation (ks : List Block) (s t : State) (st : Station)
    (h : [.context, .store, .plans, .stations, .axes, .notices] ⊆ ks) :
    Only ks s (t.stopStation st) ↔ Only ks s t := (t.stopStation_only st).iff h

theorem State.removeLevel_only (s : State) (st : Station) :
    Only [.stations, .axes, .notices] s (s.removeLevel st) := by
  unfold State.removeLevel
  simp

@[simp] theorem only_removeLevel (ks : List Block) (s t : State) (st : Station)
    (h : [.stations, .axes, .notices] ⊆ ks) :
    Only ks s (t.removeLevel st) ↔ Only ks s t := (t.removeLevel_only st).iff h

theorem State.endUrgent_only (s : State) :
    Only [.lift, .level, .stations, .axes, .notices] s (s.endUrgent) := by
  unfold State.endUrgent
  simp

@[simp] theorem only_endUrgent (ks : List Block) (s t : State)
    (h : [.lift, .level, .stations, .axes, .notices] ⊆ ks) :
    Only ks s (t.endUrgent) ↔ Only ks s t := (t.endUrgent_only).iff h

theorem State.completeRelevel_only (s : State) (b : Bool) :
    Only [.lift, .level, .stations, .axes, .notices] s (s.completeRelevel b) := by
  unfold State.completeRelevel
  repeat' split
  all_goals simp

@[simp] theorem only_completeRelevel (ks : List Block) (s t : State) (b : Bool)
    (h : [.lift, .level, .stations, .axes, .notices] ⊆ ks) :
    Only ks s (t.completeRelevel b) ↔ Only ks s t := (t.completeRelevel_only b).iff h

theorem State.beginRelevel_only (s : State) (m : Four Bool) (pit : Pit) :
    Only [.lift, .level, .notices] s (s.beginRelevel m pit) := by
  unfold State.beginRelevel
  simp

@[simp] theorem only_beginRelevel (ks : List Block) (s t : State) (m : Four Bool) (pit : Pit)
    (h : [.lift, .level, .notices] ⊆ ks) :
    Only ks s (t.beginRelevel m pit) ↔ Only ks s t := (t.beginRelevel_only m pit).iff h

theorem State.startRelevels_only (n : Nat) (s : State) :
    Only [.lift, .level, .stations, .axes, .notices] s (s.startRelevels n) := by
  induction n generalizing s with
  | zero => exact Only.refl _ _
  | succ n ih =>
    unfold State.startRelevels
    split
    · exact Only.refl _ _
    · split
      · dsimp only
        split
        · exact (s.beginRelevel_only _ _).mono (by decide)
        · exact (s.completeRelevel_only _).trans (ih _)
      · exact Only.refl _ _

@[simp] theorem only_startRelevels (ks : List Block) (s t : State) (n : Nat)
    (h : [.lift, .level, .stations, .axes, .notices] ⊆ ks) :
    Only ks s (t.startRelevels n) ↔ Only ks s t := (State.startRelevels_only n t).iff h

theorem State.testStart_only (s : State) :
    Only [.lift, .level, .stations, .axes, .notices] s (s.testStart) := by
  unfold State.testStart
  simp

@[simp] theorem only_testStart (ks : List Block) (s t : State)
    (h : [.lift, .level, .stations, .axes, .notices] ⊆ ks) :
    Only ks s (t.testStart) ↔ Only ks s t := (t.testStart_only).iff h

theorem State.testUrgent_only (s : State) :
    Only [.lift, .level, .stations, .axes, .capture, .notices] s (s.testUrgent) := by
  unfold State.testUrgent
  repeat' split
  all_goals simp

@[simp] theorem only_testUrgent (ks : List Block) (s t : State)
    (h : [.lift, .level, .stations, .axes, .capture, .notices] ⊆ ks) :
    Only ks s (t.testUrgent) ↔ Only ks s t := (t.testUrgent_only).iff h

theorem State.departRaised_only (s : State) :
    Only [.lift, .level, .stations, .axes, .capture, .context, .engine, .notices] s (s.departRaised) := by
  unfold State.departRaised
  simp

@[simp] theorem only_departRaised (ks : List Block) (s t : State)
    (h : [.lift, .level, .stations, .axes, .capture, .context, .engine, .notices] ⊆ ks) :
    Only ks s (t.departRaised) ↔ Only ks s t := (t.departRaised_only).iff h

theorem State.enterRaised_only (s : State) :
    Only [.lift, .level, .stations, .axes, .capture, .notices] s (s.enterRaised) := by
  unfold State.enterRaised
  repeat' split
  all_goals simp

@[simp] theorem only_enterRaised (ks : List Block) (s t : State)
    (h : [.lift, .level, .stations, .axes, .capture, .notices] ⊆ ks) :
    Only ks s (t.enterRaised) ↔ Only ks s t := (t.enterRaised_only).iff h

theorem State.arriveAtRail_only (s : State) : Only [.lift, .level, .notices] s (s.arriveAtRail) := by
  unfold State.arriveAtRail
  repeat' split
  all_goals simp

@[simp] theorem only_arriveAtRail (ks : List Block) (s t : State) (h : [.lift, .level, .notices] ⊆ ks) :
    Only ks s (t.arriveAtRail) ↔ Only ks s t := (t.arriveAtRail_only).iff h

theorem State.enterLeg_only (s : State) (m : Move) :
    Only [.lift, .level, .stations, .axes, .capture, .context, .engine, .notices] s (s.enterLeg m) := by
  unfold State.enterLeg
  repeat' split
  all_goals simp

@[simp] theorem only_enterLeg (ks : List Block) (s t : State) (m : Move)
    (h : [.lift, .level, .stations, .axes, .capture, .context, .engine, .notices] ⊆ ks) :
    Only ks s (t.enterLeg m) ↔ Only ks s t := (t.enterLeg_only m).iff h

theorem State.moveStart_only (s : State) (target : Int) (raise : Bool) :
    Only [.lift, .level, .stations, .axes, .capture, .context, .engine, .notices] s (s.moveStart target raise) := by
  unfold State.moveStart
  repeat' split
  all_goals simp

@[simp] theorem only_moveStart (ks : List Block) (s t : State) (target : Int) (raise : Bool)
    (h : [.lift, .level, .stations, .axes, .capture, .context, .engine, .notices] ⊆ ks) :
    Only ks s (t.moveStart target raise) ↔ Only ks s t := (t.moveStart_only target raise).iff h

theorem State.testBridges_only (s : State) :
    Only [.lift, .level, .stations, .axes, .capture, .context, .engine, .notices] s (s.testBridges) := by
  unfold State.testBridges
  repeat' split
  all_goals simp

@[simp] theorem only_testBridges (ks : List Block) (s t : State)
    (h : [.lift, .level, .stations, .axes, .capture, .context, .engine, .notices] ⊆ ks) :
    Only ks s (t.testBridges) ↔ Only ks s t := (t.testBridges_only).iff h

theorem State.endLeg_only (s : State) :
    Only [.lift, .level, .stations, .axes, .capture, .context, .engine, .notices] s (s.endLeg) := by
  unfold State.endLeg
  repeat' split
  all_goals simp

@[simp] theorem only_endLeg (ks : List Block) (s t : State)
    (h : [.lift, .level, .stations, .axes, .capture, .context, .engine, .notices] ⊆ ks) :
    Only ks s (t.endLeg) ↔ Only ks s t := (t.endLeg_only).iff h

theorem State.enterHold_only (s : State) (c : LiftCause) :
    Only [.lift, .level, .stations, .axes, .capture, .context, .engine, .notices] s (s.enterHold c) := by
  unfold State.enterHold
  simp

@[simp] theorem only_enterHold (ks : List Block) (s t : State) (c : LiftCause)
    (h : [.lift, .level, .stations, .axes, .capture, .context, .engine, .notices] ⊆ ks) :
    Only ks s (t.enterHold c) ↔ Only ks s t := (t.enterHold_only c).iff h

theorem State.enterFault_only (s : State) (c : FaultCause) :
    Only [.lift, .level, .stations, .axes, .capture, .context, .engine, .notices] s (s.enterFault c) := by
  unfold State.enterFault
  simp

@[simp] theorem only_enterFault (ks : List Block) (s t : State) (c : FaultCause)
    (h : [.lift, .level, .stations, .axes, .capture, .context, .engine, .notices] ⊆ ks) :
    Only ks s (t.enterFault c) ↔ Only ks s t := (t.enterFault_only c).iff h

theorem State.addLiftCause_only (s : State) (c : LiftCause) :
    Only [.lift, .level, .notices] s (s.addLiftCause c) := by
  unfold State.addLiftCause
  simp

@[simp] theorem only_addLiftCause (ks : List Block) (s t : State) (c : LiftCause)
    (h : [.lift, .level, .notices] ⊆ ks) :
    Only ks s (t.addLiftCause c) ↔ Only ks s t := (t.addLiftCause_only c).iff h

theorem State.cancelUnpark_only (s : State) : Only [.lift, .level, .notices] s (s.cancelUnpark) := by
  unfold State.cancelUnpark
  simp

@[simp] theorem only_cancelUnpark (ks : List Block) (s t : State) (h : [.lift, .level, .notices] ⊆ ks) :
    Only ks s (t.cancelUnpark) ↔ Only ks s t := (t.cancelUnpark_only).iff h

theorem State.giveLiftCause_only (s : State) (c : LiftCause) :
    Only [.lift, .level, .stations, .axes, .capture, .context, .engine, .notices] s (s.giveLiftCause c) := by
  unfold State.giveLiftCause
  repeat' split
  all_goals simp

@[simp] theorem only_giveLiftCause (ks : List Block) (s t : State) (c : LiftCause)
    (h : [.lift, .level, .stations, .axes, .capture, .context, .engine, .notices] ⊆ ks) :
    Only ks s (t.giveLiftCause c) ↔ Only ks s t := (t.giveLiftCause_only c).iff h

theorem State.testEngage_only (s : State) : Only [.lift, .level, .notices] s (s.testEngage) := by
  unfold State.testEngage
  repeat' split
  all_goals simp

@[simp] theorem only_testEngage (ks : List Block) (s t : State) (h : [.lift, .level, .notices] ⊆ ks) :
    Only ks s (t.testEngage) ↔ Only ks s t := (t.testEngage_only).iff h

theorem State.testRelease_only (s : State) :
    Only [.lift, .level, .stations, .axes, .capture, .notices] s (s.testRelease) := by
  unfold State.testRelease
  repeat' split
  all_goals simp

@[simp] theorem only_testRelease (ks : List Block) (s t : State)
    (h : [.lift, .level, .stations, .axes, .capture, .notices] ⊆ ks) :
    Only ks s (t.testRelease) ↔ Only ks s t := (t.testRelease_only).iff h

theorem State.testPressure_only (s : State) :
    Only [.lift, .level, .stations, .axes, .capture, .notices] s (s.testPressure) := by
  unfold State.testPressure
  repeat' split
  all_goals simp

@[simp] theorem only_testPressure (ks : List Block) (s t : State)
    (h : [.lift, .level, .stations, .axes, .capture, .notices] ⊆ ks) :
    Only ks s (t.testPressure) ↔ Only ks s t := (t.testPressure_only).iff h

theorem State.beginUnparking_only (s : State) :
    Only [.lift, .level, .stations, .axes, .capture, .notices] s (s.beginUnparking) := by
  unfold State.beginUnparking
  simp

@[simp] theorem only_beginUnparking (ks : List Block) (s t : State)
    (h : [.lift, .level, .stations, .axes, .capture, .notices] ⊆ ks) :
    Only ks s (t.beginUnparking) ↔ Only ks s t := (t.beginUnparking_only).iff h

end Sys2Proof.Machine
end

