-- ==== Sys2Proof/Laws/Commands.lean ====
section
/-! SUPPORT. What a command of the host comes to, by what becomes of its frame: it waits, it is refused by the
link, or its owner answers it. -/

namespace Sys2Proof.Machine

variable {α : Type} {s s1 : State} {kind tag : Byte} {payload : List Byte} {params : Except Code α}
  {keep : α → Option Ix} {owner : α → State → Answered}

theorem State.handed_eq_some :
    s.handed kind tag payload = some s1 ↔
      ∃ s0, s.takeFrame ⟨kind, tag, payload⟩ = some s0 ∧ s0.breakLoad none = s1 := by
  simp [State.handed]

/-- A frame that cannot be taken now is accepted and waits. -/
theorem State.command_waits (h : s.takeFrame ⟨kind, tag, payload⟩ = none) :
    s.command kind tag payload params keep owner = s.acceptFrame ⟨kind, tag, payload⟩ := by
  simp only [State.command, h]

/-- A frame whose length or listed values fail is answered by the link. -/
theorem State.command_refused {c : Code} (h : s.takeFrame ⟨kind, tag, payload⟩ = some s1) :
    s.command kind tag payload (Except.error c) keep owner =
      s1.putReply ⟨replyKind kind, tag, c, .none⟩ := by
  simp only [State.command, h]

/-- A frame that is taken and passes the checks is answered by its owner. -/
theorem State.command_taken {x : α} (h : s.takeFrame ⟨kind, tag, payload⟩ = some s1) :
    s.command kind tag payload (.ok x) keep owner = (owner x (s1.breakLoad (keep x))).sent kind tag := by
  simp only [State.command, h]
  rfl

/-- The same for every command but PROFILE DATA. -/
theorem State.plainCommand_handed {x : α} (h : s.handed kind tag payload = some s1) :
    s.plainCommand kind tag payload (.ok x) owner = (owner x s1).sent kind tag := by
  obtain ⟨s0, h0, rfl⟩ := State.handed_eq_some.1 h
  exact State.command_taken h0

theorem State.plainCommand_waits (h : s.takeFrame ⟨kind, tag, payload⟩ = none) :
    s.plainCommand kind tag payload params owner = s.acceptFrame ⟨kind, tag, payload⟩ :=
  State.command_waits h

theorem State.plainCommand_refused {c : Code} (h : s.takeFrame ⟨kind, tag, payload⟩ = some s1) :
    s.plainCommand kind tag payload (Except.error c) owner = s1.putReply ⟨replyKind kind, tag, c, .none⟩ :=
  State.command_refused h

/-- A frame leaves the link as it was but for the queue and the supervisor. -/
theorem State.takeFrame_only {f : Frame} (h : s.takeFrame f = some s1) : Only [.link] s s1 := by
  simp only [State.takeFrame] at h
  split at h
  · cases h
  · split at h
    · cases h
      exact ⟨rfl, fun b hb => by cases b <;> first | rfl | exact absurd (by decide) hb⟩
    · split at h
      · cases h
        exact ⟨rfl, fun b hb => by cases b <;> first | rfl | exact absurd (by decide) hb⟩
      · cases h

/-- A command handed to its owner has touched the link and the profile states alone. -/
theorem State.handed_only (h : s.handed kind tag payload = some s1) : Only [.link, .setup] s s1 := by
  obtain ⟨s0, h0, rfl⟩ := State.handed_eq_some.1 h
  exact (State.takeFrame_only h0).step (s0.breakLoad_only none) (by decide) (by decide)

/-- A reply put in the reply slot leaves every other block. -/
theorem State.replied_only (s : State) (kind tag : Byte) (code : Code) (answer : Answer) :
    Only [.link] s (s.replied kind tag code answer) :=
  ⟨rfl, fun b hb => by cases b <;> first | rfl | exact absurd (by decide) hb⟩

/-! ### firstOf -/

@[simp] theorem firstOf_nil : firstOf [] = none := rfl
@[simp] theorem firstOf_cons (b : Bool) (c : Code) (l : List (Bool × Code)) :
    firstOf ((b, c) :: l) = if b = true then some c else firstOf l := by
  cases b <;> rfl

/-! ### Writing a block with its notice -/

/-- A probe unit whose noticed fields change is written with its notice (R105). -/
theorem State.putProbe_changed (s : State) (st : Station) (p : Probe) (h : p.seen ≠ (s.probe st).seen) :
    s.putProbe st p =
      { s with probes := s.probes.set st p, notices := (s.notify (.probe st)).notices } := by
  unfold State.putProbe
  rw [if_neg h]
  rfl

/-- A probe unit whose noticed fields stay is written without a notice (R105). -/
theorem State.putProbe_unchanged (s : State) (st : Station) (p : Probe) (h : p.seen = (s.probe st).seen) :
    s.putProbe st p = { s with probes := s.probes.set st p } := by
  unfold State.putProbe
  rw [if_pos h]

/-- A station whose noticed fields change is written with its notice (R175). -/
theorem State.putCut_changed (s : State) (st : Station) (x : CutStation) (h : x.seen ≠ (s.cut st).seen) :
    s.putCut st x =
      { s with stations := s.stations.set st x, notices := (s.notify (.station st)).notices } := by
  unfold State.putCut
  rw [if_neg h]
  rfl

/-- A station whose noticed fields stay is written without a notice (R175). -/
theorem State.putCut_unchanged (s : State) (st : Station) (x : CutStation) (h : x.seen = (s.cut st).seen) :
    s.putCut st x = { s with stations := s.stations.set st x } := by
  unfold State.putCut
  rw [if_pos h]

/-- Two events of one source leave what one leaves (R185). -/
theorem SourceState.event_event (x : SourceState) : x.event.event = x.event := by
  rcases x with ⟨p, m, k⟩
  cases k <;> rfl

theorem Notices.get_set_self (n : Notices) (src : Source) (v : SourceState) : (n.set src v).get src = v := by
  cases src <;> rfl

theorem Notices.set_set_self (n : Notices) (src : Source) (v w : SourceState) :
    (n.set src v).set src w = n.set src w := by
  cases src <;> rfl

theorem State.notify_notify (s : State) (src : Source) : (s.notify src).notify src = s.notify src := by
  simp only [State.notify, Notices.get_set_self, Notices.set_set_self, SourceState.event_event]

/-! ### touchStation -/

/-- Making the slot of a station most recent changes the Context Table alone, as the Context Table gives it. -/
theorem State.touchStation_eq (st : Station) {s s1 : State} (h : s.context = s1.context) :
    s.touchStation st = { s with context := (s1.touchStation st).context } := by
  have hb : s.boundSlot st = s1.boundSlot st := by
    simp only [State.boundSlot, State.slot, h]
    rfl
  unfold State.touchStation
  rw [hb]
  cases s1.boundSlot st
  · simp only [← h]
  · simp only [State.touchSlot, h]

/-! ### replied -/

@[simp] theorem State.replied_pending (s : State) (kind tag : Byte) (c : Code) (a : Answer) :
    (s.replied kind tag c a).pending = s.pending := rfl
@[simp] theorem State.replied_store (s : State) (kind tag : Byte) (c : Code) (a : Answer) :
    (s.replied kind tag c a).store = s.store := rfl
@[simp] theorem State.replied_context (s : State) (kind tag : Byte) (c : Code) (a : Answer) :
    (s.replied kind tag c a).context = s.context := rfl
@[simp] theorem State.replied_lift (s : State) (kind tag : Byte) (c : Code) (a : Answer) :
    (s.replied kind tag c a).lift = s.lift := rfl
@[simp] theorem State.replied_level (s : State) (kind tag : Byte) (c : Code) (a : Answer) :
    (s.replied kind tag c a).level = s.level := rfl
@[simp] theorem State.replied_inputs (s : State) (kind tag : Byte) (c : Code) (a : Answer) :
    (s.replied kind tag c a).inputs = s.inputs := rfl
@[simp] theorem State.replied_probes (s : State) (kind tag : Byte) (c : Code) (a : Answer) :
    (s.replied kind tag c a).probes = s.probes := rfl
@[simp] theorem State.replied_capture (s : State) (kind tag : Byte) (c : Code) (a : Answer) :
    (s.replied kind tag c a).capture = s.capture := rfl
@[simp] theorem State.replied_engine (s : State) (kind tag : Byte) (c : Code) (a : Answer) :
    (s.replied kind tag c a).engine = s.engine := rfl
@[simp] theorem State.replied_plans (s : State) (kind tag : Byte) (c : Code) (a : Answer) :
    (s.replied kind tag c a).plans = s.plans := rfl
@[simp] theorem State.replied_stations (s : State) (kind tag : Byte) (c : Code) (a : Answer) :
    (s.replied kind tag c a).stations = s.stations := rfl
@[simp] theorem State.replied_axes (s : State) (kind tag : Byte) (c : Code) (a : Answer) :
    (s.replied kind tag c a).axes = s.axes := rfl
@[simp] theorem State.replied_setup (s : State) (kind tag : Byte) (c : Code) (a : Answer) :
    (s.replied kind tag c a).setup = s.setup := rfl
@[simp] theorem State.replied_notices (s : State) (kind tag : Byte) (c : Code) (a : Answer) :
    (s.replied kind tag c a).notices = s.notices := rfl
@[simp] theorem State.replied_link (s : State) (kind tag : Byte) (c : Code) (a : Answer) :
    (s.replied kind tag c a).link = { s.link with reply := some ⟨replyKind kind, tag, c, a⟩ } := rfl
@[simp] theorem only_replied (ks : List Block) (s t : State) (kind tag : Byte) (c : Code) (a : Answer)
    (h : [.link] ⊆ ks) : Only ks s (t.replied kind tag c a) ↔ Only ks s t := (t.replied_only kind tag c a).iff h
@[simp] theorem State.replied_slot (s : State) (kind tag : Byte) (c : Code) (a : Answer) (i : Ix) :
    (s.replied kind tag c a).slot i = s.slot i := rfl
@[simp] theorem State.replied_cut (s : State) (kind tag : Byte) (c : Code) (a : Answer) (st : Station) :
    (s.replied kind tag c a).cut st = s.cut st := rfl
@[simp] theorem State.replied_probe (s : State) (kind tag : Byte) (c : Code) (a : Answer) (st : Station) :
    (s.replied kind tag c a).probe st = s.probe st := rfl
@[simp] theorem State.replied_plan (s : State) (kind tag : Byte) (c : Code) (a : Answer) (st : Station) :
    (s.replied kind tag c a).plan st = s.plan st := rfl
@[simp] theorem State.replied_sweepOf (s : State) (kind tag : Byte) (c : Code) (a : Answer) (st : Station) :
    (s.replied kind tag c a).sweepOf st = s.sweepOf st := rfl
@[simp] theorem State.replied_profile (s : State) (kind tag : Byte) (c : Code) (a : Answer) (i : Ix) :
    (s.replied kind tag c a).profile i = s.profile i := rfl

end Sys2Proof.Machine
end

