-- ==== Sys2Proof/Laws/Meanings.lean ====
section
/-! SUPPORT. What each command and event can change: for the operation behind every row of the table, the blocks
outside which it leaves everything as it was. -/

namespace Sys2Proof.Machine

@[simp] theorem State.refuse_state (s : State) (c : Code) : (s.refuse c).state = s := rfl

@[simp] theorem State.accept_state (s : State) : s.accept.state = s := rfl

@[simp] theorem Answered.ite_state (p : Prop) [Decidable p] (a b : Answered) :
    (if p then a else b).state = if p then a.state else b.state := by
  split <;> rfl

theorem State.raiseEffect_only (s : State) (height : Int) :
    Only [.lift, .level, .stations, .axes, .capture, .context, .engine, .notices] s (s.raiseEffect height) := by
  unfold State.raiseEffect
  try dsimp only
  repeat' split
  all_goals simp

@[simp] theorem only_raiseEffect (ks : List Block) (s t : State) (height : Int)
    (h : [.lift, .level, .stations, .axes, .capture, .context, .engine, .notices] ⊆ ks) :
    Only ks s (t.raiseEffect height) ↔ Only ks s t := (t.raiseEffect_only height).iff h

theorem State.raiseLift_only (s : State) (height : Int) :
    Only [.lift, .level, .stations, .axes, .capture, .context, .engine, .notices] s (s.raiseLift height).state := by
  unfold State.raiseLift
  try dsimp only
  repeat' split
  all_goals simp

@[simp] theorem only_raiseLift (ks : List Block) (s t : State) (height : Int)
    (h : [.lift, .level, .stations, .axes, .capture, .context, .engine, .notices] ⊆ ks) :
    Only ks s (t.raiseLift height).state ↔ Only ks s t := (t.raiseLift_only height).iff h

theorem State.lowerEffect_only (s : State) :
    Only [.lift, .level, .stations, .axes, .capture, .context, .engine, .notices] s (s.lowerEffect) := by
  unfold State.lowerEffect
  try dsimp only
  repeat' split
  all_goals simp

@[simp] theorem only_lowerEffect (ks : List Block) (s t : State)
    (h : [.lift, .level, .stations, .axes, .capture, .context, .engine, .notices] ⊆ ks) :
    Only ks s (t.lowerEffect) ↔ Only ks s t := (t.lowerEffect_only).iff h

theorem State.lowerLift_only (s : State) :
    Only [.lift, .level, .stations, .axes, .capture, .context, .engine, .notices] s (s.lowerLift).state := by
  unfold State.lowerLift
  try dsimp only
  repeat' split
  all_goals simp

@[simp] theorem only_lowerLift (ks : List Block) (s t : State)
    (h : [.lift, .level, .stations, .axes, .capture, .context, .engine, .notices] ⊆ ks) :
    Only ks s (t.lowerLift).state ↔ Only ks s t := (t.lowerLift_only ).iff h

theorem State.stopLift_only (s : State) :
    Only [.lift, .level, .stations, .axes, .capture, .context, .engine, .notices] s (s.stopLift).state := by
  unfold State.stopLift
  try dsimp only
  repeat' split
  all_goals simp

@[simp] theorem only_stopLift (ks : List Block) (s t : State)
    (h : [.lift, .level, .stations, .axes, .capture, .context, .engine, .notices] ⊆ ks) :
    Only ks s (t.stopLift).state ↔ Only ks s t := (t.stopLift_only ).iff h

theorem State.resumeLift_only (s : State) :
    Only [.lift, .level, .stations, .axes, .capture, .context, .engine, .notices] s (s.resumeLift).state := by
  unfold State.resumeLift
  try dsimp only
  repeat' split
  all_goals simp

@[simp] theorem only_resumeLift (ks : List Block) (s t : State)
    (h : [.lift, .level, .stations, .axes, .capture, .context, .engine, .notices] ⊆ ks) :
    Only ks s (t.resumeLift).state ↔ Only ks s t := (t.resumeLift_only ).iff h

theorem State.clearFault_only (s : State) : Only [.lift, .level, .notices] s (s.clearFault).state := by
  unfold State.clearFault
  try dsimp only
  repeat' split
  all_goals simp

@[simp] theorem only_clearFault (ks : List Block) (s t : State) (h : [.lift, .level, .notices] ⊆ ks) :
    Only ks s (t.clearFault).state ↔ Only ks s t := (t.clearFault_only ).iff h

theorem State.reportLift_only (s : State) (w : Wheel) (height : Nat) :
    Only [.lift, .level, .stations, .axes, .capture, .context, .engine, .notices] s (s.reportLift w height) := by
  unfold State.reportLift
  try dsimp only
  repeat' split
  all_goals simp

@[simp] theorem only_reportLift (ks : List Block) (s t : State) (w : Wheel) (height : Nat)
    (h : [.lift, .level, .stations, .axes, .capture, .context, .engine, .notices] ⊆ ks) :
    Only ks s (t.reportLift w height) ↔ Only ks s t := (t.reportLift_only w height).iff h

theorem State.arrival_only (s : State) :
    Only [.lift, .level, .stations, .axes, .capture, .context, .engine, .notices] s (s.arrival) := by
  unfold State.arrival
  try dsimp only
  repeat' split
  all_goals simp

@[simp] theorem only_arrival (ks : List Block) (s t : State)
    (h : [.lift, .level, .stations, .axes, .capture, .context, .engine, .notices] ⊆ ks) :
    Only ks s (t.arrival) ↔ Only ks s t := (t.arrival_only).iff h

theorem State.liftArrives_only (s : State) (w : Wheel) :
    Only [.lift, .level, .stations, .axes, .capture, .context, .engine, .notices] s (s.liftArrives w) := by
  unfold State.liftArrives
  try dsimp only
  repeat' split
  all_goals simp

@[simp] theorem only_liftArrives (ks : List Block) (s t : State) (w : Wheel)
    (h : [.lift, .level, .stations, .axes, .capture, .context, .engine, .notices] ⊆ ks) :
    Only ks s (t.liftArrives w) ↔ Only ks s t := (t.liftArrives_only w).iff h

theorem State.moveTimesOut_only (s : State) :
    Only [.lift, .level, .stations, .axes, .capture, .context, .engine, .notices] s (s.moveTimesOut) := by
  unfold State.moveTimesOut
  try dsimp only
  repeat' split
  all_goals simp

@[simp] theorem only_moveTimesOut (ks : List Block) (s t : State)
    (h : [.lift, .level, .stations, .axes, .capture, .context, .engine, .notices] ⊆ ks) :
    Only ks s (t.moveTimesOut) ↔ Only ks s t := (t.moveTimesOut_only).iff h

theorem State.park_only (s : State) :
    Only [.lift, .level, .stations, .axes, .capture, .context, .engine, .notices] s (s.park).state := by
  unfold State.park
  try dsimp only
  repeat' split
  all_goals simp

@[simp] theorem only_park (ks : List Block) (s t : State)
    (h : [.lift, .level, .stations, .axes, .capture, .context, .engine, .notices] ⊆ ks) :
    Only ks s (t.park).state ↔ Only ks s t := (t.park_only ).iff h

theorem State.unpark_only (s : State) :
    Only [.lift, .level, .stations, .axes, .capture, .notices] s (s.unpark).state := by
  unfold State.unpark
  try dsimp only
  repeat' split
  all_goals simp

@[simp] theorem only_unpark (ks : List Block) (s t : State)
    (h : [.lift, .level, .stations, .axes, .capture, .notices] ⊆ ks) :
    Only ks s (t.unpark).state ↔ Only ks s t := (t.unpark_only ).iff h

theorem State.intervalExpires_only (s : State) :
    Only [.lift, .level, .stations, .axes, .capture, .notices] s (s.intervalExpires) := by
  unfold State.intervalExpires
  try dsimp only
  repeat' split
  all_goals simp

@[simp] theorem only_intervalExpires (ks : List Block) (s t : State)
    (h : [.lift, .level, .stations, .axes, .capture, .notices] ⊆ ks) :
    Only ks s (t.intervalExpires) ↔ Only ks s t := (t.intervalExpires_only).iff h

theorem State.dwellExpires_only (s : State) :
    Only [.lift, .level, .stations, .axes, .capture, .notices] s (s.dwellExpires) := by
  unfold State.dwellExpires
  try dsimp only
  repeat' split
  all_goals simp

@[simp] theorem only_dwellExpires (ks : List Block) (s t : State)
    (h : [.lift, .level, .stations, .axes, .capture, .notices] ⊆ ks) :
    Only ks s (t.dwellExpires) ↔ Only ks s t := (t.dwellExpires_only).iff h

theorem State.acceptLevel_only (s : State) (i : Input) : Only [.inputs, .notices] s (s.acceptLevel i) := by
  unfold State.acceptLevel
  try dsimp only
  simp

@[simp] theorem only_acceptLevel (ks : List Block) (s t : State) (i : Input) (h : [.inputs, .notices] ⊆ ks) :
    Only ks s (t.acceptLevel i) ↔ Only ks s t := (t.acceptLevel_only i).iff h

theorem State.estopFalls_only (s : State) :
    Only [.lift, .level, .stations, .axes, .capture, .context, .engine, .notices, .store, .plans] s (s.estopFalls) := by
  unfold State.estopFalls
  try dsimp only
  simp

@[simp] theorem only_estopFalls (ks : List Block) (s t : State)
    (h : [.lift, .level, .stations, .axes, .capture, .context, .engine, .notices, .store, .plans] ⊆ ks) :
    Only ks s (t.estopFalls) ↔ Only ks s t := (t.estopFalls_only).iff h

theorem State.guardFalls_only (s : State) :
    Only [.lift, .level, .stations, .axes, .capture, .notices] s (s.guardFalls) := by
  unfold State.guardFalls
  try dsimp only
  simp

@[simp] theorem only_guardFalls (ks : List Block) (s t : State)
    (h : [.lift, .level, .stations, .axes, .capture, .notices] ⊆ ks) :
    Only ks s (t.guardFalls) ↔ Only ks s t := (t.guardFalls_only).iff h

theorem State.holddownFalls_only (s : State) (st : Station) :
    Only [.lift, .level, .stations, .axes, .context, .store, .plans, .notices] s (s.holddownFalls st) := by
  unfold State.holddownFalls
  try dsimp only
  repeat' split
  all_goals simp

@[simp] theorem only_holddownFalls (ks : List Block) (s t : State) (st : Station)
    (h : [.lift, .level, .stations, .axes, .context, .store, .plans, .notices] ⊆ ks) :
    Only ks s (t.holddownFalls st) ↔ Only ks s t := (t.holddownFalls_only st).iff h

theorem State.locksFall_only (s : State) :
    Only [.lift, .level, .stations, .axes, .capture, .context, .engine, .notices] s (s.locksFall) := by
  unfold State.locksFall
  try dsimp only
  repeat' split
  all_goals simp

@[simp] theorem only_locksFall (ks : List Block) (s t : State)
    (h : [.lift, .level, .stations, .axes, .capture, .context, .engine, .notices] ⊆ ks) :
    Only ks s (t.locksFall) ↔ Only ks s t := (t.locksFall_only).iff h

theorem State.handOut_only (s : State) (i : Input) (rise : Bool) :
    Only [.lift, .level, .stations, .axes, .capture, .context, .engine, .notices, .store, .plans] s (s.handOut i rise) := by
  unfold State.handOut
  try dsimp only
  repeat' split
  all_goals simp

@[simp] theorem only_handOut (ks : List Block) (s t : State) (i : Input) (rise : Bool)
    (h : [.lift, .level, .stations, .axes, .capture, .context, .engine, .notices, .store, .plans] ⊆ ks) :
    Only ks s (t.handOut i rise) ↔ Only ks s t := (t.handOut_only i rise).iff h

theorem State.debounceExpires_only (s : State) (i : Input) :
    Only [.lift, .level, .stations, .axes, .capture, .context, .engine, .notices, .store, .plans, .inputs] s (s.debounceExpires i) := by
  unfold State.debounceExpires
  try dsimp only
  repeat' split
  all_goals simp

@[simp] theorem only_debounceExpires (ks : List Block) (s t : State) (i : Input)
    (h : [.lift, .level, .stations, .axes, .capture, .context, .engine, .notices, .store, .plans, .inputs] ⊆ ks) :
    Only ks s (t.debounceExpires i) ↔ Only ks s t := (t.debounceExpires_only i).iff h

theorem State.probeReference_only (s : State) (st : Station) :
    Only [.probes, .axes, .context, .notices] s (s.probeReference st).state := by
  unfold State.probeReference
  try dsimp only
  repeat' split
  all_goals simp

@[simp] theorem only_probeReference (ks : List Block) (s t : State) (st : Station)
    (h : [.probes, .axes, .context, .notices] ⊆ ks) :
    Only ks s (t.probeReference st).state ↔ Only ks s t := (t.probeReference_only st).iff h

theorem State.calibrateOn_only (s : State) (st : Station) :
    Only [.probes, .context, .notices] s (s.calibrateOn st).state := by
  unfold State.calibrateOn
  try dsimp only
  repeat' split
  all_goals simp

@[simp] theorem only_calibrateOn (ks : List Block) (s t : State) (st : Station)
    (h : [.probes, .context, .notices] ⊆ ks) :
    Only ks s (t.calibrateOn st).state ↔ Only ks s t := (t.calibrateOn_only st).iff h

theorem State.calibrateMeasure_only (s : State) (st : Station) :
    Only [.probes, .axes, .context, .notices] s (s.calibrateMeasure st).state := by
  unfold State.calibrateMeasure
  try dsimp only
  repeat' split
  all_goals simp

@[simp] theorem only_calibrateMeasure (ks : List Block) (s t : State) (st : Station)
    (h : [.probes, .axes, .context, .notices] ⊆ ks) :
    Only ks s (t.calibrateMeasure st).state ↔ Only ks s t := (t.calibrateMeasure_only st).iff h

theorem State.calibrateOff_only (s : State) (st : Station) :
    Only [.probes, .axes, .context, .notices] s (s.calibrateOff st).state := by
  unfold State.calibrateOff
  try dsimp only
  repeat' split
  all_goals simp

@[simp] theorem only_calibrateOff (ks : List Block) (s t : State) (st : Station)
    (h : [.probes, .axes, .context, .notices] ⊆ ks) :
    Only ks s (t.calibrateOff st).state ↔ Only ks s t := (t.calibrateOff_only st).iff h

theorem State.padReached_only (s : State) (st : Station) : Only [.probes, .notices] s (s.padReached st) := by
  unfold State.padReached
  try dsimp only
  repeat' split
  all_goals simp

@[simp] theorem only_padReached (ks : List Block) (s t : State) (st : Station) (h : [.probes, .notices] ⊆ ks) :
    Only ks s (t.padReached st) ↔ Only ks s t := (t.padReached_only st).iff h

theorem State.padReading_only (s : State) (st : Station) (l r : Reading) :
    Only [.probes, .axes, .notices] s (s.padReading st l r) := by
  unfold State.padReading
  try dsimp only
  repeat' split
  all_goals simp

@[simp] theorem only_padReading (ks : List Block) (s t : State) (st : Station) (l r : Reading)
    (h : [.probes, .axes, .notices] ⊆ ks) :
    Only ks s (t.padReading st l r) ↔ Only ks s t := (t.padReading_only st l r).iff h

theorem State.settles_only (s : State) (st : Station) : Only [.probes, .notices] s (s.settles st) := by
  unfold State.settles
  try dsimp only
  repeat' split
  all_goals simp

@[simp] theorem only_settles (ks : List Block) (s t : State) (st : Station) (h : [.probes, .notices] ⊆ ks) :
    Only ks s (t.settles st) ↔ Only ks s t := (t.settles_only st).iff h

theorem State.ringReached_only (s : State) (st : Station) : Only [.probes, .notices] s (s.ringReached st) := by
  unfold State.ringReached
  try dsimp only
  repeat' split
  all_goals simp

@[simp] theorem only_ringReached (ks : List Block) (s t : State) (st : Station) (h : [.probes, .notices] ⊆ ks) :
    Only ks s (t.ringReached st) ↔ Only ks s t := (t.ringReached_only st).iff h

theorem State.endCalibration_only (s : State) (st : Station) (p : Probe) (res : CalResult) :
    Only [.probes, .axes, .notices] s (s.endCalibration st p res) := by
  unfold State.endCalibration
  try dsimp only
  simp

@[simp] theorem only_endCalibration (ks : List Block) (s t : State) (st : Station) (p : Probe) (res : CalResult)
    (h : [.probes, .axes, .notices] ⊆ ks) :
    Only ks s (t.endCalibration st p res) ↔ Only ks s t := (t.endCalibration_only st p res).iff h

theorem State.finishCalibration_only (s : State) (st : Station) (taken : List (Pair Int)) (ring : Int) :
    Only [.probes, .axes, .notices] s (s.finishCalibration st taken ring) := by
  unfold State.finishCalibration
  try dsimp only
  repeat' split
  all_goals simp

@[simp] theorem only_finishCalibration (ks : List Block) (s t : State) (st : Station) (taken : List (Pair Int)) (ring : Int)
    (h : [.probes, .axes, .notices] ⊆ ks) :
    Only ks s (t.finishCalibration st taken ring) ↔ Only ks s t := (t.finishCalibration_only st taken ring).iff h

theorem State.calibrationReading_only (s : State) (st : Station) (l r : Reading) :
    Only [.probes, .axes, .notices] s (s.calibrationReading st l r) := by
  unfold State.calibrationReading
  try dsimp only
  repeat' split
  all_goals simp

@[simp] theorem only_calibrationReading (ks : List Block) (s t : State) (st : Station) (l r : Reading)
    (h : [.probes, .axes, .notices] ⊆ ks) :
    Only ks s (t.calibrationReading st l r) ↔ Only ks s t := (t.calibrationReading_only st l r).iff h

theorem State.setUpSweep_only (s : State) (st : Station) (first last : Nat) (mode : SweepMode) :
    Only [.capture, .axes, .notices] s (s.setUpSweep st first last mode) := by
  unfold State.setUpSweep
  try dsimp only
  repeat' split
  all_goals simp

@[simp] theorem only_setUpSweep (ks : List Block) (s t : State) (st : Station) (first last : Nat) (mode : SweepMode)
    (h : [.capture, .axes, .notices] ⊆ ks) :
    Only ks s (t.setUpSweep st first last mode) ↔ Only ks s t := (t.setUpSweep_only st first last mode).iff h

theorem State.abandonPaused_only (s : State) (st : Station) :
    Only [.capture, .axes, .notices] s (s.abandonPaused st) := by
  unfold State.abandonPaused
  try dsimp only
  repeat' split
  all_goals simp

@[simp] theorem only_abandonPaused (ks : List Block) (s t : State) (st : Station)
    (h : [.capture, .axes, .notices] ⊆ ks) :
    Only ks s (t.abandonPaused st) ↔ Only ks s t := (t.abandonPaused_only st).iff h

theorem State.sweep_only (s : State) (x : SweepParams) :
    Only [.capture, .axes, .context, .notices] s (s.sweep x).state := by
  unfold State.sweep
  try dsimp only
  repeat' split
  all_goals simp

@[simp] theorem only_sweep (ks : List Block) (s t : State) (x : SweepParams)
    (h : [.capture, .axes, .context, .notices] ⊆ ks) :
    Only ks s (t.sweep x).state ↔ Only ks s t := (t.sweep_only x).iff h

theorem State.sweepContinue_only (s : State) (st : Station) :
    Only [.capture, .axes, .context, .notices] s (s.sweepContinue st).state := by
  unfold State.sweepContinue
  try dsimp only
  repeat' split
  all_goals simp

@[simp] theorem only_sweepContinue (ks : List Block) (s t : State) (st : Station)
    (h : [.capture, .axes, .context, .notices] ⊆ ks) :
    Only ks s (t.sweepContinue st).state ↔ Only ks s t := (t.sweepContinue_only st).iff h

theorem State.sweepStop_only (s : State) (st : Station) :
    Only [.lift, .level, .stations, .axes, .capture, .notices, .context] s (s.sweepStop st).state := by
  unfold State.sweepStop
  try dsimp only
  repeat' split
  all_goals simp

@[simp] theorem only_sweepStop (ks : List Block) (s t : State) (st : Station)
    (h : [.lift, .level, .stations, .axes, .capture, .notices, .context] ⊆ ks) :
    Only ks s (t.sweepStop st).state ↔ Only ks s t := (t.sweepStop_only st).iff h

theorem State.readProfile_only (s : State) (x : ReadProfileParams) :
    Only [.context] s (s.readProfile x).state := by
  unfold State.readProfile
  try dsimp only
  simp

@[simp] theorem only_readProfile (ks : List Block) (s t : State) (x : ReadProfileParams) (h : [.context] ⊆ ks) :
    Only ks s (t.readProfile x).state ↔ Only ks s t := (t.readProfile_only x).iff h

theorem State.putAngle_only (s : State) (st : Station) (angle : Nat) :
    Only [.capture] s (s.putAngle st angle) :=
  ⟨rfl, fun b hb => by cases b <;> first | rfl | exact absurd (by decide) hb⟩

@[simp] theorem only_putAngle (ks : List Block) (s t : State) (st : Station) (angle : Nat)
    (h : [.capture] ⊆ ks) :
    Only ks s (t.putAngle st angle) ↔ Only ks s t := (t.putAngle_only st angle).iff h

theorem State.awaitPosition_only (s : State) (st : Station) (w : Sweep) :
    Only [.capture, .axes] s (s.awaitPosition st w) := by
  unfold State.awaitPosition
  try dsimp only
  simp

@[simp] theorem only_awaitPosition (ks : List Block) (s t : State) (st : Station) (w : Sweep)
    (h : [.capture, .axes] ⊆ ks) :
    Only ks s (t.awaitPosition st w) ↔ Only ks s t := (t.awaitPosition_only st w).iff h

theorem State.rollerArrives_only (s : State) (st : Station) (angle : Nat) :
    Only [.capture, .axes] s (s.rollerArrives st angle) := by
  unfold State.rollerArrives
  try dsimp only
  repeat' split
  all_goals simp

@[simp] theorem only_rollerArrives (ks : List Block) (s t : State) (st : Station) (angle : Nat)
    (h : [.capture, .axes] ⊆ ks) :
    Only ks s (t.rollerArrives st angle) ↔ Only ks s t := (t.rollerArrives_only st angle).iff h

theorem State.carriageArrives_only (s : State) (st : Station) : Only [.capture] s (s.carriageArrives st) := by
  unfold State.carriageArrives
  try dsimp only
  repeat' split
  all_goals simp

@[simp] theorem only_carriageArrives (ks : List Block) (s t : State) (st : Station) (h : [.capture] ⊆ ks) :
    Only ks s (t.carriageArrives st) ↔ Only ks s t := (t.carriageArrives_only st).iff h

theorem State.writePair_only (s : State) (st : Station) (angular lateral : Nat) (x : Pair Sample) :
    Only [.capture] s (s.writePair st angular lateral x) :=
  ⟨rfl, fun b hb => by cases b <;> first | rfl | exact absurd (by decide) hb⟩

@[simp] theorem only_writePair (ks : List Block) (s t : State) (st : Station) (angular lateral : Nat) (x : Pair Sample)
    (h : [.capture] ⊆ ks) :
    Only ks s (t.writePair st angular lateral x) ↔ Only ks s t := (t.writePair_only st angular lateral x).iff h

theorem State.finishSweep_only (s : State) (st : Station) (w : Sweep) :
    Only [.lift, .level, .stations, .axes, .capture, .notices] s (s.finishSweep st w) := by
  unfold State.finishSweep
  try dsimp only
  simp

@[simp] theorem only_finishSweep (ks : List Block) (s t : State) (st : Station) (w : Sweep)
    (h : [.lift, .level, .stations, .axes, .capture, .notices] ⊆ ks) :
    Only ks s (t.finishSweep st w) ↔ Only ks s t := (t.finishSweep_only st w).iff h

theorem State.advance_only (s : State) (st : Station) (w : Sweep) (r : SweepRun) :
    Only [.lift, .level, .stations, .axes, .capture, .notices] s (s.advance st w r) := by
  unfold State.advance
  try dsimp only
  repeat' split
  all_goals simp

@[simp] theorem only_advance (ks : List Block) (s t : State) (st : Station) (w : Sweep) (r : SweepRun)
    (h : [.lift, .level, .stations, .axes, .capture, .notices] ⊆ ks) :
    Only ks s (t.advance st w r) ↔ Only ks s t := (t.advance_only st w r).iff h

theorem State.discardAnswer_only (s : State) (st : Station) : Only [.capture] s (s.discardAnswer st) := by
  unfold State.discardAnswer
  try dsimp only
  repeat' split
  all_goals simp

@[simp] theorem only_discardAnswer (ks : List Block) (s t : State) (st : Station) (h : [.capture] ⊆ ks) :
    Only ks s (t.discardAnswer st) ↔ Only ks s t := (t.discardAnswer_only st).iff h

theorem State.takeSample_only (s : State) (st : Station) (l r : Reading) :
    Only [.lift, .level, .stations, .axes, .capture, .notices] s (s.takeSample st l r) := by
  unfold State.takeSample
  try dsimp only
  repeat' split
  all_goals simp

@[simp] theorem only_takeSample (ks : List Block) (s t : State) (st : Station) (l r : Reading)
    (h : [.lift, .level, .stations, .axes, .capture, .notices] ⊆ ks) :
    Only ks s (t.takeSample st l r) ↔ Only ks s t := (t.takeSample_only st l r).iff h

theorem State.sampleAnswer_only (s : State) (st : Station) (l r : Reading) :
    Only [.lift, .level, .stations, .axes, .capture, .notices] s (s.sampleAnswer st l r) := by
  unfold State.sampleAnswer
  try dsimp only
  repeat' split
  all_goals simp

@[simp] theorem only_sampleAnswer (ks : List Block) (s t : State) (st : Station) (l r : Reading)
    (h : [.lift, .level, .stations, .axes, .capture, .notices] ⊆ ks) :
    Only ks s (t.sampleAnswer st l r) ↔ Only ks s t := (t.sampleAnswer_only st l r).iff h

theorem State.makePlan_only (s : State) (source : PlanSource) (st : Station) (form : CutTable → Int → Except Code (List Int)) :
    Only [.plans, .context, .notices] s (s.makePlan source st form).state := by
  unfold State.makePlan
  try dsimp only
  repeat' split
  all_goals simp

@[simp] theorem only_makePlan (ks : List Block) (s t : State) (source : PlanSource) (st : Station) (form : CutTable → Int → Except Code (List Int))
    (h : [.plans, .context, .notices] ⊆ ks) :
    Only ks s (t.makePlan source st form).state ↔ Only ks s t := (t.makePlan_only source st form).iff h

theorem State.planAuto_only (s : State) (st : Station) :
    Only [.plans, .context, .notices] s (s.planAuto st).state := by
  unfold State.planAuto
  try dsimp only
  simp

@[simp] theorem only_planAuto (ks : List Block) (s t : State) (st : Station)
    (h : [.plans, .context, .notices] ⊆ ks) :
    Only ks s (t.planAuto st).state ↔ Only ks s t := (t.planAuto_only st).iff h

theorem State.planPasses_only (s : State) (x : Station × List Int) :
    Only [.plans, .context, .notices] s (s.planPasses x).state := by
  unfold State.planPasses
  try dsimp only
  simp

@[simp] theorem only_planPasses (ks : List Block) (s t : State) (x : Station × List Int)
    (h : [.plans, .context, .notices] ⊆ ks) :
    Only ks s (t.planPasses x).state ↔ Only ks s t := (t.planPasses_only x).iff h

theorem State.startCut_only (s : State) (st : Station) (i : Ix) (p : Plan) :
    Only [.plans, .stations, .context, .store, .axes, .notices] s (s.startCut st i p) := by
  unfold State.startCut
  try dsimp only
  simp

@[simp] theorem only_startCut (ks : List Block) (s t : State) (st : Station) (i : Ix) (p : Plan)
    (h : [.plans, .stations, .context, .store, .axes, .notices] ⊆ ks) :
    Only ks s (t.startCut st i p) ↔ Only ks s t := (t.startCut_only st i p).iff h

theorem State.cutStart_only (s : State) (x : Station × Bool) :
    Only [.plans, .stations, .context, .store, .axes, .notices] s (s.cutStart x).state := by
  unfold State.cutStart
  try dsimp only
  repeat' split
  all_goals simp

@[simp] theorem only_cutStart (ks : List Block) (s t : State) (x : Station × Bool)
    (h : [.plans, .stations, .context, .store, .axes, .notices] ⊆ ks) :
    Only ks s (t.cutStart x).state ↔ Only ks s t := (t.cutStart_only x).iff h

theorem State.feedHold_only (s : State) (st : Station) :
    Only [.stations, .axes, .context, .notices] s (s.feedHold st).state := by
  unfold State.feedHold
  try dsimp only
  repeat' split
  all_goals simp

@[simp] theorem only_feedHold (ks : List Block) (s t : State) (st : Station)
    (h : [.stations, .axes, .context, .notices] ⊆ ks) :
    Only ks s (t.feedHold st).state ↔ Only ks s t := (t.feedHold_only st).iff h

theorem State.resumeCut_only (s : State) (st : Station) :
    Only [.stations, .axes, .context, .notices] s (s.resumeCut st).state := by
  unfold State.resumeCut
  try dsimp only
  repeat' split
  all_goals simp

@[simp] theorem only_resumeCut (ks : List Block) (s t : State) (st : Station)
    (h : [.stations, .axes, .context, .notices] ⊆ ks) :
    Only ks s (t.resumeCut st).state ↔ Only ks s t := (t.resumeCut_only st).iff h

theorem State.cutAbort_only (s : State) (st : Station) :
    Only [.lift, .level, .stations, .axes, .context, .store, .plans, .notices] s (s.cutAbort st).state := by
  unfold State.cutAbort
  try dsimp only
  repeat' split
  all_goals simp

@[simp] theorem only_cutAbort (ks : List Block) (s t : State) (st : Station)
    (h : [.lift, .level, .stations, .axes, .context, .store, .plans, .notices] ⊆ ks) :
    Only ks s (t.cutAbort st).state ↔ Only ks s t := (t.cutAbort_only st).iff h

theorem State.reportTool_only (s : State) (st : Station) (lateral radius : Int) :
    Only [.stations, .notices] s (s.reportTool st lateral radius) := by
  unfold State.reportTool
  try dsimp only
  simp

@[simp] theorem only_reportTool (ks : List Block) (s t : State) (st : Station) (lateral radius : Int)
    (h : [.stations, .notices] ⊆ ks) :
    Only ks s (t.reportTool st lateral radius) ↔ Only ks s t := (t.reportTool_only st lateral radius).iff h

theorem State.driveFeed_only (s : State) (st : Station) : Only [.axes] s (s.driveFeed st) := by
  unfold State.driveFeed
  try dsimp only
  repeat' split
  all_goals simp

@[simp] theorem only_driveFeed (ks : List Block) (s t : State) (st : Station) (h : [.axes] ⊆ ks) :
    Only ks s (t.driveFeed st) ↔ Only ks s t := (t.driveFeed_only st).iff h

theorem State.approachArrives_only (s : State) (st : Station) :
    Only [.stations, .axes, .notices] s (s.approachArrives st) := by
  unfold State.approachArrives
  try dsimp only
  repeat' split
  all_goals simp

@[simp] theorem only_approachArrives (ks : List Block) (s t : State) (st : Station)
    (h : [.stations, .axes, .notices] ⊆ ks) :
    Only ks s (t.approachArrives st) ↔ Only ks s t := (t.approachArrives_only st).iff h

theorem State.backoffArrives_only (s : State) (st : Station) :
    Only [.lift, .level, .stations, .axes, .notices] s (s.backoffArrives st) := by
  unfold State.backoffArrives
  try dsimp only
  repeat' split
  all_goals simp

@[simp] theorem only_backoffArrives (ks : List Block) (s t : State) (st : Station)
    (h : [.lift, .level, .stations, .axes, .notices] ⊆ ks) :
    Only ks s (t.backoffArrives st) ↔ Only ks s t := (t.backoffArrives_only st).iff h

theorem State.endPass_only (s : State) (st : Station) :
    Only [.lift, .level, .stations, .axes, .context, .store, .plans, .notices] s (s.endPass st) := by
  unfold State.endPass
  try dsimp only
  repeat' split
  all_goals simp

@[simp] theorem only_endPass (ks : List Block) (s t : State) (st : Station)
    (h : [.lift, .level, .stations, .axes, .context, .store, .plans, .notices] ⊆ ks) :
    Only ks s (t.endPass st) ↔ Only ks s t := (t.endPass_only st).iff h

theorem State.pulse_only (s : State) (st : Station) :
    Only [.lift, .level, .stations, .axes, .context, .store, .plans, .notices] s (s.pulse st) := by
  unfold State.pulse
  try dsimp only
  repeat' split
  all_goals simp

@[simp] theorem only_pulse (ks : List Block) (s t : State) (st : Station)
    (h : [.lift, .level, .stations, .axes, .context, .store, .plans, .notices] ⊆ ks) :
    Only ks s (t.pulse st) ↔ Only ks s t := (t.pulse_only st).iff h

theorem State.readMeasurement_only (s : State) (st : Station) :
    Only [.context] s (s.readMeasurement st).state := by
  unfold State.readMeasurement
  try dsimp only
  repeat' split
  all_goals simp

@[simp] theorem only_readMeasurement (ks : List Block) (s t : State) (st : Station) (h : [.context] ⊆ ks) :
    Only ks s (t.readMeasurement st).state ↔ Only ks s t := (t.readMeasurement_only st).iff h

theorem State.setPit_only (s : State) (x : Pit) : Only [.setup] s (s.setPit x).state := by
  unfold State.setPit
  try dsimp only
  repeat' split
  all_goals simp

@[simp] theorem only_setPit (ks : List Block) (s t : State) (x : Pit) (h : [.setup] ⊆ ks) :
    Only ks s (t.setPit x).state ↔ Only ks s t := (t.setPit_only x).iff h

theorem State.setCut_only (s : State) (x : CutTable) :
    Only [.setup, .context, .plans, .notices] s (s.setCut x).state := by
  unfold State.setCut
  try dsimp only
  repeat' split
  all_goals simp

@[simp] theorem only_setCut (ks : List Block) (s t : State) (x : CutTable)
    (h : [.setup, .context, .plans, .notices] ⊆ ks) :
    Only ks s (t.setCut x).state ↔ Only ks s t := (t.setCut_only x).iff h

theorem State.putProfile_only (s : State) (i : Ix) (p : Profile) : Only [.setup] s (s.putProfile i p) :=
  ⟨rfl, fun b hb => by cases b <;> first | rfl | exact absurd (by decide) hb⟩

@[simp] theorem only_putProfile (ks : List Block) (s t : State) (i : Ix) (p : Profile) (h : [.setup] ⊆ ks) :
    Only ks s (t.putProfile i p) ↔ Only ks s t := (t.putProfile_only i p).iff h

theorem State.profileBegin_only (s : State) (x : ProfileParams) : Only [.setup] s (s.profileBegin x).state := by
  unfold State.profileBegin
  try dsimp only
  repeat' split
  all_goals simp

@[simp] theorem only_profileBegin (ks : List Block) (s t : State) (x : ProfileParams) (h : [.setup] ⊆ ks) :
    Only ks s (t.profileBegin x).state ↔ Only ks s t := (t.profileBegin_only x).iff h

theorem State.profileResume_only (s : State) (n : Nat) : Only [.setup] s (s.profileResume n).state := by
  unfold State.profileResume
  try dsimp only
  repeat' split
  all_goals simp

@[simp] theorem only_profileResume (ks : List Block) (s t : State) (n : Nat) (h : [.setup] ⊆ ks) :
    Only ks s (t.profileResume n).state ↔ Only ks s t := (t.profileResume_only n).iff h

theorem State.profileData_only (s : State) (x : Nat × List Int) : Only [.setup] s (s.profileData x).state := by
  unfold State.profileData
  try dsimp only
  repeat' split
  all_goals simp

@[simp] theorem only_profileData (ks : List Block) (s t : State) (x : Nat × List Int) (h : [.setup] ⊆ ks) :
    Only ks s (t.profileData x).state ↔ Only ks s t := (t.profileData_only x).iff h

theorem State.enqueueChange_only (s : State) (n : Nat) (r : Request) :
    Only [.store, .context] s (s.enqueueChange n r) := by
  unfold State.enqueueChange
  try dsimp only
  simp

@[simp] theorem only_enqueueChange (ks : List Block) (s t : State) (n : Nat) (r : Request)
    (h : [.store, .context] ⊆ ks) :
    Only ks s (t.enqueueChange n r) ↔ Only ks s t := (t.enqueueChange_only n r).iff h

theorem State.enrol_only (s : State) (tag : Byte) (x : EnrolParams) :
    Only [.store, .context] s (s.enrol tag x).state := by
  unfold State.enrol
  try dsimp only
  repeat' split
  all_goals simp

@[simp] theorem only_enrol (ks : List Block) (s t : State) (tag : Byte) (x : EnrolParams)
    (h : [.store, .context] ⊆ ks) :
    Only ks s (t.enrol tag x).state ↔ Only ks s t := (t.enrol_only tag x).iff h

theorem State.amend_only (s : State) (tag : Byte) (x : AmendParams) :
    Only [.store, .context] s (s.amend tag x).state := by
  unfold State.amend
  try dsimp only
  repeat' split
  all_goals simp

@[simp] theorem only_amend (ks : List Block) (s t : State) (tag : Byte) (x : AmendParams)
    (h : [.store, .context] ⊆ ks) :
    Only ks s (t.amend tag x).state ↔ Only ks s t := (t.amend_only tag x).iff h

theorem State.retire_only (s : State) (tag : Byte) (n : Nat) :
    Only [.store, .context] s (s.retire tag n).state := by
  unfold State.retire
  try dsimp only
  repeat' split
  all_goals simp

@[simp] theorem only_retire (ks : List Block) (s t : State) (tag : Byte) (n : Nat)
    (h : [.store, .context] ⊆ ks) :
    Only ks s (t.retire tag n).state ↔ Only ks s t := (t.retire_only tag n).iff h

theorem State.readRecord_only (s : State) (tag : Byte) (x : Nat × RecordPart) :
    Only [.store, .context] s (s.readRecord tag x).state := by
  unfold State.readRecord
  try dsimp only
  repeat' split
  all_goals simp

@[simp] theorem only_readRecord (ks : List Block) (s t : State) (tag : Byte) (x : Nat × RecordPart)
    (h : [.store, .context] ⊆ ks) :
    Only ks s (t.readRecord tag x).state ↔ Only ks s t := (t.readRecord_only tag x).iff h

theorem State.completeRead_only (s : State) (n : Nat) (tag : Byte) :
    Only [.store, .notices] s (s.completeRead n tag) := by
  unfold State.completeRead
  try dsimp only
  repeat' split
  all_goals simp

@[simp] theorem only_completeRead (ks : List Block) (s t : State) (n : Nat) (tag : Byte)
    (h : [.store, .notices] ⊆ ks) :
    Only ks s (t.completeRead n tag) ↔ Only ks s t := (t.completeRead_only n tag).iff h

theorem State.completeEnrol_only (s : State) (n : Nat) (r : Record) (k : Nat) (tag : Byte) :
    Only [.store, .notices] s (s.completeEnrol n r k tag) := by
  unfold State.completeEnrol
  try dsimp only
  simp

@[simp] theorem only_completeEnrol (ks : List Block) (s t : State) (n : Nat) (r : Record) (k : Nat) (tag : Byte)
    (h : [.store, .notices] ⊆ ks) :
    Only ks s (t.completeEnrol n r k tag) ↔ Only ks s t := (t.completeEnrol_only n r k tag).iff h

theorem State.completeAmend_only (s : State) (n : Nat) (c : Changes) (tag : Byte) :
    Only [.store, .notices] s (s.completeAmend n c tag) := by
  unfold State.completeAmend
  try dsimp only
  repeat' split
  all_goals simp

@[simp] theorem only_completeAmend (ks : List Block) (s t : State) (n : Nat) (c : Changes) (tag : Byte)
    (h : [.store, .notices] ⊆ ks) :
    Only ks s (t.completeAmend n c tag) ↔ Only ks s t := (t.completeAmend_only n c tag).iff h

theorem State.completeRetire_only (s : State) (n : Nat) (tag : Byte) :
    Only [.store, .notices] s (s.completeRetire n tag) := by
  unfold State.completeRetire
  try dsimp only
  repeat' split
  all_goals simp

@[simp] theorem only_completeRetire (ks : List Block) (s t : State) (n : Nat) (tag : Byte)
    (h : [.store, .notices] ⊆ ks) :
    Only ks s (t.completeRetire n tag) ↔ Only ks s t := (t.completeRetire_only n tag).iff h

theorem State.beginLoad_only (s : State) (i : Ix) (x : OpenParams) :
    Only [.store, .context] s (s.beginLoad i x) := by
  unfold State.beginLoad
  try dsimp only
  simp

@[simp] theorem only_beginLoad (ks : List Block) (s t : State) (i : Ix) (x : OpenParams)
    (h : [.store, .context] ⊆ ks) :
    Only ks s (t.beginLoad i x) ↔ Only ks s t := (t.beginLoad_only i x).iff h

theorem State.beginEviction_only (s : State) (i : Ix) (n : Nat) (x : OpenParams) :
    Only [.store, .context] s (s.beginEviction i n x) := by
  unfold State.beginEviction
  try dsimp only
  simp

@[simp] theorem only_beginEviction (ks : List Block) (s t : State) (i : Ix) (n : Nat) (x : OpenParams)
    (h : [.store, .context] ⊆ ks) :
    Only ks s (t.beginEviction i n x) ↔ Only ks s t := (t.beginEviction_only i n x).iff h

theorem State.openInto_only (s : State) (x : OpenParams) (code : Code) :
    Only [.store, .context] s (s.openInto x code).state := by
  unfold State.openInto
  try dsimp only
  repeat' split
  all_goals simp

@[simp] theorem only_openInto (ks : List Block) (s t : State) (x : OpenParams) (code : Code)
    (h : [.store, .context] ⊆ ks) :
    Only ks s (t.openInto x code).state ↔ Only ks s t := (t.openInto_only x code).iff h

theorem State.openRecord_only (s : State) (x : OpenParams) :
    Only [.store, .context] s (s.openRecord x).state := by
  unfold State.openRecord
  try dsimp only
  repeat' split
  all_goals simp

@[simp] theorem only_openRecord (ks : List Block) (s t : State) (x : OpenParams) (h : [.store, .context] ⊆ ks) :
    Only ks s (t.openRecord x).state ↔ Only ks s t := (t.openRecord_only x).iff h

theorem State.closeRecord_only (s : State) (n : Nat) : Only [.store, .context] s (s.closeRecord n).state := by
  unfold State.closeRecord
  try dsimp only
  repeat' split
  all_goals simp

@[simp] theorem only_closeRecord (ks : List Block) (s t : State) (n : Nat) (h : [.store, .context] ⊆ ks) :
    Only ks s (t.closeRecord n).state ↔ Only ks s t := (t.closeRecord_only n).iff h

theorem State.bindStation_only (s : State) (x : Nat × Station) :
    Only [.context, .capture, .engine, .notices] s (s.bindStation x).state := by
  unfold State.bindStation
  try dsimp only
  repeat' split
  all_goals simp

@[simp] theorem only_bindStation (ks : List Block) (s t : State) (x : Nat × Station)
    (h : [.context, .capture, .engine, .notices] ⊆ ks) :
    Only ks s (t.bindStation x).state ↔ Only ks s t := (t.bindStation_only x).iff h

theorem State.unbindStation_only (s : State) (st : Station) :
    Only [.context, .plans, .notices] s (s.unbindStation st).state := by
  unfold State.unbindStation
  try dsimp only
  repeat' split
  all_goals simp

@[simp] theorem only_unbindStation (ks : List Block) (s t : State) (st : Station)
    (h : [.context, .plans, .notices] ⊆ ks) :
    Only ks s (t.unbindStation st).state ↔ Only ks s t := (t.unbindStation_only st).iff h

theorem State.logMeasurement_only (s : State) (st : Station) :
    Only [.context] s (s.logMeasurement st).state := by
  unfold State.logMeasurement
  try dsimp only
  repeat' split
  all_goals simp

@[simp] theorem only_logMeasurement (ks : List Block) (s t : State) (st : Station) (h : [.context] ⊆ ks) :
    Only ks s (t.logMeasurement st).state ↔ Only ks s t := (t.logMeasurement_only st).iff h

theorem State.loaded_only (s : State) (n : Nat) (i : Ix) (r : Record) :
    Only [.context, .capture, .engine, .notices] s (s.loaded n i r) := by
  unfold State.loaded
  try dsimp only
  repeat' split
  all_goals simp

@[simp] theorem only_loaded (ks : List Block) (s t : State) (n : Nat) (i : Ix) (r : Record)
    (h : [.context, .capture, .engine, .notices] ⊆ ks) :
    Only ks s (t.loaded n i r) ↔ Only ks s t := (t.loaded_only n i r).iff h

theorem State.completeLoad_only (s : State) (n : Nat) (i : Ix) :
    Only [.store, .context, .capture, .engine, .notices] s (s.completeLoad n i) := by
  unfold State.completeLoad
  try dsimp only
  repeat' split
  all_goals simp

@[simp] theorem only_completeLoad (ks : List Block) (s t : State) (n : Nat) (i : Ix)
    (h : [.store, .context, .capture, .engine, .notices] ⊆ ks) :
    Only ks s (t.completeLoad n i) ↔ Only ks s t := (t.completeLoad_only n i).iff h

theorem State.endWriteBack_only (s : State) (n : Nat) (i : Ix) :
    Only [.context, .notices] s (s.endWriteBack n i) := by
  unfold State.endWriteBack
  try dsimp only
  repeat' split
  all_goals simp

@[simp] theorem only_endWriteBack (ks : List Block) (s t : State) (n : Nat) (i : Ix)
    (h : [.context, .notices] ⊆ ks) :
    Only ks s (t.endWriteBack n i) ↔ Only ks s t := (t.endWriteBack_only n i).iff h

theorem State.completeWrite_only (s : State) (n : Nat) (i : Ix) (content : Option Record) :
    Only [.store, .context, .notices] s (s.completeWrite n i content) := by
  unfold State.completeWrite
  try dsimp only
  repeat' split
  all_goals simp

@[simp] theorem only_completeWrite (ks : List Block) (s t : State) (n : Nat) (i : Ix) (content : Option Record)
    (h : [.store, .context, .notices] ⊆ ks) :
    Only ks s (t.completeWrite n i content) ↔ Only ks s t := (t.completeWrite_only n i content).iff h

theorem State.status_only (s : State) (n : Nat) : Only [] s (s.status n).state := by
  unfold State.status
  try dsimp only
  repeat' split
  all_goals simp

@[simp] theorem only_status (ks : List Block) (s t : State) (n : Nat) (h : [] ⊆ ks) :
    Only ks s (t.status n).state ↔ Only ks s t := (t.status_only n).iff h

theorem State.setLink_only (s : State) (x : Nat × List Bool) : Only [.link, .notices] s (s.setLink x).state :=
  ⟨rfl, fun b hb => by cases b <;> first | rfl | exact absurd (by decide) hb⟩

@[simp] theorem only_setLink (ks : List Block) (s t : State) (x : Nat × List Bool)
    (h : [.link, .notices] ⊆ ks) :
    Only ks s (t.setLink x).state ↔ Only ks s t := (t.setLink_only x).iff h

theorem State.silenceEffects_only (s : State) :
    Only [.lift, .level, .stations, .axes, .capture, .context, .engine, .notices] s (s.silenceEffects) := by
  unfold State.silenceEffects
  try dsimp only
  simp

@[simp] theorem only_silenceEffects (ks : List Block) (s t : State)
    (h : [.lift, .level, .stations, .axes, .capture, .context, .engine, .notices] ⊆ ks) :
    Only ks s (t.silenceEffects) ↔ Only ks s t := (t.silenceEffects_only).iff h

theorem State.silenceExpires_only (s : State) :
    Only [.lift, .level, .stations, .axes, .capture, .context, .engine, .notices, .link] s (s.silenceExpires) := by
  unfold State.silenceExpires
  try dsimp only
  repeat' split
  all_goals simp

@[simp] theorem only_silenceExpires (ks : List Block) (s t : State)
    (h : [.lift, .level, .stations, .axes, .capture, .context, .engine, .notices, .link] ⊆ ks) :
    Only ks s (t.silenceExpires) ↔ Only ks s t := (t.silenceExpires_only).iff h

theorem State.startReply_only (s : State) : Only [.link] s (s.startReply) := by
  unfold State.startReply
  try dsimp only
  repeat' split
  all_goals simp

@[simp] theorem only_startReply (ks : List Block) (s t : State) (h : [.link] ⊆ ks) :
    Only ks s (t.startReply) ↔ Only ks s t := (t.startReply_only).iff h

theorem State.receiveGapOf_only (s : State) : Only [.link] s (s.receiveGapOf) := by
  unfold State.receiveGapOf
  try dsimp only
  repeat' split
  all_goals simp

@[simp] theorem only_receiveGapOf (ks : List Block) (s t : State) (h : [.link] ⊆ ks) :
    Only ks s (t.receiveGapOf) ↔ Only ks s t := (t.receiveGapOf_only).iff h

theorem State.receiveByte_only (s : State) (b : Byte) : Only [.link] s (s.receiveByte b) := by
  unfold State.receiveByte
  try dsimp only
  repeat' split
  all_goals simp

@[simp] theorem only_receiveByte (ks : List Block) (s t : State) (b : Byte) (h : [.link] ⊆ ks) :
    Only ks s (t.receiveByte b) ↔ Only ks s t := (t.receiveByte_only b).iff h

theorem State.endFrame_only (s : State) : Only [.link] s (s.endFrame) := by
  unfold State.endFrame
  try dsimp only
  repeat' split
  all_goals simp

@[simp] theorem only_endFrame (ks : List Block) (s t : State) (h : [.link] ⊆ ks) :
    Only ks s (t.endFrame) ↔ Only ks s t := (t.endFrame_only).iff h

theorem State.breakEdge_only (s : State) (on : Bool) : Only [.link, .notices] s (s.breakEdge on) := by
  unfold State.breakEdge
  try dsimp only
  simp

@[simp] theorem only_breakEdge (ks : List Block) (s t : State) (on : Bool) (h : [.link, .notices] ⊆ ks) :
    Only ks s (t.breakEdge on) ↔ Only ks s t := (t.breakEdge_only on).iff h

theorem State.snapshotTaken_only (s : State) (src : Source) :
    Only [.inputs, .context, .store, .link] s (s.snapshotTaken src) :=
  ⟨by cases src <;> rfl, fun b hb => by
    cases src <;> cases b <;> first | rfl | exact absurd (by decide) hb⟩

@[simp] theorem only_snapshotTaken (ks : List Block) (s t : State) (src : Source)
    (h : [.inputs, .context, .store, .link] ⊆ ks) :
    Only ks s (t.snapshotTaken src) ↔ Only ks s t := (t.snapshotTaken_only src).iff h

theorem State.startNotice_only (s : State) :
    Only [.inputs, .context, .store, .link, .notices] s s.startNotice := by
  unfold State.startNotice
  split
  · simp
  · next src _ =>
    refine (s.snapshotTaken_only src).step (m := [.link, .notices]) ?_ (by decide) (by decide)
    exact ⟨rfl, fun b hb => by cases b <;> first | rfl | exact absurd (by decide) hb⟩

@[simp] theorem only_startNotice (ks : List Block) (s t : State)
    (h : [.inputs, .context, .store, .link, .notices] ⊆ ks) :
    Only ks s (t.startNotice) ↔ Only ks s t := (t.startNotice_only).iff h

/-- A point that takes no part in synchronization is left as it is by it (R48). -/
theorem Lift.synchronize_left (l : Lift) (sync : Int) (m : Option (Four Bool)) (i : Ix)
    (h : (l.compared m).get i = false) : (l.synchronize sync m).points.get i = l.points.get i := by
  unfold Lift.synchronize Lift.syncPoints
  dsimp only
  repeat' split
  all_goals first | rfl | (cases i <;> simp_all [Four.get, Four.zipWith])

end Sys2Proof.Machine
end

