-- ==== Sys2Proof/Laws/Notices.lean ====
section
/-! SUPPORT. What the shared operations of the pit do to the LIFT notice source (R58, R76): a write of the lift tells
of a change and of nothing else, and no operation takes back what has been told. -/

namespace Sys2Proof.Machine

variable {s t u : State}

/-! ## Sources -/

theorem Notices.get_set_of_ne (n : Notices) {src other : Source} (v : SourceState) (h : other ≠ src) :
    (n.set src v).get other = n.get other := by
  cases src <;> cases other <;> first | rfl | exact absurd rfl h

theorem State.notify_get_self (s : State) (src : Source) :
    (s.notify src).notices.get src = (s.notices.get src).event := Notices.get_set_self _ _ _

theorem State.notify_get_of_ne (s : State) {src other : Source} (h : other ≠ src) :
    (s.notify src).notices.get other = s.notices.get other := Notices.get_set_of_ne _ _ h

@[simp] theorem State.notify_station_get_lift (s : State) (st : Station) :
    (s.notify (.station st)).notices.get .lift = s.notices.get .lift := by cases st <;> rfl

@[simp] theorem State.notify_capture_get_lift (s : State) (st : Station) :
    (s.notify (.capture st)).notices.get .lift = s.notices.get .lift := by cases st <;> rfl

@[simp] theorem State.notify_lift_get_lift (s : State) :
    (s.notify .lift).notices.get .lift = (s.notices.get .lift).event := rfl

@[simp] theorem State.notify_interlock_get_lift (s : State) :
    (s.notify .interlock).notices.get .lift = s.notices.get .lift := rfl

/-! ## One write of the lift -/

/-- What LIFT tells of stands in the fields that `Lift.seen` and `Level.seen` gather (R58, R76). -/
theorem State.liftAsBefore_iff (s t : State) :
    s.liftAsBefore t ↔ t.lift.seen = s.lift.seen ∧ t.level.seen = s.level.seen := by
  simp only [State.liftAsBefore, Lift.seen, Level.seen, Prod.mk.injEq, and_assoc]
  refine and_congr_right fun _ => and_congr_right fun _ => and_congr_right fun _ => and_congr_right fun _ => ?_
  constructor
  · intro h
    rw [h]
  · intro h
    rw [Level.mk.injEq] at h
    obtain ⟨h1, -, h3, h4, h5, h6, h7, h8, h9, h10⟩ := h
    rw [← h1, ← h3, ← h4, ← h5, ← h6, ← h7, ← h8, ← h9, ← h10]

@[simp] theorem Lift.revalve_seen (l : Lift) (m : Option (Four Bool)) : (l.revalve m).seen = l.seen := rfl

theorem State.putLift_notices (s : State) (l : Lift) (v : Level) :
    (s.putLift l v).notices =
      if l.seen = s.lift.seen ∧ v.seen = s.level.seen then s.notices else (s.notify .lift).notices := by
  unfold State.putLift
  split <;> rfl

/-- A write of the Lift Group and Level Maintenance tells of its changes and of nothing else. -/
theorem State.putLift_tellsLift (s : State) (l : Lift) (v : Level) : s.tellsLift (s.putLift l v) := by
  unfold State.tellsLift
  rw [State.liftAsBefore_iff, State.putLift_lift, State.putLift_level, Lift.revalve_seen, State.putLift_notices]
  exact ⟨fun h => if_pos h, fun h => if_neg h⟩

/-- A change that has been told, alone, is told once more with what was told before it (R185). -/
theorem State.tellsLift_of_told (hn : t.notices = (s.notify .lift).notices) (h : ¬s.liftAsBefore t) :
    s.tellsLift t := ⟨fun k => absurd k h, fun _ => hn⟩

/-! ## What has been told stays told -/

/-- The LIFT source is in `t` as it was in `s`, or has taken events alone. -/
def State.liftKept (s t : State) : Prop :=
  t.notices.get .lift = s.notices.get .lift ∨ t.notices.get .lift = (s.notices.get .lift).event

theorem State.liftKept.refl (s : State) : s.liftKept s := .inl rfl

theorem State.liftKept_of_notices (h : t.notices = s.notices) : s.liftKept t := .inl (by rw [h])

theorem State.liftTold.kept (h : s.liftTold t) : s.liftKept t := .inr h

theorem State.liftTold.after (h : s.liftTold t) (k : t.liftKept u) : s.liftTold u := by
  rcases k with k | k <;> unfold State.liftTold at *
  · rw [k, h]
  · rw [k, h, SourceState.event_event]

theorem State.liftKept.told (h : s.liftKept t) (k : t.liftTold u) : s.liftTold u := by
  unfold State.liftTold at *
  rcases h with h | h
  · rw [k, h]
  · rw [k, h, SourceState.event_event]

theorem State.liftKept.trans (h : s.liftKept t) (k : t.liftKept u) : s.liftKept u := by
  rcases k with k | k
  · rcases h with h | h
    · exact .inl (k.trans h)
    · exact .inr (k.trans h)
  · exact .inr (h.told k)

theorem State.liftKept.ite {p : Prop} [Decidable p] (h : s.liftKept t) (k : s.liftKept u) :
    s.liftKept (if p then t else u) := by
  split <;> assumption

/-- A write of the lift that changes what LIFT tells of tells it. -/
theorem State.putLift_liftTold (s : State) (l : Lift) (v : Level)
    (h : l.seen ≠ s.lift.seen ∨ v.seen ≠ s.level.seen) : s.liftTold (s.putLift l v) := by
  unfold State.liftTold
  rw [State.putLift_notices, if_neg (by tauto)]
  rfl

theorem State.tellsLift.liftTold (h : s.tellsLift t) (k : ¬s.liftAsBefore t) : s.liftTold t := by
  unfold State.liftTold
  rw [h.2 k]
  rfl

theorem State.putLift_liftKept (s : State) (l : Lift) (v : Level) : s.liftKept (s.putLift l v) := by
  unfold State.liftKept
  rw [State.putLift_notices]
  split
  · exact .inl rfl
  · exact .inr rfl

/-- A change that leaves the notice table leaves the LIFT source. -/
theorem State.liftKept_of_only {l : List Block} (h : Only l s t) (hl : Block.notices ∉ l) : s.liftKept t :=
  State.liftKept_of_notices (h.2 .notices hl)

theorem State.putCut_liftKept (s : State) (st : Station) (x : CutStation) : s.liftKept (s.putCut st x) := by
  unfold State.putCut
  split
  · exact .inl rfl
  · exact .inl (State.notify_station_get_lift _ st)

theorem State.driveTool_liftKept (s : State) (st : Station) (d : ToolDemand) : s.liftKept (s.driveTool st d) := .inl rfl

theorem State.enterHolding_liftKept (s : State) (c : CutCause) (st : Station) : s.liftKept (s.enterHolding c st) := by
  unfold State.enterHolding
  dsimp only
  split
  · exact (s.putCut_liftKept st _).trans (State.driveTool_liftKept _ st _)
  · exact s.putCut_liftKept st _

theorem State.giveCause_liftKept (s : State) (c : CutCause) (st : Station) : s.liftKept (s.giveCause c st) := by
  unfold State.giveCause
  split
  · exact s.enterHolding_liftKept c st
  · exact s.enterHolding_liftKept c st
  · exact .ite (.refl s) (s.putCut_liftKept st _)
  · exact .ite (.refl s) (s.putCut_liftKept st _)
  · exact .refl s

theorem State.pauseSweep_liftKept (s : State) (c : PauseCause) (st : Station) : s.liftKept (s.pauseSweep c st) := by
  unfold State.pauseSweep
  refine .ite (.inl ?_) (.refl s)
  rw [State.notify_capture_get_lift]
  rfl

theorem State.abandonSweep_liftKept (s : State) (st : Station) : s.liftKept (s.abandonSweep st) := by
  unfold State.abandonSweep
  refine .ite (.inl ?_) (.refl s)
  rw [State.notify_capture_get_lift]
  rfl

theorem State.putPlan_liftKept (s : State) (st : Station) (p : Option Plan) : s.liftKept (s.putPlan st p) :=
  .inl (State.notify_station_get_lift _ st)

theorem State.treatCut_liftKept (s : State) (st : Station) : s.liftKept (s.treatCut st) := by
  have h : s.liftKept (s.rewriteBound st (s.cut st).treatEntry) :=
    State.liftKept_of_only (l := [.context, .store]) (by simp) (by decide)
  unfold State.treatCut State.removePlan
  exact h.trans (.ite (State.putPlan_liftKept _ st none) (.refl _))

theorem State.stopStation_liftKept (s : State) (st : Station) : s.liftKept (s.stopStation st) := by
  unfold State.stopStation
  dsimp only
  refine .ite (.refl s) ?_
  have h : s.liftKept
      (if ¬((s.cut st).state = .aborting ∧ (s.cut st).abortKind = .recovery) then s.treatCut st else s) :=
    .ite (s.treatCut_liftKept st) (.refl s)
  exact (h.trans (State.putCut_liftKept _ st _)).trans
    (State.liftKept_of_only ((State.driveTool_only _ st _).trans (State.driveRoller_only _ st _)) (by decide))

theorem State.leaveHeld_liftKept (s : State) (st : Station) : s.liftKept (s.leaveHeld st) := by
  unfold State.leaveHeld
  have h : s.liftKept (s.putCut st { s.cut st with state := .approach }) := s.putCut_liftKept st _
  refine .ite (h.trans ?_) (.refl s)
  exact State.liftKept_of_only ((State.driveRoller_only _ st _).trans (State.driveApproach_only _ st)) (by decide)

theorem State.removeLevel_liftKept (s : State) (st : Station) : s.liftKept (s.removeLevel st) :=
  (s.putCut_liftKept st _).trans (State.leaveHeld_liftKept _ st)

theorem State.endUrgent_liftKept (s : State) : s.liftKept s.endUrgent :=
  ((s.putLift_liftKept _ _).trans (State.removeLevel_liftKept _ .a)).trans (State.removeLevel_liftKept _ .b)

theorem State.completeRelevel_liftKept (s : State) (moved : Bool) : s.liftKept (s.completeRelevel moved) := by
  unfold State.completeRelevel
  dsimp only
  exact .ite ((s.putLift_liftKept _ _).trans (State.endUrgent_liftKept _)) (s.putLift_liftKept _ _)

theorem State.startRelevels_liftKept (n : Nat) (s : State) : s.liftKept (s.startRelevels n) := by
  induction n generalizing s with
  | zero => exact .refl s
  | succ n ih =>
    unfold State.startRelevels
    split
    · exact .refl s
    · exact .ite (.ite (s.putLift_liftKept _ _) ((s.completeRelevel_liftKept false).trans (ih _))) (.refl s)

theorem State.testStart_liftKept (s : State) : s.liftKept s.testStart := State.startRelevels_liftKept _ s

theorem State.testUrgent_liftKept (s : State) : s.liftKept s.testUrgent := by
  unfold State.testUrgent
  exact .ite
    (((((s.putLift_liftKept _ _).trans (State.giveCause_liftKept _ _ .a)).trans
      (State.giveCause_liftKept _ _ .b)).trans (State.pauseSweep_liftKept _ _ .a)).trans
      (State.pauseSweep_liftKept _ _ .b)) (.refl s)

/-- An entry to RAISED tells of the level epoch at least (R61, R63). -/
theorem State.enterRaised_liftTold (s : State) : s.liftTold s.enterRaised := by
  unfold State.enterRaised
  refine State.liftTold.after (.after (s.putLift_liftTold _ _ (.inr fun h => ?_)) (State.testUrgent_liftKept _))
    (State.testStart_liftKept _)
  have he : s.level.epoch + 1 = s.level.epoch := congrArg Level.epoch h
  exact absurd he (by bv_omega)

/-- The departure from RAISED takes nothing back that LIFT has told (R56). -/
theorem State.departRaised_liftKept (s : State) : s.liftKept s.departRaised := by
  have stale (u : State) : u.liftKept u.staleMeasurements.markDeparted :=
    State.liftKept_of_only (u.staleMeasurements_only.step (State.markDeparted_only _) (k := [.context, .engine])
      (by decide) (by decide)) (by decide)
  unfold State.departRaised
  exact (((((s.putLift_liftKept _ _).trans (State.giveCause_liftKept _ _ .a)).trans
    (State.giveCause_liftKept _ _ .b)).trans (stale _)).trans (State.pauseSweep_liftKept _ _ .a)).trans
    (State.pauseSweep_liftKept _ _ .b)

/-- An entry to HOLD tells of the lift state (R51, R58). -/
theorem State.enterHold_liftTold (s : State) (c : LiftCause) (h : s.lift.state ≠ .hold) : s.liftTold (s.enterHold c) := by
  have k (v : Level) : s.liftTold (s.putLift { (s.lift.stopped .hold) with holds := LiftCauses.empty.add c } v) :=
    s.putLift_liftTold _ v (by simp [Lift.seen, Lift.stopped, Ne.symm h])
  unfold State.enterHold
  dsimp only
  split
  · exact (k _).after (State.departRaised_liftKept _)
  · exact k _

/-- An entry to FAULT tells of the lift state (R51, R58). -/
theorem State.enterFault_liftTold (s : State) (c : FaultCause) (h : s.lift.state ≠ .fault) : s.liftTold (s.enterFault c) := by
  have k (v : Level) : s.liftTold (s.putLift { (s.lift.stopped .fault) with fault := some c } v) :=
    s.putLift_liftTold _ v (by simp [Lift.seen, Lift.stopped, Ne.symm h])
  unfold State.enterFault
  dsimp only
  split
  · exact (k _).after (State.departRaised_liftKept _)
  · exact k _

end Sys2Proof.Machine
end

