-- ==== Sys2Proof/Laws/PerInstr.lean ====
section
/-! SUPPORT. A law of the commands as syntax, with one lemma for each row: a well-formed command that is a frame
has a payload a frame can carry, and its kind is a command's code exactly when its row is not UNKNOWN_KIND. -/

namespace Sys2Proof.Laws.WellFormedOnTheLine

/-- What well-formedness says of the frame a command is (R177, R181). -/
def Statement (i : Instr) : Prop :=
  i.wellFormed = true → ∀ k t p, i.frame = some (k, t, p) →
    p.length ≤ 240 ∧ (k ∈ Machine.commandKinds ↔ i ≠ .unknownKind k t p)

/-- A row with a kind code of section 11.2. -/
theorem statement_of_command (i : Instr) (k t : Byte) (p : List Byte) (hf : i.frame = some (k, t, p))
    (hk : k ∈ Machine.commandKinds) (hi : ∀ k' t' p', i ≠ .unknownKind k' t' p') : Statement i := by
  intro hw k' t' p' h
  rw [hf] at h
  cases h
  refine ⟨?_, fun _ => hi _ _ _, fun _ => hk⟩
  simp only [Instr.wellFormed, hf, Bool.and_eq_true] at hw
  exact of_decide_eq_true hw.1

/-- A row that is no frame. -/
theorem statement_of_event (i : Instr) (hf : i.frame = none) : Statement i := by
  intro _ k t p h
  rw [hf] at h
  cases h

theorem status (tag : Byte) (payload : List Byte) : Statement (.status tag payload) :=
  statement_of_command _ _ tag payload rfl (by decide) nofun

theorem setLink (tag : Byte) (payload : List Byte) : Statement (.setLink tag payload) :=
  statement_of_command _ _ tag payload rfl (by decide) nofun

theorem setPit (tag : Byte) (payload : List Byte) : Statement (.setPit tag payload) :=
  statement_of_command _ _ tag payload rfl (by decide) nofun

theorem setCut (tag : Byte) (payload : List Byte) : Statement (.setCut tag payload) :=
  statement_of_command _ _ tag payload rfl (by decide) nofun

theorem profileBegin (tag : Byte) (payload : List Byte) : Statement (.profileBegin tag payload) :=
  statement_of_command _ _ tag payload rfl (by decide) nofun

theorem profileData (tag : Byte) (payload : List Byte) : Statement (.profileData tag payload) :=
  statement_of_command _ _ tag payload rfl (by decide) nofun

theorem profileResume (tag : Byte) (payload : List Byte) : Statement (.profileResume tag payload) :=
  statement_of_command _ _ tag payload rfl (by decide) nofun

theorem enrol (tag : Byte) (payload : List Byte) : Statement (.enrol tag payload) :=
  statement_of_command _ _ tag payload rfl (by decide) nofun

theorem amend (tag : Byte) (payload : List Byte) : Statement (.amend tag payload) :=
  statement_of_command _ _ tag payload rfl (by decide) nofun

theorem retire (tag : Byte) (payload : List Byte) : Statement (.retire tag payload) :=
  statement_of_command _ _ tag payload rfl (by decide) nofun

theorem readRecord (tag : Byte) (payload : List Byte) : Statement (.readRecord tag payload) :=
  statement_of_command _ _ tag payload rfl (by decide) nofun

theorem openRecord (tag : Byte) (payload : List Byte) : Statement (.openRecord tag payload) :=
  statement_of_command _ _ tag payload rfl (by decide) nofun

theorem closeRecord (tag : Byte) (payload : List Byte) : Statement (.closeRecord tag payload) :=
  statement_of_command _ _ tag payload rfl (by decide) nofun

theorem bind (tag : Byte) (payload : List Byte) : Statement (.bind tag payload) :=
  statement_of_command _ _ tag payload rfl (by decide) nofun

theorem unbind (tag : Byte) (payload : List Byte) : Statement (.unbind tag payload) :=
  statement_of_command _ _ tag payload rfl (by decide) nofun

theorem logMeasurement (tag : Byte) (payload : List Byte) : Statement (.logMeasurement tag payload) :=
  statement_of_command _ _ tag payload rfl (by decide) nofun

theorem raise (tag : Byte) (payload : List Byte) : Statement (.raise tag payload) :=
  statement_of_command _ _ tag payload rfl (by decide) nofun

theorem lower (tag : Byte) (payload : List Byte) : Statement (.lower tag payload) :=
  statement_of_command _ _ tag payload rfl (by decide) nofun

theorem liftStop (tag : Byte) (payload : List Byte) : Statement (.liftStop tag payload) :=
  statement_of_command _ _ tag payload rfl (by decide) nofun

theorem liftResume (tag : Byte) (payload : List Byte) : Statement (.liftResume tag payload) :=
  statement_of_command _ _ tag payload rfl (by decide) nofun

theorem faultClear (tag : Byte) (payload : List Byte) : Statement (.faultClear tag payload) :=
  statement_of_command _ _ tag payload rfl (by decide) nofun

theorem park (tag : Byte) (payload : List Byte) : Statement (.park tag payload) :=
  statement_of_command _ _ tag payload rfl (by decide) nofun

theorem unpark (tag : Byte) (payload : List Byte) : Statement (.unpark tag payload) :=
  statement_of_command _ _ tag payload rfl (by decide) nofun

theorem probeReference (tag : Byte) (payload : List Byte) : Statement (.probeReference tag payload) :=
  statement_of_command _ _ tag payload rfl (by decide) nofun

theorem calibrateOn (tag : Byte) (payload : List Byte) : Statement (.calibrateOn tag payload) :=
  statement_of_command _ _ tag payload rfl (by decide) nofun

theorem calibrateMeasure (tag : Byte) (payload : List Byte) : Statement (.calibrateMeasure tag payload) :=
  statement_of_command _ _ tag payload rfl (by decide) nofun

theorem calibrateOff (tag : Byte) (payload : List Byte) : Statement (.calibrateOff tag payload) :=
  statement_of_command _ _ tag payload rfl (by decide) nofun

theorem sweep (tag : Byte) (payload : List Byte) : Statement (.sweep tag payload) :=
  statement_of_command _ _ tag payload rfl (by decide) nofun

theorem sweepContinue (tag : Byte) (payload : List Byte) : Statement (.sweepContinue tag payload) :=
  statement_of_command _ _ tag payload rfl (by decide) nofun

theorem sweepStop (tag : Byte) (payload : List Byte) : Statement (.sweepStop tag payload) :=
  statement_of_command _ _ tag payload rfl (by decide) nofun

theorem readProfile (tag : Byte) (payload : List Byte) : Statement (.readProfile tag payload) :=
  statement_of_command _ _ tag payload rfl (by decide) nofun

theorem measure (tag : Byte) (payload : List Byte) : Statement (.measure tag payload) :=
  statement_of_command _ _ tag payload rfl (by decide) nofun

theorem readMeasurement (tag : Byte) (payload : List Byte) : Statement (.readMeasurement tag payload) :=
  statement_of_command _ _ tag payload rfl (by decide) nofun

theorem planAuto (tag : Byte) (payload : List Byte) : Statement (.planAuto tag payload) :=
  statement_of_command _ _ tag payload rfl (by decide) nofun

theorem planPasses (tag : Byte) (payload : List Byte) : Statement (.planPasses tag payload) :=
  statement_of_command _ _ tag payload rfl (by decide) nofun

theorem cutStart (tag : Byte) (payload : List Byte) : Statement (.cutStart tag payload) :=
  statement_of_command _ _ tag payload rfl (by decide) nofun

theorem feedHold (tag : Byte) (payload : List Byte) : Statement (.feedHold tag payload) :=
  statement_of_command _ _ tag payload rfl (by decide) nofun

theorem resume (tag : Byte) (payload : List Byte) : Statement (.resume tag payload) :=
  statement_of_command _ _ tag payload rfl (by decide) nofun

theorem cutAbort (tag : Byte) (payload : List Byte) : Statement (.cutAbort tag payload) :=
  statement_of_command _ _ tag payload rfl (by decide) nofun

theorem unknownKind (kind tag : Byte) (payload : List Byte) : Statement (.unknownKind kind tag payload) := by
  intro hw k t p h
  simp only [Instr.frame, Option.some.injEq, Prod.mk.injEq] at h
  obtain ⟨rfl, rfl, rfl⟩ := h
  simp only [Instr.wellFormed, Instr.frame, Bool.and_eq_true, decide_eq_true_eq] at hw
  refine ⟨by exact of_decide_eq_true hw.1, fun h => absurd h hw.2, fun h => absurd rfl h⟩

theorem frameAccepted (received : List Byte) : Statement (.frameAccepted received) :=
  statement_of_event _ rfl

theorem receiveGap : Statement .receiveGap :=
  statement_of_event _ rfl

theorem breakStart : Statement .breakStart :=
  statement_of_event _ rfl

theorem breakEnd : Statement .breakEnd :=
  statement_of_event _ rfl

theorem silenceExpiry : Statement .silenceExpiry :=
  statement_of_event _ rfl

theorem hostReadyChange (level : Bool) : Statement (.hostReadyChange level) :=
  statement_of_event _ rfl

theorem replyFrameStart : Statement .replyFrameStart :=
  statement_of_event _ rfl

theorem noticeFrameStart : Statement .noticeFrameStart :=
  statement_of_event _ rfl

theorem frameEnd : Statement .frameEnd :=
  statement_of_event _ rfl

theorem headerScanComplete : Statement .headerScanComplete :=
  statement_of_event _ rfl

theorem loadComplete : Statement .loadComplete :=
  statement_of_event _ rfl

theorem writeComplete : Statement .writeComplete :=
  statement_of_event _ rfl

theorem readComplete : Statement .readComplete :=
  statement_of_event _ rfl

theorem enrolComplete : Statement .enrolComplete :=
  statement_of_event _ rfl

theorem amendComplete : Statement .amendComplete :=
  statement_of_event _ rfl

theorem retireComplete : Statement .retireComplete :=
  statement_of_event _ rfl

theorem searchComplete : Statement .searchComplete :=
  statement_of_event _ rfl

theorem liftPositionReport (point : Wheel) (height : Nat) : Statement (.liftPositionReport point height) :=
  statement_of_event _ rfl

theorem liftInPosition (point : Wheel) : Statement (.liftInPosition point) :=
  statement_of_event _ rfl

theorem moveTimeout : Statement .moveTimeout :=
  statement_of_event _ rfl

theorem intervalExpiry : Statement .intervalExpiry :=
  statement_of_event _ rfl

theorem dwellExpiry : Statement .dwellExpiry :=
  statement_of_event _ rfl

theorem inputChange (input : Input) (level : Bool) : Statement (.inputChange input level) :=
  statement_of_event _ rfl

theorem debounceExpiry (input : Input) : Statement (.debounceExpiry input) :=
  statement_of_event _ rfl

theorem probePadInPosition (station : Station) : Statement (.probePadInPosition station) :=
  statement_of_event _ rfl

theorem referenceReading (station : Station) (left right : Reading) : Statement (.referenceReading station left right) :=
  statement_of_event _ rfl

theorem settleExpiry (station : Station) : Statement (.settleExpiry station) :=
  statement_of_event _ rfl

theorem ringInPosition (station : Station) : Statement (.ringInPosition station) :=
  statement_of_event _ rfl

theorem calibrationReading (station : Station) (left right : Reading) : Statement (.calibrationReading station left right) :=
  statement_of_event _ rfl

theorem rollerAngleReport (station : Station) (angle : Fin 36000) : Statement (.rollerAngleReport station angle) :=
  statement_of_event _ rfl

theorem rollerInPosition (station : Station) (angle : Fin 36000) : Statement (.rollerInPosition station angle) :=
  statement_of_event _ rfl

theorem sweepCarriageInPosition (station : Station) : Statement (.sweepCarriageInPosition station) :=
  statement_of_event _ rfl

theorem sampleAnswer (station : Station) (left right : Reading) : Statement (.sampleAnswer station left right) :=
  statement_of_event _ rfl

theorem toolPositionReport (station : Station) (lateral radius : Int) : Statement (.toolPositionReport station lateral radius) :=
  statement_of_event _ rfl

theorem toolApproachArrival (station : Station) : Statement (.toolApproachArrival station) :=
  statement_of_event _ rfl

theorem toolBackoffArrival (station : Station) : Statement (.toolBackoffArrival station) :=
  statement_of_event _ rfl

theorem revolutionPulse (station : Station) : Statement (.revolutionPulse station) :=
  statement_of_event _ rfl

theorem reset (pins : ResetPins) : Statement (.reset pins) :=
  statement_of_event _ rfl

end Sys2Proof.Laws.WellFormedOnTheLine
end

