-- ==== Sys2Proof/Tests/Slice0.lean ====
section
/-! SUPPORT. Small tests with expected results from the manual's own examples and rules, and for every statement
with hypotheses a named state and operands that meet them all. -/

/-! ## States the tests and witnesses stand in -/

namespace Sys2Proof.Tests

open Sys2Proof.Machine

/-- A PIT table. -/
def pit : Pit :=
  { clearance := 8000, syncBand := 1000, tripBand := 4000, moveTimeout := 60, relevelBand := 300,
    relevelInterval := 120, debounce := 20, probeSettle := 5, datum := ⟨440000, 440000⟩,
    ring := ⟨450000, 450000⟩ }

/-- A CUT table, with the depths of the example of chapter 9. -/
def cutTable : CutTable :=
  { cleanUp := 300, flangeLevel := 10000, bogieBand := 500, unitBand := 3000, flangeHeightLimit := 36000,
    flangeThicknessMin := 22000, runoutLimit := 500, qRough := 2000, qFinish := 300, feed := 800 }

/-- A reference profile without offsets, complete. -/
def profile : Profile :=
  { state := .complete, measuring := 5, zoneFirst := 3, zoneLast := 8, fill := 160, offsets := [] }

/-- A record of unit 7. -/
def record : Record :=
  { unit := 7, bogie := 1, axle := .leading, profileId := .i0, condemning := 400000, state := .inService,
    lastRadius := ⟨some 452000, some 452500⟩, nextSequence := some 1, entries := [] }

/-- A record place that holds the record of the tests whole, with its check value. -/
def whole (n : Nat) : Place := { Place.blank.write record with header := some n }

/-- A configured part whose store holds records 11, 12 and 13 in places 0 to 2, the scan done. -/
def configuredPit : State :=
  { State.reset with
    setup := { pit := some pit, cut := some cutTable, profiles := Four.const profile }
    store :=
      { Store.reset [(0, whole 11), (1, whole 12), (2, whole 13)] with
        scanned := true
        table := [(0, ⟨some 11, false⟩), (1, ⟨some 12, false⟩), (2, ⟨some 13, false⟩)] } }

/-- An OPEN slot. -/
def slotOf (serial rank : Nat) (binding : Option Station) (m : Option Measurement) : Slot :=
  { state := .openSlot, serial := some serial, workOrder := some 5, incoming := none, binding := binding,
    requested := none, dirty := false, rank := rank, working := some record, measurement := m }

/-- A measurement with the required removal of the example of chapter 9. -/
def measurement : Measurement :=
  { run := 1, epoch := 1, material := 0, stale := false, verdict := .reprofile, advisories := Advisories.empty,
    usableRows := some ⟨8, 8⟩,
    wheels := ⟨⟨some 452000, some 29000, some 30000, some 600⟩, ⟨some 452500, some 29000, some 30000, some 100⟩⟩,
    fitRadius := some ⟨450000, 450500⟩, fitTarget := some 450000, target := some 450000, removal := some 2650,
    siblings := some ⟨0, none⟩, cutUsed := some (300, 500) }

/-- The levels of the pit with the bogie up: bridges out, wheelsets clamped. -/
def upLevels : Twelve Bool :=
  { restLevels with bridgeAOut := true, bridgeBOut := true, holddownA := true, holddownB := true }

/-- A lift point at a height, arrived there. -/
def pointAt (h : Int) : Point :=
  { position := h, demand := h, valve := .closed, paused := false, pausedDir := none, arrived := true }

/-- A referenced and calibrated probe unit. -/
def probe : Probe := { Probe.reset with state := .ready, base := some ⟨450000, 450000⟩, calibrated := true }

/-- A finished sweep of stations 3 to 8. -/
def sweepDone : Sweep :=
  { state := .done, rowsDone := 8, cause := none, step := .none,
    run := some
      { first := 3, last := 8, mode := .fresh, entry := 2, angular := 2, lateral := 3, epoch := 1,
        material := 0 } }

/-- The bogie raised and level, records 11 and 12 bound to stations A and B, both swept and measured. -/
def raisedPit : State :=
  { configuredPit with
    context :=
      { slots :=
          ⟨slotOf 11 0 (some .a) (some measurement), slotOf 12 1 (some .b) (some measurement), Slot.free 2,
            Slot.free 3⟩
        results := [], resultsLost := false }
    lift := { configuredPit.lift with state := .raised, points := Four.const (pointAt 30000) }
    level := { configuredPit.level with interval := .running 120000, epoch := 1 }
    inputs := upLevels.map fun b => InputState.reset b b
    probes := ⟨probe, probe⟩
    capture := { Capture.reset with sweep := ⟨sweepDone, sweepDone⟩, angle := ⟨9100, 0⟩ } }

/-- The plan of the example of chapter 9, in force at station A. -/
def plan : Plan :=
  { source := .auto, serial := 11, run := 1, target := 450000, removal := 2650, advisories := Advisories.empty,
    passes := [⟨2000, 450650⟩, ⟨350, 450300⟩, ⟨300, 450000⟩], zoneFirst := 10, zoneLast := 139,
    revolutions := 163, feed := 800, inExecution := false, passIndex := 0 }

/-- The raised pit with that plan at station A. -/
def plannedPit : State := { raisedPit with plans := ⟨some plan, none⟩ }

/-- An in-progress CUT entry. -/
def cutEntry : Entry :=
  { sequence := 1, kind := .cut ⟨⟨none, none⟩, 3, 0, .inProgress⟩, workOrder := 5, verdict := .reprofile,
    wheels := measurement.wheels }

/-- Station A in a state of the first pass of that plan, with `turns` revolutions left. -/
def cutAt (state : CutState) (turns : Nat) (holds : CutCauses) : CutStation :=
  { CutStation.reset true with
    state := state, holds := holds, counter := turns, loaded := 163, begun := true, entered := true,
    preCut := some ⟨record.lastRadius, []⟩, material := 1, toolLateral := 42000, toolRadius := 450650,
    heldAt := if state = .holding ∨ state = .held then some 42000 else none }

/-- The raised pit with station A so. -/
def workingPit (state : CutState) (turns : Nat) (holds : CutCauses) : State :=
  { raisedPit with
    plans := ⟨some { plan with inExecution := true, passIndex := 1 }, none⟩
    stations := ⟨cutAt state turns holds, CutStation.reset true⟩
    context :=
      { raisedPit.context with
        slots :=
          { raisedPit.context.slots with
            e0 :=
              { slotOf 11 0 (some .a) (some measurement) with
                working :=
                  some
                    { record with
                      lastRadius := ⟨none, none⟩, nextSequence := some 2, entries := [cutEntry] } } } } }

/-- Station A cutting with 160 revolutions to go. -/
def cuttingPit : State := workingPit .cutting 160 CutCauses.empty

/-- Station A held for the host. -/
def heldPit : State := workingPit .held 160 { CutCauses.empty with host := true }

/-- The lift in a state of a RAISE to 30,000, the four points at the given heights, none arrived. -/
def movingPit (state : LiftState) (stage : BridgeStage) (h : Four Int) : State :=
  let l : Lift :=
    { configuredPit.lift with
      state := state
      points := h.map fun x =>
        { pointAt x with demand := if stage = .pending then 8000 else 30000, arrived := false }
      move := some ⟨30000, .up, stage⟩
      moveTimer := match state with
        | .raising => .running 60000
        | _ => .stopped }
  { configuredPit with
    lift := l.revalve none
    inputs := upLevels.map fun b => InputState.reset b b }

/-- Station A sweeping stations 3 to 8, at the given row and step. -/
def sweepingPit (state : SweepState) (step : SweepStep) (request : SampleRequest) : State :=
  { raisedPit with
    capture :=
      { Capture.reset with
        request := ⟨request, .none⟩
        sweep :=
          ⟨{ sweepDone with
              state := state, step := step, rowsDone := 0
              cause := if state = .paused then some .host else none
              run := sweepDone.run.map fun r => { r with lateral := 5 } },
            Sweep.idle⟩ } }

/-- The store with a request in service and none behind it. -/
def servingPit (r : Request) (content : Option Record) : State :=
  { raisedPit with store := { raisedPit.store with service := some ⟨r, content⟩ } }


/-- Whether the state in which the owner of a command of tag 7 answers, when its frame is taken now, has a
property. -/
def given (s : State) (kind : Byte) (payload : List Byte) (p : State → Bool) : Bool := (s.handed kind 7 payload).any p

theorem bothStations {p : Station → Prop} (a : p .a) (b : p .b) : ∀ st, p st := fun st => by cases st <;> assumption

theorem allFour {p : Ix → Prop} (h0 : p .i0) (h1 : p .i1) (h2 : p .i2) (h3 : p .i3) : ∀ i, p i :=
  fun i => by cases i <;> assumption

/-! ## Terms that stand for no command (WellFormed) -/

/-- A payload of 241 bytes is no frame's. -/
theorem test_payload_too_long : (Instr.status 0 (List.replicate 241 0)).wellFormed = false := by decide +kernel

/-- The kind of RAISE is not unknown. -/
theorem test_known_kind_refused : (Instr.unknownKind 0x30 0 []).wellFormed = false := by decide

/-- FRAME_ACCEPTED carries at least one byte. -/
theorem test_empty_reception_refused : (Instr.frameAccepted []).wellFormed = false := by decide

/-- The longest payload, and a kind in a gap of section 11.2, are well formed. -/
theorem test_wellformed_terms :
    (Instr.status 0 (List.replicate 240 0)).wellFormed = true ∧ (Instr.unknownKind 0x35 0 []).wellFormed = true := by
  decide +kernel

/-! ## The manual's examples -/

/-- The check value R177 gives for the nine characters 123456789. -/
theorem test_crc_of_nine_digits :
    crc16 [0x31, 0x32, 0x33, 0x34, 0x35, 0x36, 0x37, 0x38, 0x39] = 0x29B1#16 := by decide +kernel

/-- The worked plan of section 9.7: a removal of 2,650 in three passes of 163 revolutions. -/
theorem test_worked_plan :
    autoDepths 2650 2000 300 = some [2000, 350, 300] ∧ passRevolutions 10 139 800 = 163 := by decide

/-- PLAN AUTO makes the worked plan's depths and pass radii from the measurement. -/
theorem test_plan_auto_radii :
    (match exec (.planAuto 7 [0]) raisedPit with
     | .next t => (t.plan .a).map fun p => p.passes
     | _ => none) = some [⟨2000, 450650⟩, ⟨350, 450300⟩, ⟨300, 450000⟩] := by decide

/-- Section 1.2: an append to entries 40 to 55, the newest in progress, interrupts 55, takes 56 and drops 40. -/
theorem test_append_to_full_list :
    ((({ record with
        nextSequence := some 56
        entries := (List.range 16).map fun k => { cutEntry with sequence := 40 + k } } : Record).append
        { cutEntry with kind := .measure }).map fun r =>
      (r.entries.map fun e => e.sequence, r.nextSequence, (r.entries[14]?).map fun e => e.kind)) =
      some ((List.range 16).map (41 + ·), some 57,
        some (EntryKind.cut ⟨⟨none, none⟩, 3, 0, .interrupted⟩)) := by decide

/-- Section 7.7: SWEEP of stations 62 and 60 from 24,370 hundredths of a degree has window 60 to 62, entry 5. -/
theorem test_sweep_window_and_entry :
    (match exec (.sweep 7 [0, 62, 60, 0]) { raisedPit with capture := { raisedPit.capture with angle := ⟨24370, 0⟩ } } with
     | .next t => ((t.sweepOf .a).run.map fun r => (r.first, r.last, r.entry), t.link.reply.map fun r => r.code)
     | _ => (none, none)) = (some (60, 62, 5), some .adjusted) := by decide

/-- R45 and the table of section 11.9: RAISE without a PIT table is answered NOT_CONFIGURED. -/
theorem test_raise_unconfigured :
    (match exec (.raise 7 (i32Bytes 30000)) State.reset with
     | .next t => t.link.reply
     | _ => none) = some ⟨0xB0, 7, .notConfigured, .none⟩ := by decide

/-- R44: the bridges already out, the last arrival of the leg to the clearance height begins the leg to the
target. -/
theorem test_bridge_stop_passes_at_once :
    (match exec (.liftInPosition .al)
        { movingPit .raising .pending ⟨8000, 8000, 8000, 8000⟩ with
          lift :=
            { (movingPit .raising .pending ⟨8000, 8000, 8000, 8000⟩).lift with
              points := (Four.const { pointAt 8000 with demand := 8000 }).set .i0
                { pointAt 8000 with demand := 8000, arrived := false } } } with
     | .next t => (t.lift.state, (t.lift.points.get .i3).demand)
     | _ => (.fault, 0)) = (.raising, 30000) := by decide

/-- R164: the pulse that takes a counter of 1 to 0 ends the pass and moves the plan on. -/
theorem test_last_pulse_ends_pass :
    (match exec (.revolutionPulse .a) (workingPit .cutting 1 CutCauses.empty) with
     | .next t => ((t.cut .a).state, (t.cut .a).completed, (t.plan .a).map fun p => p.passIndex)
     | _ => (.idle, 0, none)) = (.approach, 1, some 2) := by decide

/-- R79: a raw level that returns before the timer expires is never accepted. -/
theorem test_bounce_is_not_accepted :
    (match exec (.inputChange .estopOk false) raisedPit with
     | .next t =>
       match exec (.inputChange .estopOk true) t with
       | .next u => ((t.inputs.get .estopOk).timer, (u.inputs.get .estopOk).timer, u.level? .estopOk)
       | _ => (.stopped, .stopped, false)
     | _ => (.stopped, .stopped, false)) = (.running 20, .stopped, true) := by decide

/-! ## Witnesses: a state and operands that meet the hypotheses of each statement, clause by clause -/

/-! ### The host link -/

/-- A link with a queue of `n` frames. -/
def queued (n : Nat) (holding : Option Frame) (reply : Option Reply) : State :=
  { State.reset with
    link :=
      { State.reset.link with
        queue := List.replicate n ⟨1, 7, [0]⟩, holding := holding, reply := reply, hostReady := true } }

def someReply : Reply := ⟨0x81, 7, .ok, .none⟩

theorem witness_StepCarriesOutFrontCommand :
    ({ raisedPit with pending := [.receiveGap, .breakEnd] } : State).pending = .receiveGap :: [.breakEnd] ∧
      raisedPit.pending = [] := by decide

theorem witness_ReceivedFrameIsAccepted :
    State.reset.link.assembler = .hunting ∧ (∀ b ∈ ([0x00, 0x95, 0x97] : List Byte), b ≠ 0x96) ∧
      (List.replicate 240 (0 : Byte)).length ≤ 240 := by decide +kernel

/-- Queues of 3 and 4 frames, the holding slot empty and full; a frame taken from the queue and past an empty one; a
frame that waits, for the reply slot and behind an older frame. -/
theorem witness_FramesArePlacedAndTakenInOrder :
    (queued 3 none none).link.assembler = .hunting ∧ (queued 3 none none).link.queue.length < 4 ∧
      4 ≤ (queued 4 none none).link.queue.length ∧ (queued 4 none none).link.holding = none ∧
      (queued 4 (some ⟨1, 7, [0]⟩) none).link.holding ≠ none ∧
      (queued 2 none none).link.queue = ⟨1, 7, [0]⟩ :: [⟨1, 7, [0]⟩] ∧ (queued 2 none none).link.reply = none ∧
      (queued 2 none (some someReply)).link.reply ≠ none ∧ (queued 0 none none).link.queue = [] ∧
      (queued 0 none none).link.reply = none ∧ (⟨1, 7, [0]⟩ : Frame) ≠ ⟨1, 8, [0]⟩ ∧
      (queued 2 none none).takeFrame ⟨1, 8, [0]⟩ = none ∧ (Instr.status 7 [0]).wellFormed = true ∧
      (Instr.status 7 [0]).frame = some (1, 7, [0]) ∧
      (queued 0 none (some someReply)).takeFrame ⟨1, 7, [0]⟩ = none := by decide

/-- A check of 0 for a frame with another check; a length of 241; a partial frame. -/
theorem witness_DamagedFramesAreDiscarded :
    State.reset.link.assembler = .hunting ∧ (1 : Byte).toNat = ([0] : List Byte).length ∧
      ([0, 0] : List Byte) ≠ natBytes 2 (crc16 [1, 0x01, 7, 0]).toNat ∧ 240 < (241 : Byte).toNat ∧
      ({ State.reset with link := { State.reset.link with assembler := .assembling [1, 1] } } : State).link.assembler =
        .assembling [1, 1] := by decide +kernel

theorem witness_LineBreakEmptiesReceiver :
    (Instr.breakStart = .breakStart ∧ true = true ∨ Instr.breakStart = .breakEnd ∧ true = false) ∧
      (Instr.breakEnd = .breakStart ∧ false = true ∨ Instr.breakEnd = .breakEnd ∧ false = false) := by decide

/-- A frame that is taken from an empty queue. -/
def taken (kind : Byte) (payload : List Byte) : Bool := (State.reset.takeFrame ⟨kind, 7, payload⟩).isSome

/-- A length one off; counts of 0, 41 and 17, and a count that disagrees; an unknown kind; values one past their
lists. -/
theorem witness_MisshapenCommandsAreRefused :
    (taken 0x01 [0, 0] = true ∧ (Instr.status 7 [0, 0]).wellFormed = true ∧
      (Instr.status 7 [0, 0]).frame = some (0x01, 7, [0, 0]) ∧ commandLength 0x01 = some 1) ∧
    (byteAt [0, 0] 1 = 0 ∧ 40 < byteAt [0, 41] 1 ∧ 16 < byteAt [0, 17] 1 ∧
      ([0, 1, 0] : List Byte).length ≠ 2 + 4 * byteAt [0, 1, 0] 1 ∧ taken 0x13 [0, 41] = true ∧
      taken 0x59 [0, 17] = true) ∧
    (0x35 ∉ commandKinds ∧ taken 0x35 [] = true) ∧
    (([(0x61, [2]), (0x2A, [11, 0, 0, 0, 2]), (0x28, [11, 0, 0, 0, 1, 0, 0, 0, 3]), (0x23, [11, 0, 0, 0, 2, 0, 0]),
        (0x48, [0, 3, 8, 2]), (0x48, [2, 3, 8, 1]), (0x4B, [4, 0, 0, 1]), (0x60, [0, 2]), (0x60, [2, 0])] :
        List (Byte × List Byte)).all fun x =>
      decide (commandLength x.1 = some x.2.length) && unlisted x.1 x.2 && taken x.1 x.2) = true ∧
    (unlisted 0x59 [2, 1, 0, 0, 0, 0] = true ∧ 1 ≤ byteAt [2, 1, 0, 0, 0, 0] 1) ∧
    (commandLength 0x21 = some 23 ∧ (natBytes 4 11 ++ [0x20] ++ List.replicate 18 2).length = 23 ∧
      unlisted 0x21 (natBytes 4 11 ++ [0x20] ++ List.replicate 18 2) = true) := by decide

/-- The ends of the signed and unsigned widths, sixteen depths, forty offsets, and the tables of these tests. -/
theorem witness_ParametersReadBack :
    (-2147483648 ≤ (-2147483648 : Int) ∧ (2147483647 : Int) < 2147483648) ∧ 4294967295 < 4294967296 ∧
      (List.replicate 11 true).length = 11 ∧ (List.replicate 16 (10 : Int)).length ≤ 16 ∧
      (List.replicate 40 (0 : Int)).length ≤ 40 ∧
      (-2147483648 ≤ pit.clearance ∧ pit.clearance < 2147483648 ∧ pit.moveTimeout < 65536 ∧ pit.debounce < 65536) ∧
      -2147483648 ≤ cutTable.cleanUp ∧ cutTable.feed < 2147483648 ∧ (255 : Nat) < 256 ∧ (65535 : Nat) < 65536 := by decide

/-- CUT START without a plan. -/
theorem witness_RefusedCommandChangesNothing :
    (Instr.cutStart 7 [0, 0]).frame = some (0x60, 7, [0, 0]) ∧ raisedPit.link.reply = none ∧
      (match exec (.cutStart 7 [0, 0]) raisedPit with
       | .next t => t.link.reply.any fun r => !r.code.accepts
       | _ => false) = true := by decide

/-- The first and last source, and the first value that names none; a capture with a window and one without. -/
theorem witness_StatusReturnsContentAlone :
    (given raisedPit 0x01 [0] fun _ => decide (Source.all[(0 : Byte).toNat]? = some .lift)) = true ∧
      (given raisedPit 0x01 [10] fun _ => decide (Source.all[(10 : Byte).toNat]? = some .link)) = true ∧
      (given raisedPit 0x01 [11] fun _ => decide (11 ≤ (11 : Byte).toNat)) = true ∧
      ((raisedPit.sweepOf .a).run.any fun r => decide (3 = r.first ∧ 8 = r.last)) = true ∧
      (State.reset.sweepOf .b).run = none := by decide

theorem witness_SetLinkWritesTimeoutAndMask :
    setLinkParams [61, 0, 1, 4] = .ok (61, [true] ++ List.replicate 9 false ++ [true]) ∧
      (given raisedPit 0x02 [61, 0, 1, 4] fun _ => true) = true ∧
      ([true] ++ List.replicate 9 false ++ [true])[Source.all.idxOf .link]? = some true := by decide

theorem witness_RepliesCarryAndClearTheLinkFlags :
    ((queued 0 none (some someReply)).link.sending = none ∧ (queued 0 none (some someReply)).link.hostReady = true ∧
      (queued 0 none (some someReply)).link.reply = some someReply) ∧
    State.reset.link.reply = none ∧ State.reset.link.hostReady = false ∧
    ({ State.reset.link with sending := some (.reply [1]) } : Link).sending = some (.reply [1]) ∧
    ({ State.reset.link with sending := some (.notice .link (State.reset.content .link) []) } : Link).sending ≠
      none := by decide

/-- The reset state has LINK, the last source, alone pending; with LIFT pending the first one goes. -/
theorem witness_NoticesGoOutInTheirOrder :
    let s := queued 0 none none
    (s.link.sending = none ∧ s.link.hostReady = true ∧ s.link.reply = none ∧
      (∃ before, Source.all = before ++ .link :: [] ∧ ∀ x ∈ before, (s.notices.get x).pending = false) ∧
      (s.notices.get .link).pending = true) ∧
    ((s.notify .lift).notices.get .lift).pending = true ∧ State.reset.link.hostReady = false := by
  refine ⟨⟨by decide, by decide, by decide, ⟨Source.all.take 10, by decide, by decide⟩, by decide⟩, by decide,
    by decide⟩

/-- The raised pit with point A-L 301 low and a re-level of it under way. -/
def relevelling (s : State) : State :=
  let set : Four Bool := (Four.const false).set .i0 true
  { s with
    lift := ({ s.lift with
      points := s.lift.points.set .i0 { pointAt 29699 with demand := 30000, arrived := false }
      moveTimer := .running 60000 } : Lift).revalve (some set)
    level := { s.level with backlog := 1, relevel := some set } }

/-- The supervisor running over a raising lift, a re-level, a cutting station and a sweep; over every lift state that
stays; over a station in HOLDING and in HELD and a paused sweep; no supervision. -/
theorem witness_SilenceStopsMovingWork :
    let watched (s : State) : State := { s with link := { s.link with supervisor := .running 10000 } }
    (watched cuttingPit).link.supervisor = .running 10000 ∧ (cuttingPit.cut .a).state = .cutting ∧
      ¬(cuttingPit.lift.state = .raised ∧ cuttingPit.level.relevel ≠ none) ∧
      (movingPit .raising .pending ⟨0, 0, 0, 0⟩).lift.state = .raising ∧
      ((sweepingPit .traversing .awaitSample .live).sweepOf .a).state = .traversing ∧
      (let s := relevelling raisedPit
       s.lift.inForm s.level.relevel ∧ s.lift.state = .raised ∧ s.level.relevel ≠ none) ∧
      ([LiftState.parking, .parked, .unparking, .down, .hold, .fault, .bridgeWait .up].all fun l =>
        decide ((movingPit l .passed (Four.const 8000)).lift.state = l)) = true ∧
      ((workingPit .holding 160 { CutCauses.empty with host := true }).cut .a).state = .holding ∧
      (heldPit.cut .a).state = .held ∧ heldPit.level.backlog = 0 ∧
      ((sweepingPit .paused .none .none).sweepOf .a).state = .paused ∧
      State.reset.link.supervisor = .stopped := by unfold Lift.inForm; decide

/-! ### Setup tables and profiles -/

/-- The pit in which SET PIT is accepted, and one in which it is not. -/
theorem witness_TablesAreSettledOnEntry :
    setPitParams pit.bytes = .ok pit ∧ setCutParams cutTable.bytes = .ok cutTable ∧
      (∃ s1, configuredPit.handed 0x10 7 pit.bytes = some s1 ∧ s1.pitRests) ∧
      (∃ s1, configuredPit.handed 0x11 7 cutTable.bytes = some s1 ∧ s1.pitRests) ∧
      ∃ s1, raisedPit.handed 0x10 7 pit.bytes = some s1 ∧ ¬s1.pitRests :=
  ⟨by decide, by decide,
    ⟨_, rfl, Or.inl (by decide), bothStations (by decide) (by decide), by decide⟩,
    ⟨_, rfl, Or.inl (by decide), bothStations (by decide) (by decide), by decide⟩,
    ⟨_, rfl, fun h => absurd h.1 (by decide)⟩⟩

/-- A part whose profile 3 is in a given state, filled up to `n`. -/
def loadingPit (state : ProfileState) (n : Nat) : State :=
  { configuredPit with
    setup :=
      { configuredPit.setup with
        profiles := configuredPit.setup.profiles.set .i3 { profile with state := state, fill := n } } }

/-- Ids 3 and 4; a BROKEN and a COMPLETE entry; a LOADING entry one short of full. -/
theorem witness_ProfileLoadsBeginFillAndResume :
    profileBeginParams [3, 0, 159, 0] = .ok ⟨3, 0, 159, 0⟩ ∧
      (∃ s1, configuredPit.handed 0x12 7 [3, 0, 159, 0] = some s1 ∧ Ix.i3.num = 3 ∧ s1.pitRests) ∧
      (given configuredPit 0x12 [4, 0, 159, 0] fun _ => decide (3 < 4)) = true ∧
      (∃ s1, (loadingPit .broken 159).handed 0x14 7 [3] = some s1 ∧ s1.pitRests ∧ (s1.profile .i3).state = .broken) ∧
      (given configuredPit 0x14 [3] fun s1 => decide ((s1.profile .i3).state ≠ .broken)) = true ∧
      profileDataParams [3, 2, 1, 0, 0, 0, 2, 0, 0, 0] = .ok (3, [1, 2]) ∧
      ((loadingPit .loading 159).takeFrame ⟨0x13, 7, [3, 2, 1, 0, 0, 0, 2, 0, 0, 0]⟩).any (fun s0 =>
        decide ((s0.profile .i3).state = .loading)) = true ∧
      Memory.wf (loadingPit .loading 159) ∧
      (configuredPit.takeFrame ⟨0x13, 7, [3, 1, 1, 0, 0, 0]⟩).any (fun s0 =>
        decide ((s0.profile .i3).state ≠ .loading)) = true ∧
      profileDataParams [4, 1, 1, 0, 0, 0] = .ok (4, [1]) :=
  ⟨by decide, ⟨_, rfl, rfl, Or.inl (by decide), bothStations (by decide) (by decide), by decide⟩, by decide,
    ⟨_, rfl, ⟨Or.inl (by decide), bothStations (by decide) (by decide), by decide⟩, by decide⟩, by decide,
    by decide, by decide, by decide, by decide, by decide⟩

/-- PROFILE DATA to a COMPLETE entry and to the id 4 while entry 3 is LOADING, which each of the two breaks. -/
theorem witness_ProfileLoadsBeginFillAndResume_breaks :
    profileDataParams [0, 1, 1, 0, 0, 0] = .ok (0, [1]) ∧ Memory.wf (loadingPit .loading 5) ∧
      ([0, 4].all fun id : Byte =>
        ((loadingPit .loading 5).takeFrame ⟨0x13, 7, [id, 1, 1, 0, 0, 0]⟩).any (fun s0 =>
          decide ((s0.profile .i0).state ≠ .loading ∧ (s0.profile .i3).state = .loading)) &&
        (match exec (.profileData 7 [id, 1, 1, 0, 0, 0]) (loadingPit .loading 5) with
         | .next t => decide ((t.profile .i3).state = .broken ∧ t.setup.pit = some pit)
         | _ => false)) = true := by decide

/-! ### Records and the history store -/

/-- Payloads naming a serial. -/
def enrolBytes (n : Nat) : List Byte := natBytes 4 n ++ natBytes 2 7 ++ [1, 0, 0] ++ i32Bytes 400000
def amendBytes (n : Nat) : List Byte := natBytes 4 n ++ [0xFF] ++ natBytes 2 8 ++ [1, 0, 0] ++ i32Bytes 410000 ++ [1] ++
  i32Bytes (-2147483648) ++ i32Bytes 800000
def readBytes (n : Nat) : List Byte := natBytes 4 n ++ [1, 0, 4]
def openBytes (n : Nat) (binding : Byte) : List Byte := natBytes 4 n ++ natBytes 4 5 ++ [binding]

/-- The serials 0 and 1,000,000,000 beside the range of R11, in each of the four commands. -/
theorem witness_InvalidSerialNamesNoRecord :
    ([0, 1000000000].all fun n =>
      decide ((enrolParams (enrolBytes n)).toOption.any fun x => x.serial = n) &&
        decide ((amendParams (amendBytes n)).toOption.any fun x => x.serial = n) &&
        decide (serialParam (natBytes 4 n) = .ok n) &&
        decide ((readRecordParams (readBytes n)).toOption.any fun x => x.1 = n) &&
        (given configuredPit 0x20 (enrolBytes n) fun _ => true) && (given configuredPit 0x21 (amendBytes n) fun _ => true) &&
        (given configuredPit 0x22 (natBytes 4 n) fun _ => true) && given configuredPit 0x23 (readBytes n) fun _ => true) =
      true := by decide

/-- The configured part with `n` requests in its FIFO, the first in service. -/
def busyPit (n : Nat) : State :=
  { configuredPit with
    store :=
      { configuredPit.store with
        service := some ⟨.read 12 1, none⟩, waiting := List.replicate (n - 1) (.read 12 1) } }

/-- The new record an ENROL of these tests queues. -/
def enrolled : Record :=
  { unit := 7, bogie := 1, axle := .leading, profileId := .i0, condemning := 400000, state := .inService,
    lastRadius := ⟨none, none⟩, nextSequence := some 1, entries := [] }

/-- The configured part with every place marked damaged. -/
def markedPit : State :=
  { configuredPit with
    store :=
      { configuredPit.store with
        table := [(0, ⟨some 11, true⟩), (1, ⟨some 12, true⟩), (2, ⟨some 13, true⟩)] } }

/-- ENROL of a new serial and over a damaged record, AMEND, RETIRE and READ RECORD of record 13, with five and six
requests in the FIFO. -/
theorem witness_RecordCommandsJoinTheFifo :
    ([5, 6].all fun n =>
      (given (busyPit n) 0x20 (enrolBytes 15) fun s1 =>
        s1.store.scanned && decide (s1.store.service ≠ none) && decide (s1.holder 15 = none) &&
          decide (s1.store.enrolled 15 = false) && decide (s1.store.freePlace = some 3) &&
          decide (s1.store.fifo.length = n)) &&
      (given (busyPit n) 0x21 (amendBytes 13) fun s1 =>
        decide (s1.holder 13 = none) && s1.store.enrolled 13 && !s1.store.marked 13) &&
      (given (busyPit n) 0x22 (natBytes 4 13) fun s1 => decide (s1.holder 13 = none) && s1.store.enrolled 13) &&
      given (busyPit n) 0x23 (readBytes 13) fun s1 =>
        decide (s1.holder 13 = none) && decide (s1.store.window.record 13 = none) && s1.store.enrolled 13) = true ∧
    enrolParams (enrolBytes 15) = .ok ⟨15, 7, 1, 0, 0, 400000⟩ ∧ (amendParams (amendBytes 13)).toOption.isSome = true ∧
    readRecordParams (readBytes 13) = .ok (13, .entries 0 4) ∧
    enrolled.unit = max 1 (min 65535 7) ∧ enrolled.condemning = max 300000 (min 700000 400000) ∧
    markedPit.store.enrolled 13 = true ∧ markedPit.store.placeOf 13 = some 2 ∧ markedPit.store.marked 13 = true ∧
    markedPit.store.enrolQueued 13 = false := by decide +kernel

/-- The refusals of these four commands: before the scan, of a record enrolled and whole, with no place free, of a
record in a slot, unknown and damaged. -/
theorem witness_RecordCommandsJoinTheFifo_refused :
    (given State.reset 0x20 (enrolBytes 15) fun s1 => decide (s1.store.scanned = false)) = true ∧
    (given configuredPit 0x20 (enrolBytes 13) fun s1 => s1.store.enrolled 13 && !s1.store.marked 13) = true ∧
    (let full := { configuredPit with store := { configuredPit.store with
        table := (List.range Config.places).map fun k => (k, ⟨some (k + 100), false⟩) } }
     full.store.enrolled 15 = false ∧ full.store.freePlace = none) ∧
    ([(0x22, natBytes 4 11), (0x21, amendBytes 11)].all fun x : Byte × List Byte => given raisedPit x.1 x.2 fun s1 =>
      decide (s1.holder 11 = some .i0 ∧ (s1.slot .i0).state = .openSlot ∧ (s1.slot .i0).binding ≠ none)) = true ∧
    (given (raisedPit.setSlot .i2 { slotOf 13 2 none none with state := .loading }) 0x23 (readBytes 13) fun s1 =>
      decide (s1.holder 13 = some .i2 ∧ (s1.slot .i2).state ≠ .openSlot)) = true ∧
    (given configuredPit 0x21 (amendBytes 15) fun s1 =>
      decide (s1.holder 15 = none ∧ s1.store.enrolled 15 = false)) = true ∧
    (given markedPit 0x23 (readBytes 13) fun s1 =>
      decide (s1.holder 13 = none ∧ s1.store.window.record 13 = none) && s1.store.enrolled 13 && s1.store.marked 13 &&
        !s1.store.enrolQueued 13) = true := by decide +kernel

/-- The raised pit with record 13 in slot 2, OPEN and unbound, clean or dirty. -/
def openedPit (dirty : Bool) : State :=
  raisedPit.setSlot .i2 { slotOf 13 2 none none with dirty := dirty }

theorem witness_OpenRecordsAreAmendedAndRead :
    (given (openedPit false) 0x21 (amendBytes 13) fun s1 =>
      s1.store.scanned && decide (s1.holder 13 = some .i2) && decide ((s1.slot .i2).state = .openSlot) &&
        decide ((s1.slot .i2).binding = none) && decide ((s1.slot .i2).working = some record)) = true ∧
    ((amendParams (amendBytes 13)).toOption.any fun x =>
      decide (x.serial = 13 ∧ x.lastL = some (-2147483648) ∧ x.lastR = some 800000)) = true ∧
    readRecordParams (readBytes 13) = .ok (13, .entries 0 4) ∧
    (given (openedPit false) 0x23 (readBytes 13) fun s1 => decide (s1.holder 13 = some .i2)) = true ∧
    (given { configuredPit with store := { configuredPit.store with window := ⟨true, some (13, record)⟩ } } 0x23
      (readBytes 13) fun s1 =>
        decide (s1.holder 13 = none) && decide (s1.store.window.record 13 = some record)) = true := by decide

/-- After reset with nothing queued, with a WRITE waiting for the scan, and after the scan. -/
theorem witness_HeaderScanBuildsThePlaceTable :
    Memory.wf State.reset ∧ State.reset.store.scanned = false ∧ State.reset.store.service = none ∧
      State.reset.store.waiting = [] ∧
      ({ State.reset.store with waiting := [.write 11 .i0] } : Store).waiting = .write 11 .i0 :: [] ∧
      configuredPit.store.scanned = true := by decide

/-- The same part with every body failing its check. -/
def failing (s : State) : State :=
  { s with store := { s.store with places := s.store.places.map fun x => (x.1, x.2.tear) } }

theorem witness_RecordRequestsComplete :
    (let s := servingPit (.read 13 1) none
     Memory.wf s ∧ Memory.wf (failing s) ∧ s.store.service = some ⟨.read 13 1, none⟩ ∧ s.store.placeOf 13 = some 2 ∧
       (s.store.place 2).body = some record ∧ ((failing s).store.place 2).body = none ∧
       (failing s).store.placeOf 13 = some 2) ∧
    (servingPit (.enrol 15 enrolled 3 1) none).store.service = some ⟨.enrol 15 enrolled 3 1, none⟩ ∧
    (let s := servingPit (.amend 13 ⟨some 5, none, none, none, none, none, none, none⟩ 1) none
     s.store.service = some ⟨.amend 13 ⟨some 5, none, none, none, none, none, none, none⟩ 1, none⟩ ∧
       s.store.placeOf 13 = some 2 ∧ (s.store.place 2).body = some record) ∧
    (servingPit (.retire 13 1) none).store.service = some ⟨.retire 13 1, none⟩ := by decide +kernel

/-- The store with a WRITE of record 11 in service, and that of record 12 waiting. -/
def writingPit : State :=
  { servingPit (.write 11 .i0) (some record) with
    store := { (servingPit (.write 11 .i0) (some record)).store with waiting := [.write 12 .i1] } }

theorem witness_WritesMergeWithAWaitingWrite :
    writingPit.store.fifoServed ∧ (∃ j, Request.write 12 j ∈ writingPit.store.waiting) ∧
      ∀ j, Request.write 11 j ∉ writingPit.store.waiting :=
  ⟨fun _ h => absurd h (by decide), ⟨.i1, by decide⟩, allFour (by decide) (by decide) (by decide) (by decide)⟩

/-- An exhausted record, the last sequence number, an empty list, and a full list with rising numbers. -/
theorem witness_AppendFollowsItsFiveSteps :
    ({ record with nextSequence := none } : Record).nextSequence = none ∧
      ({ record with nextSequence := some 65535 } : Record).nextSequence = some 65535 ∧ record.entries = [] ∧
      (let l := (List.range 16).map fun k => { cutEntry with sequence := 40 + k }
       l = l.take 15 ++ [{ cutEntry with sequence := 55 }] ∧ l.length ≤ 16 ∧
         (l.map fun x => x.sequence).Pairwise (· < ·) ∧ ∀ x ∈ l, x.sequence < 56) := by decide +kernel

/-! ### Open records -/

/-- Slots 0 and 1 bound, 2 OPEN and unbound or in another state, 3 FREE or in another state. -/
def slotsPit (two three : Slot) : State := (raisedPit.setSlot .i2 two).setSlot .i3 three

def openSlot2 (dirty : Bool) : Slot := { slotOf 13 2 none none with dirty := dirty }
def transit (state : SlotState) (serial rank : Nat) : Slot :=
  { Slot.free rank with state := state, serial := some serial, workOrder := some 5 }

/-- The same part with `n` requests in its FIFO, the first in service. -/
def behind (n : Nat) (s : State) : State :=
  { s with
    store :=
      { s.store with service := some ⟨.read 12 1, none⟩, waiting := List.replicate (n - 1) (.read 12 1) } }

/-- OPEN into the lowest FREE slot, over a clean and over a dirty victim, each with the FIFO as full as it may be. -/
theorem witness_OpenTakesASlot :
    openParams (openBytes 15 0) = .ok ⟨15, 5, none⟩ ∧
    (given (behind 5 raisedPit) 0x28 (openBytes 15 0) fun s1 =>
      decide ((s1.slot .i2).state = .free ∧ (s1.slot .i0).state ≠ .free ∧ (s1.slot .i1).state ≠ .free) &&
        decide (s1.store.service ≠ none ∧ s1.store.fifo.length + 1 ≤ 6)) = true ∧
    (given (behind 5 (slotsPit (openSlot2 false) (transit .loading 14 3))) 0x28 (openBytes 15 0) fun s1 =>
      Ix.all.all (fun j => decide ((s1.slot j).state ≠ .free ∧ (s1.slot j).holds 15 = false)) &&
        decide (s1.store.fifo.length + 1 ≤ 6) &&
        decide ((s1.slot .i2).binding = none ∧ (s1.slot .i2).dirty = false)) = true ∧
    (given (behind 4 (slotsPit (openSlot2 true) (transit .loading 14 3))) 0x28 (openBytes 15 0) fun s1 =>
      decide ((s1.slot .i2).dirty = true ∧ (s1.slot .i2).serial = some 13) && !s1.store.writeWaiting 13 &&
        decide (s1.store.fifo.length + 2 ≤ 6)) = true ∧
    (openParams (openBytes 15 1) = .ok ⟨15, 5, some .a⟩ ∧
      (given configuredPit 0x28 (openBytes 15 1) fun s1 =>
        decide (s1.boundSlot .a = none ∧ s1.stationRequested .a = false)) = true) := by decide

/-- OPEN over a dirty victim: its WRITE served at once, behind another request, and merged into one that waits. -/
theorem witness_OpenTakesASlot_dirty :
    let s := slotsPit (openSlot2 true) (transit .loading 14 3)
    let u : State := { s with store := { s.store with service := some ⟨.read 12 1, none⟩, waiting := [.write 13 .i2] } }
    (given s 0x28 (openBytes 15 0) fun s1 => decide (s1.store.scanned = true ∧ s1.store.service = none ∧
      s1.store.waiting = [] ∧ (s1.slot .i2).dirty = true)) = true ∧
    (given u 0x28 (openBytes 15 0) fun s1 => s1.store.writeWaiting 13 && decide (s1.store.fifo.length + 1 ≤ 6)) = true ∧
    (given u 0x29 (natBytes 4 13) fun s1 => s1.store.writeWaiting 13 && decide (s1.holder 13 = some .i2)) = true := by
  decide

/-- A victim; and four slots of which none can be taken. -/
theorem witness_SlotsInTransitAreNoVictims :
    (slotsPit (openSlot2 false) (transit .loading 14 3)).victim = some .i2 ∧
    (given (slotsPit (transit .writing 13 2) (transit .loading 14 3)) 0x28 (openBytes 15 0) fun s1 =>
      Ix.all.all fun j =>
        decide ((s1.slot j).state = .loading ∨ (s1.slot j).state = .writing ∨
          (s1.slot j).state = .openSlot ∧ (s1.slot j).binding ≠ none) && !(s1.slot j).holds 15) = true := by decide

/-- The refusals of OPEN: serials that are none; a record in a slot, on its way in and on its way out; a station
bound and one asked for; a FREE slot behind six requests and a dirty victim behind five. -/
theorem witness_SlotsInTransitAreNoVictims_refused :
    ([0, 1000000000].all fun n => decide (openParams (openBytes n 0) = .ok ⟨n, 5, none⟩) &&
      given raisedPit 0x28 (openBytes n 0) fun _ => true) = true ∧
    (given raisedPit 0x28 (openBytes 11 0) fun s1 =>
      decide (s1.holder 11 = some .i0 ∧ (s1.slot .i0).state = .openSlot)) = true ∧
    (given (slotsPit { transit .writing 13 2 with incoming := some ⟨15, 5, none⟩ } (Slot.free 3)) 0x28 (openBytes 15 0)
      fun s1 => decide (s1.holder 15 = some .i2 ∧ (s1.slot .i2).serial ≠ some 15)) = true ∧
    (given (slotsPit (transit .writing 13 2) (Slot.free 3)) 0x28 (openBytes 13 0) fun s1 =>
      decide (s1.holder 13 = some .i2 ∧ (s1.slot .i2).state = .writing ∧ (s1.slot .i2).serial = some 13)) = true ∧
    (given raisedPit 0x28 (openBytes 15 1) fun s1 => decide (s1.holder 15 = none ∧ s1.boundSlot .a ≠ none)) = true ∧
    (given (configuredPit.setSlot .i0 { transit .loading 13 0 with requested := some .a }) 0x28 (openBytes 15 1) fun s1 =>
      decide (s1.holder 15 = none ∧ s1.stationRequested .a = true)) = true ∧
    (given (behind 6 raisedPit) 0x28 (openBytes 15 0) fun s1 =>
      decide ((s1.slot .i2).state = .free ∧ (s1.slot .i0).state ≠ .free ∧ (s1.slot .i1).state ≠ .free ∧
        6 < s1.store.fifo.length + 1)) = true ∧
    (given (behind 5 (slotsPit (openSlot2 true) (transit .loading 14 3))) 0x28 (openBytes 15 0) fun s1 =>
      Ix.all.all (fun j => decide ((s1.slot j).state ≠ .free)) && decide ((s1.slot .i2).dirty = true) &&
        !s1.store.writeWaiting 13 && decide (6 < s1.store.fifo.length + 2)) = true := by decide

/-- CLOSE by its cases: no holder, in transit, bound, clean, dirty with a WRITE waiting, with five requests and with
six. -/
theorem witness_RanksShiftAndCloseFreesASlot :
    serialParam (natBytes 4 13) = .ok 13 ∧
    (given raisedPit 0x29 (natBytes 4 13) fun s1 => decide (s1.holder 13 = none)) = true ∧
    (given (slotsPit (transit .loading 13 2) (Slot.free 3)) 0x29 (natBytes 4 13) fun s1 =>
      decide (s1.holder 13 = some .i2 ∧ (s1.slot .i2).state ≠ .openSlot)) = true ∧
    (given raisedPit 0x29 (natBytes 4 11) fun s1 =>
      decide (s1.holder 11 = some .i0 ∧ (s1.slot .i0).binding ≠ none)) = true ∧
    (given (openedPit false) 0x29 (natBytes 4 13) fun s1 =>
      decide (s1.holder 13 = some .i2 ∧ (s1.slot .i2).binding = none ∧ (s1.slot .i2).dirty = false)) = true ∧
    ([5, 6].all fun n =>
      given (behind n (openedPit true)) 0x29 (natBytes 4 13) fun s1 =>
        decide (s1.holder 13 = some .i2 ∧ (s1.slot .i2).dirty = true ∧ s1.store.fifo.length = n) &&
          Ix.all.all fun j => decide (Request.write 13 j ∉ s1.store.waiting)) = true := by decide

/-- BIND of an open record to a free station, and its four refusals; UNBIND in DOWN, and with the bogie raised. -/
theorem witness_BindAndUnbindStations :
    (let s := configuredPit.setSlot .i0 (slotOf 11 0 none none)
     bindParams (natBytes 4 11 ++ [1]) = .ok (11, .b) ∧
       (given s 0x2A (natBytes 4 11 ++ [1]) fun s1 =>
         decide (s1.holder 11 = some .i0 ∧ (s1.slot .i0).state = .openSlot ∧ (s1.slot .i0).binding = none ∧
           s1.boundSlot .b = none ∧ s1.stationRequested .b = false)) = true) ∧
    (given (configuredPit.setSlot .i0 (slotOf 11 0 (some .a) (some measurement))) 0x2B [0] fun s1 =>
      decide (s1.boundSlot .a = some .i0 ∧ s1.lift.state = .down ∧ (s1.cut .a).state = .idle)) = true ∧
    (given raisedPit 0x2B [0] fun s1 => decide (s1.lift.state ≠ .down)) = true ∧
    (given raisedPit 0x2A (natBytes 4 13 ++ [1]) fun s1 => decide (s1.holder 13 = none)) = true ∧
    (given (slotsPit (transit .loading 13 2) (Slot.free 3)) 0x2A (natBytes 4 13 ++ [1]) fun s1 =>
      decide (s1.holder 13 = some .i2 ∧ (s1.slot .i2).state ≠ .openSlot)) = true ∧
    (given raisedPit 0x2A (natBytes 4 11 ++ [1]) fun s1 =>
      decide (s1.holder 11 = some .i0 ∧ (s1.slot .i0).binding ≠ none)) = true ∧
    (given (slotsPit (openSlot2 false) (Slot.free 3)) 0x2A (natBytes 4 13 ++ [1]) fun s1 =>
      decide (s1.holder 13 = some .i2 ∧ (s1.slot .i2).binding = none ∧ s1.boundSlot .b ≠ none)) = true := by decide

theorem witness_LogMeasurementAppendsAnEntry :
    stationParam [0] = .ok .a ∧
    (given raisedPit 0x2C [0] fun s1 =>
      decide (s1.boundSlot .a = some .i0 ∧ (s1.cut .a).state = .idle ∧
        (s1.slot .i0).measurement = some measurement ∧ (s1.slot .i0).working = some record)) = true ∧
    (record.append { cutEntry with kind := .measure }).isSome = true ∧
    ({ record with nextSequence := none } : Record).nextSequence = none ∧
    (given cuttingPit 0x2C [0] fun s1 => decide ((s1.cut .a).state ≠ .idle ∧ (s1.cut .a).state ≠ .stopped)) = true ∧
    (given (raisedPit.setSlot .i0 (slotOf 11 0 (some .a) none)) 0x2C [0] fun s1 =>
      decide (s1.boundSlot .a = some .i0 ∧ (s1.cut .a).state = .idle ∧ (s1.slot .i0).measurement = none)) = true := by
  decide

/-- A LOAD in service for slot 2, and the completions of R28 for a WRITE. -/
theorem witness_LoadsAndWritesEndInTheirSlots :
    (let s := (servingPit (.load 13 .i2) none).setSlot .i2 (transit .loading 13 2)
     s.store.service = some ⟨.load 13 .i2, none⟩ ∧ s.store.placeOf 13 = some 2 ∧
       (s.store.place 2).body = some record ∧ ((failing s).store.place 2).body = none ∧ Memory.wf (failing s) ∧
       s.store.placeOf 14 = none) ∧
    (let s (incoming : Option Incoming) :=
       (servingPit (.write 13 .i2) (some record)).setSlot .i2 { transit .writing 13 2 with incoming := incoming }
     Memory.wf (s none) ∧ (s none).store.service = some ⟨.write 13 .i2, some record⟩ ∧
       (s none).store.placeOf 13 = some 2 ∧ ((s none).slot .i2).state = .writing ∧
       ((s none).slot .i2).serial = some 13 ∧ (s none).store.slotWriteWaiting .i2 = false ∧
       ((s (some ⟨14, 5, none⟩)).slot .i2).incoming = some ⟨14, 5, none⟩) ∧
    ((servingPit (.write 11 .i0) (some record)).slot .i0).state ≠ .writing := by decide +kernel

/-- A LOAD with a requested binding while a MEASURE is in progress, whose run entry of that station is then marked
rebound, and one that asks for no binding. -/
theorem witness_LoadsAndWritesEndInTheirSlots_bound :
    let s (r : Option Station) : State :=
      (servingPit (.load 13 .i2) none).setSlot .i2 { transit .loading 13 2 with requested := r }
    let u : State := { s (some .b) with
      engine := { (s none).engine with run := some ⟨3, [⟨.b, .i1, 12, 7, false⟩], false⟩ } }
    (u.slot .i2).requested = some .b ∧ u.store.placeOf 13 = some 2 ∧ (u.store.place 2).body = some record ∧
      ((s none).slot .i2).requested = none ∧
      (match exec .loadComplete u with
       | .next t => t.engine.run.map fun r => r.entries
       | _ => none) = some [⟨.b, .i1, 12, 7, true⟩] := by decide +kernel

/-! ### The lift group -/

/-- The part with an input about to be accepted false, or true. -/
def falling (i : Input) (s : State) : State :=
  { s with inputs := s.inputs.set i { InputState.reset true true with raw := false, timer := .running 20 } }
def rising (i : Input) (s : State) : State :=
  { s with inputs := s.inputs.set i { InputState.reset false false with raw := true, timer := .running 20 } }

/-- The condition of a move of the lift, as a test. -/
def ready (s : State) : Bool :=
  decide (s.level? .estopOk = true ∧ s.level? .pressureOk = true ∧ s.level? .toolhomeA = true ∧
    s.level? .toolhomeB = true ∧ s.level? .probeParkedA = true ∧ s.level? .probeParkedB = true) &&
  [Station.a, .b].all fun st =>
    decide ((s.cut st).state = .idle ∧ (s.sweepOf st).state ≠ .indexing ∧ (s.sweepOf st).state ≠ .traversing)

theorem ready_iff (s : State) : ready s = true ↔ s.moveReady := by
  constructor
  · intro h
    simp only [ready, List.all_cons, List.all_nil, Bool.and_true, Bool.and_eq_true, decide_eq_true_eq] at h
    obtain ⟨⟨a, b, c, d, e, f⟩, g, k⟩ := h
    exact ⟨a, b, c, d, e, f, bothStations g k⟩
  · rintro ⟨a, b, c, d, e, f, g⟩
    simp [ready, a, b, c, d, e, f, g]

/-- The lift in a state of a move, all four points at one height. -/
def heightPit (state : LiftState) (h : Int) : State :=
  let s := movingPit state .passed (Four.const h)
  { s with lift := { s.lift with move := some ⟨30000, .up, .passed⟩ } }

def isRaise (s : State) (p : State → Bool) : Bool :=
  given s 0x30 (i32Bytes 30000) fun s1 => ready s1 && decide (s1.setup.pit = some pit) && p s1

def isLower (s : State) (p : State → Bool) : Bool :=
  given s 0x31 [] fun s1 => ready s1 && decide (s1.setup.pit = some pit) && p s1

/-- RAISE from every state that takes it, at and above the clearance height; LOWER at 8,000, 7,999, 201 and 200. -/
theorem witness_RaiseAndLowerStartMoves :
    raiseParams (i32Bytes 30000) = .ok 30000 ∧
    ([(LiftState.down, 0), (.hold, 8000), (.raising, 8001), (.lowering, 30000), (.raised, 30000)].all fun x =>
      isRaise (heightPit x.1 x.2) fun s1 => decide (s1.lift.state = x.1)) = true ∧
    (isRaise (movingPit (.bridgeWait .up) .pending (Four.const 8000)) fun s1 =>
      decide (s1.lift.state = .bridgeWait .up ∧ s1.lift.move = some ⟨30000, .up, .pending⟩) &&
        decide (s1.lift.revalve s1.level.relevel = s1.lift ∧ s1.lift.holds = LiftCauses.empty ∧
          s1.lift.fault = none)) = true ∧
    (isRaise (heightPit (.bridgeWait .down) 8000) fun s1 => s1.lift.move.isSome) = true ∧
    (given configuredPit 0x31 [] fun s1 => decide (s1.lift.state = .down)) = true ∧
    (isLower (heightPit .raised 8000) fun s1 => decide (pit.clearance ≤ s1.lift.highest ∧ 0 < pit.clearance)) = true ∧
    ([7999, 201].all fun h => isLower (heightPit .hold h) fun s1 =>
      decide (s1.lift.highest < pit.clearance ∧ 200 < s1.lift.highest)) = true ∧
    (isLower (heightPit .lowering 200) fun s1 => decide (s1.lift.highest ≤ 200)) = true ∧
    (isLower (heightPit (.bridgeWait .up) 8000) fun s1 =>
      decide (s1.lift.move = some ⟨30000, .up, .passed⟩ ∧ 200 < s1.lift.highest)) = true ∧
    (isLower (heightPit (.bridgeWait .down) 8000) fun s1 => s1.lift.move.isSome) = true := by decide

/-- The five refusals in their order, and the LOWER in DOWN. -/
theorem witness_MovesAreRefusedInOrder :
    (given (heightPit .fault 0) 0x30 (i32Bytes 30000) fun s1 => decide (s1.lift.state = .fault)) = true ∧
    (given configuredPit 0x31 [] fun s1 => decide (s1.lift.state = .down)) = true ∧
    (given State.reset 0x30 (i32Bytes 30000) fun s1 => decide (s1.lift.state = .down ∧ s1.setup.pit = none)) = true ∧
    (given { configuredPit with inputs := configuredPit.inputs.set .toolhomeA (InputState.reset false false) } 0x30
      (i32Bytes 30000) fun s1 => decide (s1.setup.pit ≠ none ∧ s1.level? .toolhomeA = false)) = true ∧
    (given (sweepingPit .traversing .awaitSample .live) 0x31 [] fun s1 =>
      decide (s1.lift.state = .raised ∧ s1.level? .estopOk = true ∧ s1.level? .probeParkedA = true) && !ready s1) =
      true := by decide

/-- A hold from a move at the clearance height, and one from RAISED, each with its causes gone and present; a hold
from a move with a tool out and with a cut going on; the parking states. -/
theorem witness_HoldsStopAndResume :
    ([LiftState.raising, .bridgeWait .up, .raised, .hold, .fault, .parking, .parked, .unparking].all fun l =>
      given (heightPit l 8000) 0x32 [] fun s1 => decide (s1.lift.state = l)) = true ∧
    (given (movingPit .hold .pending (Four.const 0)) 0x33 [] fun s1 =>
      ready s1 && decide (s1.lift.move = some ⟨30000, .up, .pending⟩ ∧ s1.setup.pit = some pit)) = true ∧
    (let s := { raisedPit with lift := { raisedPit.lift.halted .hold with holds := { LiftCauses.empty with host := true } } }
     (given s 0x33 [] fun s1 =>
       decide (s1.lift.state = .hold ∧ s1.lift.move = none ∧ s1.lift.interrupted = some .raised ∧
         s1.level? .estopOk = true ∧ s1.level? .pressureOk = true)) = true ∧
     (given { s with inputs := s.inputs.set .pressureOk (InputState.reset false false) } 0x33 [] fun s1 =>
       decide (s1.lift.state = .hold ∧ s1.level? .pressureOk = false)) = true) ∧
    (let held (s : State) := { s with lift := (movingPit .hold .pending (Four.const 0)).lift }
     (given (held { raisedPit with inputs := raisedPit.inputs.set .toolhomeA (InputState.reset false false) }) 0x33 []
       fun s1 => decide (s1.lift.state = .hold ∧ s1.lift.move ≠ none ∧ s1.level? .toolhomeA = false ∧
         s1.level? .estopOk = true ∧ s1.level? .pressureOk = true)) = true ∧
     (given (held cuttingPit) 0x33 [] fun s1 => decide (s1.lift.move ≠ none ∧ (s1.cut .a).state ≠ .idle) &&
       [Input.toolhomeA, .toolhomeB, .probeParkedA, .probeParkedB].all fun i => s1.level? i) = true) ∧
    (given { raisedPit with lift := raisedPit.lift.halted .hold } 0x33 [] fun s1 =>
      decide (s1.lift.move = none ∧ s1.lift.interrupted = some .raised)) = true ∧
    (given { raisedPit with lift := { raisedPit.lift.halted .hold with interrupted := none } } 0x33 [] fun s1 =>
      decide (s1.lift.state = .hold ∧ s1.lift.move = none ∧ s1.lift.interrupted ≠ some .raised)) = true ∧
    (given raisedPit 0x33 [] fun s1 => decide (s1.lift.state ≠ .hold)) = true ∧
    (given (heightPit .fault 0) 0x34 [] fun s1 => decide (s1.lift.state = .fault)) = true ∧
    (given raisedPit 0x34 [] fun s1 => decide (s1.lift.state ≠ .fault)) = true := by decide

/-- The lift in form in a hold of a move, PARKED and in FAULT. -/
theorem witness_HoldsStopAndResume_inForm :
    ([(LiftState.hold, none), (.parked, none), (.fault, some FaultCause.trip)].all fun x =>
      let l : Lift := ({ (movingPit x.1 .pending (Four.const 8000)).lift with fault := x.2 } : Lift).revalve none
      decide (l.state = x.1 ∧ l.revalve none = l ∧ (l.state ≠ .hold → l.holds = LiftCauses.empty)) &&
        decide (l.fault.isSome = true ↔ l.state = .fault)) = true := by decide

/-- Reports of point A-L: a spread of 4,001, of 4,000, of 1,001, of 1,000, of 501 and of 500; at rail; in a re-level
of two points, whose spread may pass each band while a third point has arrived. -/
theorem witness_ReportsSuperviseTheMove :
    (let s := movingPit .raising .passed (Four.const 10000)
     (s.lift.revalve s.level.relevel = s.lift ∧ s.lift.holds = LiftCauses.empty ∧ s.lift.fault = none) ∧
       s.setup.pit = some pit ∧ s.lift.state = .raising ∧
       ([14001, 14000, 11001, 11000, 10501, 10500].map fun h : Int =>
         let l : Lift := { s.lift with
           points := s.lift.points.set .i0 { s.lift.points.get .i0 with position := min h 60000 } }
         l.highest - l.lowest) = [4001, 4000, 1001, 1000, 501, 500]) ∧
    configuredPit.lift.revalve none = configuredPit.lift ∧ configuredPit.lift.state = .down ∧
    (let s := movingPit .lowering .passed (Four.const 200)
     ({ s.lift with move := some ⟨0, .down, .passed⟩ } : Lift).legToRail = true ∧ s.lift.highest ≤ 200) ∧
    (let set : Four Bool := ⟨true, true, true, false⟩
     let low : Point := { pointAt 29000 with demand := 30000, arrived := false }
     let s := { raisedPit with
       lift := ({ raisedPit.lift with
         points := ⟨low, { low with position := 29001 }, pointAt 30000, pointAt 30000⟩ } : Lift).revalve (some set)
       level := { raisedPit.level with backlog := 1, relevel := some set } }
     s.lift.revalve s.level.relevel = s.lift ∧ s.lift.state = .raised ∧ s.level.relevel = some set ∧
       s.setup.pit = some pit ∧ (s.lift.points.get .i1).arrived = false ∧ (s.lift.points.get .i2).arrived = true ∧
       ([28001, 28000, 24999].map fun h : Int => (29001 - h : Int)) = [1000, 1001, 4002]) := by decide

/-- The last point of a leg to the clearance height, the bridges out and in; of a leg to a target; of a re-level; a
bridge wait whose last bridge comes out, and one whose bridge goes in. -/
theorem witness_ArrivalsEndLegsAndReLevels :
    (let last (stage : BridgeStage) : Lift :=
       let l := (movingPit .raising stage (Four.const 8000)).lift
       ({ l with
          points := (l.points.map fun p => { p with arrived := true }).set .i0
            { l.points.get .i0 with arrived := false } } : Lift).revalve none
     ((last .pending).revalve none = last .pending ∧ (last .pending).holds = LiftCauses.empty ∧
       (last .pending).fault = none) ∧
     ((last .pending).points.get Wheel.al.ix).arrived = false ∧
     ([Ix.i1, .i2, .i3].all fun j => ((last .pending).points.get j).arrived) = true ∧
     (last .pending).move = some ⟨30000, .up, .pending⟩ ∧ (last .passed).move = some ⟨30000, .up, .passed⟩ ∧
     (last .passed).revalve none = last .passed) ∧
    (upLevels.get .bridgeAOut = true ∧ upLevels.get .bridgeBOut = true ∧ restLevels.get .bridgeAOut = false) ∧
    ((movingPit .raising .passed (Four.const 8000)).lift.points.get Wheel.ar.ix).arrived = false ∧
    (let m : Four Bool := (Four.const false).set .i0 true
     let l : Lift := { raisedPit.lift with
       points := raisedPit.lift.points.set .i0 { pointAt 29900 with demand := 30000, arrived := false } }
     (l.revalve (some m)).state = .raised ∧ m.get Wheel.al.ix = true ∧
       (l.revalve (some m)).revalve (some m) = l.revalve (some m)) ∧
    (let s := movingPit (.bridgeWait .up) .pending (Four.const 8000)
     let m : Move := ⟨30000, .up, .pending⟩
     s.lift.state = .bridgeWait m.dir ∧ s.lift.move = some m ∧ s.setup.pit = some pit ∧ m.target ≠ 0 ∧
       ([true, false].all fun level =>
         let u := { s with inputs := (s.inputs.set .bridgeAOut
           { InputState.reset (!level) (!level) with raw := level, timer := .running 20 }) }
         decide ((u.inputs.get .bridgeAOut).timer = .running 20 ∧ (u.inputs.get .bridgeAOut).raw = level ∧
           u.level? .bridgeBOut = true)) = true) := by decide

/-- In-position events of point A-L that only update its record: in HOLD, FAULT, BRIDGE_WAIT and RAISED without a
re-level; of the last point on a leg to 0; in a re-level whose other point has not arrived. -/
theorem witness_ArrivalsEndLegsAndReLevels_alone :
    let apart (s : State) : Prop := s.lift.revalve s.level.relevel = s.lift ∧ (s.lift.points.get .i0).arrived = false
    (apart (movingPit .hold .pending (Four.const 8000)) ∧
      apart (movingPit (.bridgeWait .up) .pending (Four.const 8000)) ∧
      apart (movingPit .fault .passed (Four.const 8000)) ∧
      (movingPit .fault .passed (Four.const 8000)).lift.state = .fault) ∧
    (let s := movingPit .raised .passed (Four.const 30000)
     apart s ∧ s.lift.state = .raised ∧ s.level.relevel = none) ∧
    (let p : Point := { pointAt 0 with position := 201 }
     let s : State := { configuredPit with
       lift := ({ configuredPit.lift with
         state := .lowering, points := ⟨{ p with arrived := false }, p, p, p⟩, move := some ⟨0, .down, .passed⟩ } :
           Lift).revalve none }
     apart s ∧ s.lift.legToRail = true ∧ ([Ix.i1, .i2, .i3].all fun j => (s.lift.points.get j).arrived) = true) ∧
    (let set : Four Bool := ⟨true, true, false, false⟩
     let low : Point := { pointAt 29000 with demand := 30000, arrived := false }
     let s : State := { raisedPit with
       lift := ({ raisedPit.lift with points := ⟨low, low, pointAt 30000, pointAt 30000⟩ } : Lift).revalve (some set)
       level := { raisedPit.level with backlog := 1, relevel := some set } }
     apart s ∧ s.lift.state = .raised ∧ set.get .i1 = true ∧ (s.lift.points.get .i1).arrived = false) := by decide

/-- The raised pit with a backlog and an urgent flag. -/
def owing (n : Nat) (urgent : Bool) (s : State) : State := { s with level := { s.level with backlog := n, urgent := urgent } }

/-- The pit PARKED, with a dwell and the locks engaged or not. -/
def parkedPit (dwell : Dwell) (locks : Bool) : State :=
  { configuredPit with
    lift := { configuredPit.lift with state := .parked }
    level := { configuredPit.level with dwell := dwell, lockRaised := true, relief := true }
    inputs := configuredPit.inputs.set .locksEngaged (InputState.reset locks locks) }

/-- Backlogs of 1 and 2 with a cut going on, of 0 to 2 with the pit idle and a point 301 low and with every point on
level, the urgent flag clear and set, and of 3; a backlog of 2 with only a sweep in motion; the dwell in PARKED. -/
theorem witness_LiftTimersExpire :
    (movingPit .raising .pending (Four.const 0)).lift.moveTimer ≠ .stopped ∧ raisedPit.lift.moveTimer = .stopped ∧
    ([1, 2].all fun n =>
      let s := owing n false cuttingPit
      decide (s.level.interval = .running 120000 ∧ s.lift.state = .raised ∧ s.level.backlog = n) && !s.pitIdle &&
        (s.cut .a).state.inWork) = true ∧
    (let s := { raisedPit with lift := { raisedPit.lift with
        points := raisedPit.lift.points.set .i0 { pointAt 29699 with demand := 30000 } } }
     s.pitIdle = true ∧ s.level.relevel = none ∧ s.lift.offLevel pit.relevelBand ≠ Four.const false) ∧
    3 ≤ (owing 3 true cuttingPit).level.backlog ∧ configuredPit.level.interval = .stopped ∧
    raisedPit.lift.offLevel pit.relevelBand = Four.const false ∧
    ([(2, false), (2, true)].all fun x : Nat × Bool =>
      let s := owing x.1 x.2 (workingPit .held 160 { CutCauses.empty with level := true })
      s.pitIdle && decide (s.level.backlog < 3 ∧ s.level.relevel = none ∧ (s.cut .a).state = .held)) = true ∧
    (let s := owing 2 false (sweepingPit .traversing .awaitSample .live)
     s.level.backlog = 2 ∧ s.level.urgent = false ∧ s.level.relevel = none ∧ s.pitIdle = false ∧
       (s.cut .a).state.inWork = false ∧ (s.cut .b).state.inWork = false ∧ s.level.interval = .running 120000) ∧
    ([true, false].all fun pending => [true, false].all fun pressure => [true, false].all fun locks =>
      let s := parkedPit .running locks
      let u := { s with
        level := { s.level with unparkPending := pending }
        inputs := s.inputs.set .pressureOk (InputState.reset pressure pressure) }
      decide (u.lift.state = .parked ∧ u.level.dwell = .running ∧ u.level.unparkPending = pending ∧
        u.level? .pressureOk = pressure ∧ u.level? .locksEngaged = locks)) = true ∧
    configuredPit.level.dwell ≠ .running := by decide

/-- The move timeout of a re-level, in RAISED. -/
theorem witness_LiftTimersExpire_raised :
    (relevelling raisedPit).lift.moveTimer ≠ .stopped ∧ (relevelling raisedPit).lift.state = .raised := by decide

/-- An interval expiry with a re-level under way, at a backlog of 1 and of 2, the pit idle and not. -/
theorem witness_LiftTimersExpire_underWay :
    ([(1, raisedPit), (2, raisedPit), (2, cuttingPit)].all fun x =>
      let s := owing x.1 false (relevelling x.2)
      decide (s.level.backlog = x.1 ∧ s.level.relevel.isSome = true ∧ s.setup.pit = some pit ∧
        s.level.interval = .running 120000 ∧ s.lift.state = .raised)) = true ∧
    (relevelling raisedPit).pitIdle = true ∧ (relevelling cuttingPit).pitIdle = false ∧
    (relevelling raisedPit).lift.revalve (relevelling raisedPit).level.relevel = (relevelling raisedPit).lift := by decide

theorem witness_ParkingAndUnparking :
    (given raisedPit 0x38 [] fun s1 =>
      s1.pitIdle && decide (s1.lift.state = .raised ∧ s1.level.backlog = 0 ∧ s1.level.urgent = false)) = true ∧
    (given (owing 1 false raisedPit) 0x38 [] fun s1 => s1.pitIdle && decide (0 < s1.level.backlog)) = true ∧
    (given cuttingPit 0x38 [] fun s1 => !s1.pitIdle) = true ∧
    (given raisedPit 0x39 [] fun s1 => decide (s1.lift.state ≠ .parked)) = true ∧
    (given { parkedPit .expired true with setup := Setup.reset } 0x39 [] fun s1 =>
      decide (s1.lift.state = .parked ∧ s1.setup.pit = none)) = true ∧
    (let s := parkedPit .running true
     given { s with inputs := s.inputs.set .estopOk (InputState.reset false false) } 0x39 [] fun s1 =>
       decide (s1.lift.state = .parked ∧ s1.setup.pit ≠ none ∧ s1.level? .estopOk = false)) = true ∧
    (given (parkedPit .running true) 0x39 [] fun s1 =>
      decide (s1.lift.state = .parked ∧ s1.setup.pit ≠ none ∧ s1.level? .estopOk = true ∧ s1.level.dwell = .running)) =
      true ∧
    ([true, false].all fun locks => given (parkedPit .expired locks) 0x39 [] fun s1 =>
      decide (s1.lift.state = .parked ∧ s1.level? .estopOk = true ∧ s1.level.dwell ≠ .running ∧
        s1.level? .pressureOk = true ∧ s1.level? .locksEngaged = locks)) = true := by decide

/-- The waits of PARKING and UNPARKING as each ends, the loss of the locks in PARKED, and a change of them in RAISED. -/
theorem witness_ParkingAndUnparking_waits :
    let waiting (state : LiftState) (step : Option ParkStep) (locks : Bool) : State :=
      let s := parkedPit .running locks
      { s with lift := { s.lift with state := state }, level := { s.level with parkStep := step } }
    let accepts (i : Input) (level : Bool) (s : State) : Prop :=
      (s.inputs.get i).timer = .running 20 ∧ (s.inputs.get i).raw = level
    (let s := rising .locksEngaged (waiting .parking (some .engageWait) false)
     accepts .locksEngaged true s ∧ s.lift.state = .parking ∧ s.level.parkStep = some .engageWait) ∧
    (let s (locks : Bool) := rising .pressureOk (waiting .unparking (some .pressureWait) locks)
     accepts .pressureOk true (s true) ∧ (s true).level? .locksEngaged = true ∧
       accepts .pressureOk true (s false) ∧ (s false).level? .locksEngaged = false ∧
       (s true).lift.state = .unparking ∧ (s false).level.parkStep = some .pressureWait) ∧
    (let s := falling .locksEngaged (waiting .unparking (some .releaseWait) true)
     accepts .locksEngaged false s ∧ s.level.parkStep = some .releaseWait) ∧
    (let s := falling .locksEngaged (waiting .parked none true)
     accepts .locksEngaged false s ∧ s.lift.state = .parked) ∧
    (let s := rising .locksEngaged raisedPit
     accepts .locksEngaged true s ∧ s.lift.state = .raised) := by decide

/-! ### Pit interlocks -/

theorem witness_InputsAreDebounced :
    ((falling .estopOk raisedPit).inputs.get .estopOk).timer ≠ .stopped ∧
      (raisedPit.inputs.get .estopOk).timer = .stopped := by decide

/-- Accepted changes that end no wait: rises in a state where nothing waits for them, and a bridge that moves with the
bogie raised. -/
theorem witness_InputsAreDebounced_alone :
    ([Input.estopOk, .guardClosed, .holddownA, .holddownB, .probeParkedA, .probeParkedB, .pressureOk, .toolhomeA,
      .toolhomeB].all fun i =>
      let s := rising i raisedPit
      decide ((s.inputs.get i).timer ≠ .stopped ∧ (s.inputs.get i).raw = true ∧ s.lift.state = .raised ∧
        (s.cut .a).state = .idle ∧ (s.cut .b).state = .idle)) = true ∧
    (let s := falling .bridgeAOut raisedPit
     (s.inputs.get .bridgeAOut).timer ≠ .stopped ∧ s.lift.state = .raised) := by decide

theorem witness_EmergencyStopStopsThePit :
    ([cuttingPit, heldPit, sweepingPit .traversing .awaitSample .live, movingPit .raising .pending (Four.const 0),
      parkedPit .running true].all fun s =>
      decide (((falling .estopOk s).inputs.get .estopOk).timer = .running 20 ∧
        ((falling .estopOk s).inputs.get .estopOk).raw = false)) = true ∧
    (cuttingPit.boundSlot .a = some .i0 ∧ (cuttingPit.slot .i0).serial = some 11 ∧ (cuttingPit.cut .a).entered = true ∧
      ((cuttingPit.slot .i0).working.any fun r => decide (r.entries = [] ++ [cutEntry])) = true) ∧
    (let x := { cutAt .approach 0 CutCauses.empty with begun := false, entered := false }
     x.entered = false ∧ x.preCut = some ⟨record.lastRadius, []⟩) ∧
    ({ cutAt .aborting 0 CutCauses.empty with abortKind := .recovery } : CutStation).abortKind = .recovery ∧
    (sweepDone.state.onStation = false) := by decide

theorem witness_GuardAndClampFallsStopWork :
    (let s := falling .guardClosed cuttingPit
     (s.inputs.get .guardClosed).timer = .running 20 ∧ (s.inputs.get .guardClosed).raw = false ∧
       (s.cut .a).state = .cutting) ∧
    (let s := falling Station.a.holddown cuttingPit
     (s.inputs.get Station.a.holddown).timer = .running 20 ∧ (s.inputs.get Station.a.holddown).raw = false ∧
       (s.cut .a).state.inWork = true ∧ s.level? Station.a.toolhome = true ∧ (s.cut .b).state.inWork = false) ∧
    ({ cuttingPit with inputs := cuttingPit.inputs.set .toolhomeA (InputState.reset false false) } : State).level?
      Station.a.toolhome = false ∧
    ([movingPit .raising .pending (Four.const 0), cuttingPit, heldPit, sweepingPit .traversing .awaitSample .live,
      movingPit .hold .pending (Four.const 0), configuredPit].all fun s =>
      [Input.pressureOk, .toolhomeA, .probeParkedB].all fun i =>
        decide (((falling i s).inputs.get i).timer = .running 20 ∧ ((falling i s).inputs.get i).raw = false)) = true ∧
    (movingPit .raising .pending (Four.const 0)).lift.state = .raising ∧ cuttingPit.lift.state = .raised ∧
    (movingPit .hold .pending (Four.const 0)).lift.move ≠ none ∧ configuredPit.lift.move = none ∧
    configuredPit.lift.state = .down := by decide

/-! ### Probe units -/

/-- The raised pit with station A's probe unit as given and its sweep record IDLE. -/
def probing (p : Probe) : State :=
  { raisedPit with probes := ⟨p, probe⟩, capture := { raisedPit.capture with sweep := ⟨Sweep.idle, sweepDone⟩ } }

/-- PROBE REFERENCE refused and accepted; the pad, its readings at both ends of the range of a base and past them. -/
theorem witness_ReferencingRunsToReady :
    stationParam [0] = .ok .a ∧
    (given (probing probe) 0x40 [0] fun s1 => !(s1.probe .a).calMode && decide ((s1.probe .a).state = .ready)) = true ∧
    (given (probing { probe with calMode := true }) 0x40 [0] fun s1 => (s1.probe .a).calMode) = true ∧
    (let s := probing { probe with state := .referencing, base := none, padRequested := true }
     s.setup.pit = some pit ∧ (s.probe .a).state = .referencing ∧ (s.probe .a).padRequested = true ∧
       pit.datum.get .a - 190000 = 250000 ∧ pit.datum.get .a - (-310000) = 750000 ∧
       pit.datum.get .a - 190001 < 250000 ∧ 750000 < pit.datum.get .a - (-310001)) ∧
    (let p : Probe := { probe with state := .settling, settle := .running 5000 }
     p.state = .settling ∧ p.settle ≠ .stopped ∧ p.state ≠ .referencing) ∧ probe.settle = .stopped := by decide

/-- Seven pairs taken, of heads whose proposed corrections are 500 and 501. -/
def calibrating (measure : CalMeasure) (late : Nat) : State :=
  probing { probe with calMode := true, measure := measure, lateAnswers := late }

theorem witness_CalibrationRuns :
    (given (probing probe) 0x41 [0] fun s1 => decide ((s1.probe .a).state = .ready ∧ (s1.sweepOf .a).state = .idle)) =
      true ∧
    (given raisedPit 0x41 [0] fun s1 => decide ((s1.probe .a).calMode = false)) = true ∧
    (given (probing Probe.reset) 0x41 [0] fun s1 => decide ((s1.probe .a).state ≠ .ready)) = true ∧
    (given (calibrating .none 0) 0x42 [0] fun s1 =>
      (s1.probe .a).calMode && decide ((s1.probe .a).measure = .none ∧ s1.setup.pit ≠ none)) = true ∧
    (given (calibrating .toRing 0) 0x42 [0] fun s1 => decide ((s1.probe .a).measure ≠ .none)) = true ∧
    ([CalMeasure.none, .toRing, .reading []].all fun m => given (calibrating m 0) 0x43 [0] fun s1 =>
      (s1.probe .a).calMode && decide ((s1.probe .a).measure = m)) = true ∧
    0 < ((calibrating .none 1).probe .a).lateAnswers ∧
    (let seven (x : Int) : List (Pair Int) := List.replicate 7 ⟨x, x⟩
     let proposed (x : Int) : Int := 0 - ((x :: (seven x).map fun p => p.l).sum / 8 - pit.ring.get .a)
     (seven 449500).length = 7 ∧ proposed 449500 = 500 ∧ proposed 449499 = 501 ∧ proposed 450500 = -500 ∧
       proposed 450501 = -501 ∧ probe.base = some ⟨450000, 450000⟩) := by decide

/-! ### Profile capture -/

/-- SWEEP accepted over a finished and over a paused sweep, FRESH and MERGE, and refused. -/
theorem witness_SweepsStartAtTheRollersRow :
    sweepParams [0, 159, 0, 1] = .ok ⟨.a, 159, 0, .merge⟩ ∧
    ([raisedPit, sweepingPit .paused .none .givenUp].all fun s => given s 0x48 [0, 159, 0, 1] fun s1 =>
      decide ((s1.probe .a).state = .ready ∧ (s1.probe .a).calibrated = true ∧ (s1.probe .a).calMode = false ∧
        s1.lift.state = .raised ∧ s1.boundSlot .a ≠ none ∧ (s1.cut .a).state = .idle ∧
        (s1.sweepOf .a).state ≠ .indexing ∧ (s1.sweepOf .a).state ≠ .traversing) && !s1.notLevel &&
        s1.level? .guardClosed && decide (s1.setup.pit ≠ none ∧ s1.setup.cut ≠ none) &&
        (s1.sweepOf .a).run.any fun r => decide (r.epoch = s1.level.epoch ∧ r.material = (s1.cut .a).material)) =
      true ∧
    (given (owing 3 false raisedPit) 0x48 [0, 3, 8, 0] fun s1 => s1.notLevel) = true := by decide

theorem witness_SweepsStopContinueAndAreRead :
    ([(SweepState.traversing, SweepStep.awaitSample), (.paused, .none), (.done, .none)].all fun x =>
      given (sweepingPit x.1 x.2 .live) 0x4A [0] fun s1 => decide ((s1.sweepOf .a).state = x.1)) = true ∧
    (given (sweepingPit .paused .none .none) 0x49 [0] fun s1 =>
      decide ((s1.sweepOf .a).state = .paused ∧ (s1.probe .a).calMode = false ∧ s1.lift.state = .raised ∧
        s1.boundSlot .a ≠ none) && !s1.notLevel && s1.level? .guardClosed &&
        (s1.sweepOf .a).run.any fun r => decide (r.epoch = s1.level.epoch ∧ r.material = (s1.cut .a).material)) =
      true ∧
    (given { sweepingPit .paused .none .none with level := { raisedPit.level with epoch := 2 } } 0x49 [0] fun s1 =>
      !s1.notLevel && (s1.sweepOf .a).run.any fun r => decide (r.epoch ≠ s1.level.epoch)) = true ∧
    (given raisedPit 0x49 [0] fun s1 => decide ((s1.sweepOf .a).state ≠ .paused)) = true ∧
    ((readProfileParams [1, 8, 150, 40]).toOption.any fun x => decide (x.wheel.station = .a)) = true ∧
    (given raisedPit 0x4B [1, 8, 150, 40] fun _ => true) = true := by decide

theorem witness_SweepStepsWriteEachPair :
    ((sweepingPit .indexing .none .none).sweepOf .a).state = .indexing ∧
    ((sweepingPit .indexing .none .none).sweepOf .a).run.isSome = true ∧
    (let w := (sweepingPit .traversing .awaitPosition .none).sweepOf .a
     w.state = .traversing ∧ w.step = .awaitPosition) ∧
    raisedPit.capture.request.get .a = .none ∧
    (sweepingPit .paused .none .givenUp).capture.request.get .a = .givenUp ∧
    (let s := sweepingPit .traversing .awaitSample .live
     s.capture.request.get .a = .live ∧ (s.sweepOf .a).step = .awaitSample ∧
       (s.probe .a).base = some ⟨450000, 450000⟩ ∧
       ((s.sweepOf .a).run.any fun x => decide (x.lateral < 160 ∧ x.lateral < x.last)) = true) ∧
    (let x : SweepRun :=
       { first := 3, last := 8, mode := .fresh, entry := 2, angular := 1, lateral := 8, epoch := 1, material := 0 }
     x.lateral = x.last ∧ x.lateral < 160) := by decide

/-! ### The Measurement Engine -/

theorem witness_MeasuringStartsWithASearch :
    (given raisedPit 0x50 [] fun s1 =>
      decide (s1.engine.run = none ∧ s1.setup.pit ≠ none ∧ s1.setup.cut ≠ none ∧ s1.lift.state = .raised ∧
        s1.boundSlot .a = some .i0 ∧ (s1.sweepOf .a).state = .done) && s1.captureCurrent .a && s1.captureCurrent .b &&
        decide ((s1.profile record.profileId).state = .complete ∧ s1.store.service = none ∧ s1.store.waiting = [])) =
      true ∧
    (given cuttingPit 0x50 [] fun s1 => !s1.captureCurrent .a) = true ∧
    (given raisedPit 0x51 [0] fun s1 =>
      decide (s1.boundSlot .a = some .i0 ∧ (s1.slot .i0).measurement = some measurement)) = true ∧
    (given configuredPit 0x51 [0] fun s1 => decide (s1.boundSlot .a = none)) = true ∧
    (given (raisedPit.setSlot .i0 (slotOf 11 0 (some .a) none)) 0x51 [0] fun s1 =>
      decide (s1.boundSlot .a = some .i0 ∧ (s1.slot .i0).measurement = none)) = true := by decide

/-- A row over stations 0 to 8 whose tip stands at station 4 and whose flank falls through the level from 5 to 6. -/
def row : List Sample :=
  [450100, 450000, 450050, 450000, 480000, 470000, 455000, 450000, 450030].map Sample.radius

/-- A profile whose measuring station is 7. -/
def gauging : Profile := { profile with measuring := 7 }

theorem witness_WheelsAreGaugedFromUsableRows :
    flangeTip 0 row = some (4, 480000) ∧ gauging.treadValue row = 450000 ∧
    (let level := gauging.treadValue row + 10000
     ([4, 5].all fun k => (rowValue row k).any fun w => decide (level ≤ w)) = true ∧ rowValue row 5 = some 470000 ∧
       rowValue row 6 = some 455000 ∧ (455000 : Int) < level ∧ 480000 < gauging.treadValue row + 30001) ∧
    rowValue (row.take 6) 6 = none ∧ ([row, row] : List (List Sample)) ≠ [] ∧
    ([row].filterMap (gauging.rowThickness 10000) ≠ [] ∧ [row].filterMap (gauging.rowThickness 30001) = []) := by decide

/-- Six rows and five; rows without a thickness; siblings and none; a band met and passed; a condemned target. -/
theorem witness_TargetsAreSettledInStages :
    gauging.zoneTerms [row] ≠ [] ∧
    (let area : Area := (List.range 6).flatMap fun a => row.zipIdx.map fun x => (a * 160 + x.2, x.1)
     let usable (n : Nat) := (((List.range n).map fun a => Area.row area a).filter gauging.usable).length
     usable 8 = 6 ∧ usable 5 = 5) ∧
    (gauging.wheelValues 10000 [row]).flangeThickness ≠ none ∧ (gauging.wheelValues 30001 [row]).flangeThickness = none ∧
    (siblingsOf [] 7).range = none ∧ (siblingsOf [⟨13, 7, 452000, 452500⟩] 7).range = some (452000, 452000) ∧
    (0 : Int) ≤ 500 ∧ (450000 : Int) ≤ 450501 ∧ (500 : Int) < 450501 - 450000 := by decide +kernel

/-- A SEARCH in service for a run over both stations; one after a departure. -/
def searchPit (departed : Bool) : State :=
  { raisedPit with
    store := { raisedPit.store with service := some ⟨.search [7] [11, 12], none⟩ }
    engine :=
      { raisedPit.engine with
        runNumber := 4
        run := some ⟨4, [⟨.a, .i0, 11, 7, false⟩, ⟨.b, .i1, 12, 7, false⟩], departed⟩ } }

theorem witness_SearchDeliversTheResults :
    ([true, false].all fun d =>
      decide ((searchPit d).store.service = some ⟨.search [7] [11, 12], none⟩) &&
        ((searchPit d).engine.run.any fun r =>
          decide ((r.entries.map fun e => e.slot).Nodup ∧ (r.entries.map fun e => e.station).Nodup ∧
            r.departed = d) &&
          r.entries.all fun e => decide (((searchPit d).slot e.slot).state = .openSlot ∧
            ((searchPit d).slot e.slot).serial = some e.serial ∧
            ((searchPit d).slot e.slot).binding = some e.station ∧ e.rebound = false))) = true ∧
    ((searchPit false).sweepOf .a).state = .done ∧ (searchPit false).captureCurrent .a = true ∧
    ((searchPit false).slot .i0).working = some record ∧ (searchPit false).setup.cut = some cutTable := by decide

/-! ### Plans and cutting stations -/

/-- The example's removal of 2,650 by PLAN AUTO and by the host; the finishing depth alone; sixteen passes and one
more. -/
theorem witness_PlansCoverTheRemoval :
    (given raisedPit 0x58 [0] fun s1 =>
      decide ((s1.probe .a).calMode = false ∧ s1.setup.pit ≠ none ∧ s1.setup.cut = some cutTable ∧
        s1.boundSlot .a = some .i0 ∧ s1.plan .a = none ∧ (s1.slot .i0).measurement = some measurement ∧
        (s1.slot .i0).working = some record ∧ measurement.epoch = s1.level.epoch ∧
        measurement.material = (s1.cut .a).material)) = true ∧
    (measurement.stale = false ∧ measurement.verdict = .reprofile ∧ measurement.removal = some 2650 ∧
      measurement.target = some 450000) ∧
    (given configuredPit 0x58 [0] fun s1 => decide (s1.boundSlot .a = none)) = true ∧
    (let l : List Int := [2000, 350, 300]
     planPassesParams ([0, 3] ++ l.flatMap i32Bytes) = .ok (.a, l) ∧ (∀ d ∈ l, 10 ≤ d ∧ d ≤ 5000) ∧ l.sum = 2650 ∧
       (given raisedPit 0x59 ([0, 3] ++ l.flatMap i32Bytes) fun _ => true) = true) ∧
    ((1 : Int) * cutTable.qRough < 2650 - cutTable.qFinish ∧ 2650 - cutTable.qFinish ≤ (1 + 1 : Int) * cutTable.qRough ∧
      0 < cutTable.qRough ∧ (14 : Int) * 2000 < 30000 ∧ (30000 : Int) ≤ 15 * 2000 ∧ 14 + 2 ≤ 16 ∧ ¬15 + 2 ≤ 16) ∧
    (300 : Int) ≤ cutTable.qFinish ∧ 0 < cutTable.feed ∧ profile.zoneFirst ≤ profile.zoneLast := by decide

theorem witness_CuttingStartsWithAnEntry :
    cutStartParams [0, 0] = .ok (.a, false) ∧
    (given plannedPit 0x60 [0, 0] fun s1 =>
      decide ((s1.probe .a).calMode = false ∧ s1.setup.pit ≠ none ∧ s1.setup.cut ≠ none ∧ (s1.cut .a).state = .idle ∧
        (s1.sweepOf .a).state = .done ∧ s1.lift.state = .raised ∧ s1.boundSlot .a = some .i0 ∧
        s1.plan .a = some plan ∧ (s1.slot .i0).serial = some plan.serial ∧
        (s1.slot .i0).measurement = some measurement ∧ (s1.slot .i0).working = some record) && !s1.notLevel &&
        s1.level? .guardClosed && s1.level? Station.a.holddown &&
        decide (s1.store.service = none ∧ s1.store.waiting = [])) = true ∧
    (measurement.run = plan.run ∧ plan.advisories = Advisories.empty ∧ record.state ≠ .condemned ∧
      plan.passes = ⟨2000, 450650⟩ :: [⟨350, 450300⟩, ⟨300, 450000⟩]) ∧
    (record.append cutEntry).isSome = true ∧
    (given raisedPit 0x60 [0, 0] fun s1 => decide (s1.plan .a = none)) = true := by decide

/-- Each state FEED HOLD meets; RESUME with its checks passed and failed; the arrival with causes and without, the pit
idle with nothing owed, with a point off level, and with all on level, urgent or not, for LEVEL alone or not. -/
theorem witness_FeedHoldsAndResumes :
    ([CutState.approach, .cutting, .holding, .held, .idle, .retract, .aborting, .stopped].all fun x =>
      given (workingPit x 160 CutCauses.empty) 0x61 [0] fun s1 => decide ((s1.cut .a).state = x)) = true ∧
    (given cuttingPit 0x61 [0] fun s1 => (s1.plan .a).any fun p => decide (p.pass = some ⟨2000, 450650⟩)) = true ∧
    (given heldPit 0x62 [0] fun s1 =>
      decide ((s1.cut .a).state = .held ∧ s1.lift.state = .raised ∧ (s1.cut .a).holds.level = false) && !s1.notLevel &&
        s1.level? .guardClosed) = true ∧
    (given (owing 3 true heldPit) 0x62 [0] fun s1 => s1.notLevel) = true ∧
    ((workingPit .holding 160 { CutCauses.empty with host := true }).cut .a).holds ≠ CutCauses.empty ∧
    ((workingPit .holding 160 CutCauses.empty).cut .a).state = .holding ∧
    (let s := workingPit .holding 160 { CutCauses.empty with level := true }
     let idle (s : State) : Bool := decide (s.lift.state = .raised ∧ s.level.relevel = none ∧ 0 < s.level.backlog ∧
       (s.cut Station.a.other).state.inWork = false) && [Station.a, .b].all fun o =>
         decide ((s.sweepOf o).state ≠ .indexing ∧ (s.sweepOf o).state ≠ .traversing)
     idle s = false ∧ idle (owing 1 false s) = true ∧ idle (owing 3 true s) = true ∧ s.setup.pit = some pit ∧
       s.lift.offLevel pit.relevelBand = Four.const false ∧ (s.cut .a).holds = { CutCauses.empty with level := true } ∧
       ({ CutCauses.empty with level := true, host := true } : CutCauses) ≠ { CutCauses.empty with level := true } ∧
       ({ s.lift with points := s.lift.points.set .i0 { pointAt 29699 with demand := 30000 } } : Lift).offLevel
         pit.relevelBand ≠ Four.const false ∧
       ((s.plan .a).any fun p => p.pass.isSome) = true) := by decide

/-- CUT ABORT with the tools out and home, after metal and before; in ABORTING; in STOPPED; in RETRACT; the tools home
in an abort of either kind. -/
theorem witness_AbortsTreatTheEntry :
    (given { cuttingPit with inputs := cuttingPit.inputs.set .toolhomeA (InputState.reset false false) } 0x63 [0]
      fun s1 => decide ((s1.cut .a).state = .cutting ∧ s1.level? Station.a.toolhome = false)) = true ∧
    (given cuttingPit 0x63 [0] fun s1 =>
      decide (s1.level? Station.a.toolhome = true ∧ s1.boundSlot .a = some .i0 ∧ (s1.slot .i0).serial = some 11 ∧
        s1.store.service = none ∧ s1.store.waiting = [] ∧ (s1.cut .a).entered = true ∧
        (s1.cut .a).preCut = some ⟨record.lastRadius, []⟩) &&
        ((s1.slot .i0).working.any fun r => decide (r.entries = [] ++ [cutEntry]))) = true ∧
    (given (workingPit .aborting 0 CutCauses.empty) 0x63 [0] fun s1 => decide ((s1.cut .a).state = .aborting)) = true ∧
    (given (workingPit .stopped 5 CutCauses.empty) 0x63 [0] fun s1 =>
      decide ((s1.cut .a).state = .stopped ∧ s1.level? .estopOk = true)) = true ∧
    (let s := workingPit .stopped 5 CutCauses.empty
     given { s with inputs := s.inputs.set .estopOk (InputState.reset false false) } 0x63 [0] fun s1 =>
       decide (s1.level? .estopOk = false)) = true ∧
    (given (workingPit .retract 0 CutCauses.empty) 0x63 [0] fun s1 => decide ((s1.cut .a).state = .retract)) = true ∧
    ([AbortKind.cut, .recovery].all fun k =>
      let s := rising .toolhomeA (workingPit .aborting 0 CutCauses.empty)
      let u := { s with stations := s.stations.set .a { s.cut .a with abortKind := k } }
      decide ((u.inputs.get Station.a.toolhome).timer = .running 20 ∧ (u.inputs.get Station.a.toolhome).raw = true ∧
        (u.cut .a).state = .aborting ∧ (u.cut .a).abortKind = k ∧ u.boundSlot .a = some .i0 ∧
        (u.slot .i0).serial = some 11 ∧ u.store.service = none ∧ u.store.waiting = []) &&
        ((u.slot .i0).working.any fun r => decide (r.entries = [] ++ [cutEntry]))) = true := by decide

/-- A station at the last pulse of the last pass. -/
def lastPass : State :=
  { workingPit .cutting 1 CutCauses.empty with
    plans := ⟨some { plan with inExecution := true, passIndex := 3 }, none⟩ }

/-- Counters of 2 and 1; a pass before the last and the last; the tools out and coming home. -/
theorem witness_PassesRunToTheEndOfTheCut :
    (let s := workingPit .approach 0 CutCauses.empty
     (s.cut .a).state = .approach ∧ ((s.plan .a).any fun p => p.pass.isSome) = true) ∧
    2 ≤ ((workingPit .cutting 2 CutCauses.empty).cut .a).counter ∧
    (let s := workingPit .cutting 1 CutCauses.empty
     (s.cut .a).counter = 1 ∧
       ((s.plan .a).any fun p => decide (p.passIndex < p.passes.length ∧ 1 ≤ p.passIndex)) = true) ∧
    ((lastPass.plan .a).any fun p => decide (p.passes.length ≤ p.passIndex)) = true ∧
    (lastPass.level? Station.a.toolhome = true ∧ lastPass.boundSlot .a = some .i0 ∧
      (lastPass.slot .i0).serial = some 11 ∧ lastPass.store.service = none ∧ lastPass.store.waiting = []) ∧
    ({ lastPass with inputs := lastPass.inputs.set .toolhomeA (InputState.reset false false) } : State).level?
      Station.a.toolhome = false ∧
    (let s := rising .toolhomeA (workingPit .retract 0 CutCauses.empty)
     (s.inputs.get Station.a.toolhome).timer = .running 20 ∧ (s.inputs.get Station.a.toolhome).raw = true ∧
       (s.inputs.get Station.a.toolhome).accepted = false ∧ (s.cut .a).state = .retract ∧ (s.plan .a).isSome = true) :=
  by decide

/-! ### Reset and the invariants -/

/-- A rewrite, an amendment, a retirement, an enrolment and a load in service at the reset; nothing in service. -/
theorem witness_ResetRestoresEveryBlock :
    ([Request.write 11 .i0, .amend 11 ⟨some 5, none, none, none, none, none, none, none⟩ 1, .retire 11 1,
        .enrol 15 record 3 1, .load 13 .i2].all fun r =>
      decide ((servingPit r none).store.service = some ⟨r, none⟩ ∧ Memory.wf (servingPit r none) ∧
        (servingPit r none).store.placeOf 11 = some 0)) = true ∧ raisedPit.store.service = none ∧
      ({ sampled := restLevels, raw := restLevels, heights := ⟨0, 0, 0, 201⟩, rate0 := false, rate1 := false,
         hostReady := true, writeMade := true } : ResetPins).writeMade = true := by decide

/-- R4 and R21: a place written whole reads back its record, the same place torn reads as none, and so does a place
no write has reached. -/
theorem test_body_stands_by_its_check :
    (whole 11).body = some record ∧ (whole 11).tear.body = none ∧ Place.blank.body = none := by decide +kernel

/-- R48: in a re-level, points level again within half the band resume, but a point that has arrived takes no part
and keeps its flag. -/
theorem test_arrived_point_keeps_its_flag :
    (let set : Four Bool := Four.const true
     let p : Point := { pointAt 29000 with demand := 30000, paused := true, pausedDir := some .up, arrived := false }
     let s := { raisedPit with
       lift := { raisedPit.lift with points := ⟨p, p, { p with arrived := true }, p⟩ }
       level := { raisedPit.level with backlog := 1, relevel := some set } }
     match exec (.liftPositionReport .al 29100) s with
     | .next t => t.lift.points.toList.map fun q => q.paused
     | _ => []) = [false, false, true, false] := by decide

/-- A cutting pit with a pulse waiting meets every condition before its step. -/
theorem witness_EveryStepKeepsAddressedLists :
    Memory.wf cuttingPit ∧
      step { cuttingPit with pending := [.revolutionPulse .a] } = exec (.revolutionPulse .a) cuttingPit :=
  ⟨by decide, rfl⟩

theorem witness_EveryStepKeepsListsAndSamples :
    cuttingPit.listsBounded ∧ cuttingPit.oneLoad ∧ cuttingPit.store.fifoServed ∧ cuttingPit.samplesInRange :=
  ⟨by unfold State.listsBounded; decide, by unfold State.oneLoad; decide, fun _ _ => rfl,
    by intro c hc x hx; simp [cuttingPit, workingPit, raisedPit, Capture.reset, Four.toList, Four.const] at hc
       subst hc; simp at hx⟩

theorem witness_EveryStepKeepsSlotsDistinct : cuttingPit.slotsDistinct ∧ cuttingPit.slotsServed :=
  ⟨by unfold State.slotsDistinct; decide, allFour (by decide) (by decide) (by decide) (by decide)⟩

theorem witness_EveryStepKeepsTheLiftInForm : cuttingPit.liftInForm :=
  ⟨by unfold Lift.inForm; decide, by unfold Level.inForm; decide, by decide⟩

theorem witness_EveryStepKeepsCuttingSafe : cuttingPit.cuttingSafe :=
  ⟨allFour (by decide) (by decide) (by decide) (by decide),
    bothStations (by unfold CutStation.inForm; decide) (by unfold CutStation.inForm; decide),
    bothStations (by unfold State.stationSafe; decide) (by unfold State.stationSafe; decide)⟩

end Sys2Proof.Tests
end

section
/-! PROOFS. Chapter 1: the record commands before a serial that names no record (R11), and a WRITE that joins the
store request FIFO (R7, R9). -/

namespace Sys2Proof.Machine

/-! ### A command that its owner refuses -/

/-- Of a command handed to an owner that refuses it, the reply with the refusal's code is all that is left. -/
theorem State.plainCommand_handed_refuse {α : Type} {s s1 : State} {kind tag : Byte} {payload : List Byte}
    {params : Except Code α} {owner : α → State → Answered} {x : α} {c : Code} (hp : params = .ok x)
    (hs : s.handed kind tag payload = some s1) (ho : owner x s1 = s1.refuse c) :
    s.plainCommand kind tag payload params owner = s1.replied kind tag c .none := by
  rw [hp, State.plainCommand_handed hs, ho]
  rfl

/-! ### Serials that name no record (R11) -/

/-- The serials outside the range of records that can exist. -/
theorem validSerial_eq_false_iff (n : Nat) : validSerial n = false ↔ n = 0 ∨ 999999999 < n := by
  simp only [validSerial, Bool.and_eq_false_iff, decide_eq_false_iff_not]
  unfold Config.lastSerial
  omega

section
variable {tag : Byte} {s : State}

theorem State.enrol_of_invalid {x : EnrolParams} (h : validSerial x.serial = false) :
    s.enrol tag x = s.refuse .noRecord := by
  simp [State.enrol, h]

theorem State.amend_of_invalid {x : AmendParams} (h : validSerial x.serial = false) :
    s.amend tag x = s.refuse .noRecord := by
  simp [State.amend, h]

theorem State.retire_of_invalid {n : Nat} (h : validSerial n = false) :
    s.retire tag n = s.refuse .noRecord := by
  simp [State.retire, h]

theorem State.readRecord_of_invalid {x : Nat × RecordPart} (h : validSerial x.1 = false) :
    s.readRecord tag x = s.refuse .noRecord := by
  simp [State.readRecord, h]

end

/-! ### The record commands as commands of the host -/

section
variable (tag : Byte) (payload : List Byte) (s : State)

theorem exec_enrol_eq : exec (.enrol tag payload) s =
    .next (s.plainCommand 0x20 tag payload (enrolParams payload) (State.enrol tag)) := rfl

theorem exec_amend_eq : exec (.amend tag payload) s =
    .next (s.plainCommand 0x21 tag payload (amendParams payload) (State.amend tag)) := rfl

theorem exec_retire_eq : exec (.retire tag payload) s =
    .next (s.plainCommand 0x22 tag payload (serialParam payload) (State.retire tag)) := rfl

theorem exec_readRecord_eq : exec (.readRecord tag payload) s =
    .next (s.plainCommand 0x23 tag payload (readRecordParams payload) (State.readRecord tag)) := rfl

end

/-! ### The FIFO through the operations on it (R7, R9, R16) -/

/-- Making the read window invalid leaves the requests that wait. -/
@[simp] theorem State.spoilWindow_waiting (s : State) (n : Nat) :
    (s.spoilWindow n).store.waiting = s.store.waiting := by
  unfold State.spoilWindow
  split <;> rfl

/-- Making the read window invalid leaves the FIFO. -/
@[simp] theorem State.spoilWindow_fifo (s : State) (n : Nat) : (s.spoilWindow n).store.fifo = s.store.fifo := by
  unfold State.spoilWindow
  split <;> rfl

/-- A request that goes into service stays at the head of the FIFO. -/
@[simp] theorem State.serve_fifo (s : State) : s.serve.store.fifo = s.store.fifo := by
  unfold State.serve
  split
  case h_1 _ hservice hwaiting => simp [Store.fifo, hservice, hwaiting]
  case h_2 _ hservice hwaiting => simp [Store.fifo, hservice, hwaiting]
  case h_3 => rfl

/-- A request joins at the tail, whether or not it goes into service at once. -/
@[simp] theorem State.enqueue_fifo (s : State) (r : Request) : (s.enqueue r).store.fifo = s.store.fifo ++ [r] := by
  rw [State.enqueue, State.serve_fifo]
  simp [Store.fifo]

/-- A WRITE of a serial waits when one for some slot is among the waiting requests. -/
theorem Store.writeWaiting_iff (st : Store) (n : Nat) :
    st.writeWaiting n = true ↔ ∃ j, Request.write n j ∈ st.waiting := by
  simp only [Store.writeWaiting, List.any_eq_true]
  constructor
  · rintro ⟨r, hr, hn⟩
    cases r with
    | write m j =>
      obtain rfl : m = n := by simpa using hn
      exact ⟨j, hr⟩
    | _ => simp at hn
  · rintro ⟨j, hj⟩
    exact ⟨_, hj, by simp⟩

/-- Whether a WRITE of a serial waits does not turn on the read window. -/
@[simp] theorem State.spoilWindow_writeWaiting (s : State) (m n : Nat) :
    (s.spoilWindow m).store.writeWaiting n = s.store.writeWaiting n := by
  simp [Store.writeWaiting]

/-- A WRITE that finds one of its serial waiting merges into it. -/
theorem State.queueWrite_fifo_of_waiting {s : State} {n : Nat} (i : Ix) (h : s.store.writeWaiting n = true) :
    (s.queueWrite n i).store.fifo = s.store.fifo := by
  simp [State.queueWrite, h]

/-- A WRITE that finds none of its serial waiting joins at the tail. -/
theorem State.queueWrite_fifo_of_not_waiting {s : State} {n : Nat} (i : Ix)
    (h : s.store.writeWaiting n = false) :
    (s.queueWrite n i).store.fifo = s.store.fifo ++ [.write n i] := by
  simp [State.queueWrite, h]

/-! ### The obligations -/

/-- Settles O17: each of the four owners tests the serial before anything else, and a refusal leaves the reply
alone. -/
theorem invalidSerialNamesNoRecord : Obligations.InvalidSerialNamesNoRecord := by
  intro tag payload s s1 invalid
  have not_valid {n : Nat} (h : invalid n) : validSerial n = false := (validSerial_eq_false_iff n).2 h
  refine ⟨fun x hx hi hs => ?enrol, fun x hx hi hs => ?amend, fun n hn hi hs => ?retire,
    fun x hx hi hs => ?readRecord⟩
  case enrol =>
    rw [exec_enrol_eq, State.plainCommand_handed_refuse hx hs (State.enrol_of_invalid (not_valid hi))]
  case amend =>
    rw [exec_amend_eq, State.plainCommand_handed_refuse hx hs (State.amend_of_invalid (not_valid hi))]
  case retire =>
    rw [exec_retire_eq, State.plainCommand_handed_refuse hn hs (State.retire_of_invalid (not_valid hi))]
  case readRecord =>
    rw [exec_readRecord_eq, State.plainCommand_handed_refuse hx hs (State.readRecord_of_invalid (not_valid hi))]

/-- Settles O22, by whether a WRITE of the serial waits: going into service keeps the FIFO, so the premise that it
is served is not needed. -/
theorem writesMergeWithAWaitingWrite : Obligations.WritesMergeWithAWaitingWrite := by
  intro s n i _
  constructor
  · intro hwaits
    exact State.queueWrite_fifo_of_waiting i ((s.store.writeWaiting_iff n).2 hwaits)
  · intro hnone
    have hfalse : s.store.writeWaiting n = false := by
      rw [← Bool.not_eq_true, Store.writeWaiting_iff]
      exact not_exists.2 hnone
    exact State.queueWrite_fifo_of_not_waiting i hfalse

end Sys2Proof.Machine
end

section
/-! PROOFS. Chapter 2: the recency ranks (R23), the slot an OPEN takes (R25), and what OPEN and CLOSE make of the
Context Table and of the store request FIFO (R26, R27, R30, R35). -/

namespace Sys2Proof.Machine

/-! ### The recency ranks (R23) -/

/-- The slot made most recent changes in its rank alone. -/
theorem Context.touch_get_self (c : Context) (i : Ix) :
    (c.touch i).slots.get i = { c.slots.get i with rank := 0 } := by
  simp [Context.touch]

/-- Another slot moves back by one if it was more recent, and else stays. -/
theorem Context.touch_get_of_ne (c : Context) {i j : Ix} (h : j ≠ i) :
    (c.touch i).slots.get j =
      if (c.slots.get j).rank < (c.slots.get i).rank then { c.slots.get j with rank := (c.slots.get j).rank + 1 }
      else c.slots.get j := by
  simp [Context.touch, h]

/-- A slot becomes FREE behind all others, and the slots behind it move up. -/
theorem Context.release_get (c : Context) (i j : Ix) :
    (c.release i).slots.get j =
      if j = i then Slot.free 3
      else if (c.slots.get i).rank < (c.slots.get j).rank then
        { c.slots.get j with rank := (c.slots.get j).rank - 1 }
      else c.slots.get j := by
  simp [Context.release]

/-- The recency ranks after a slot is made most recent. -/
theorem Context.touch_get_rank (c : Context) (i j : Ix) :
    ((c.touch i).slots.get j).rank =
      if j = i then 0
      else if (c.slots.get j).rank < (c.slots.get i).rank then (c.slots.get j).rank + 1
      else (c.slots.get j).rank := by
  by_cases hj : j = i
  · simp [hj, Context.touch_get_self]
  · rw [Context.touch_get_of_ne c hj, if_neg hj]
    split <;> rfl

/-- Making a slot most recent changes no slot beside its rank. -/
theorem Context.touch_get_but_rank (c : Context) (i j : Ix) :
    { (c.touch i).slots.get j with rank := 0 } = { c.slots.get j with rank := 0 } := by
  by_cases hj : j = i
  · rw [hj, Context.touch_get_self]
  · rw [Context.touch_get_of_ne c hj]
    split <;> rfl

/-! ### A slot replaced -/

@[simp] theorem State.setSlot_slot_self (s : State) (i : Ix) (sl : Slot) : (s.setSlot i sl).slot i = sl :=
  Four.get_set_same ..

theorem State.setSlot_slot_of_ne (s : State) {i j : Ix} (sl : Slot) (h : j ≠ i) :
    (s.setSlot i sl).slot j = s.slot j :=
  Four.get_set_other _ sl h

theorem State.setSlot_slot_eq (s : State) (i : Ix) : s.setSlot i (s.slot i) = s := by
  cases i <;> rfl

/-- A slot replaced under the same rank and made most recent: the other slots move back as if it had not been
replaced. -/
theorem State.setSlot_touchSlot_slot_of_ne (s : State) {i j : Ix} {sl : Slot} (hrank : sl.rank = (s.slot i).rank)
    (hj : j ≠ i) : ((s.setSlot i sl).touchSlot i).slot j = (s.context.touch i).slots.get j := by
  have hsame : (s.setSlot i sl).context.slots.get j = s.context.slots.get j := s.setSlot_slot_of_ne sl hj
  have hown : ((s.setSlot i sl).context.slots.get i).rank = (s.context.slots.get i).rank :=
    (congrArg Slot.rank (s.setSlot_slot_self i sl)).trans hrank
  calc ((s.setSlot i sl).context.touch i).slots.get j
      = _ := Context.touch_get_of_ne _ hj
    _ = _ := by rw [hsame, hown]
    _ = (s.context.touch i).slots.get j := (Context.touch_get_of_ne _ hj).symm

/-! ### A request goes into service (R7, R24) -/

/-- Whether a request that joins goes into service at once, as far as the scan and the request in service decide. -/
def Store.servesAtOnce (st : Store) : Bool := st.scanned && st.service.isNone

/-- The parts of the store that the FIFO does not touch, beside the read window. -/
def Store.sameRecords (st u : Store) : Prop :=
  u.places = st.places ∧ u.table = st.table ∧ u.scanned = st.scanned ∧ u.results = st.results ∧
    u.resultsLost = st.resultsLost

theorem Store.sameRecords.trans {st u v : Store} (h : st.sameRecords u) (k : u.sameRecords v) :
    st.sameRecords v := by
  obtain ⟨hplaces, htable, hscanned, hresults, hlost⟩ := h
  obtain ⟨kplaces, ktable, kscanned, kresults, klost⟩ := k
  exact ⟨kplaces.trans hplaces, ktable.trans htable, kscanned.trans hscanned, kresults.trans hresults,
    klost.trans hlost⟩

/-- A store whose FIFO is served and that serves at once has no request waiting. -/
theorem Store.fifoServed.waiting_eq_nil {st : Store} (h : st.fifoServed) (hat : st.servesAtOnce = true) :
    st.waiting = [] := by
  simp only [Store.servesAtOnce, Bool.and_eq_true, Option.isNone_iff_eq_none] at hat
  obtain ⟨hscanned, hservice⟩ := hat
  exact h hscanned hservice

/-- A store with a request in service serves none at once. -/
theorem Store.not_servesAtOnce_of_service {st : Store} {r : Service} (h : st.service = some r) :
    st.servesAtOnce = false := by
  simp [Store.servesAtOnce, h]

/-- Nothing goes into service before the scan is done or behind a request in service. -/
theorem State.serve_of_not_servesAtOnce {s : State} (h : s.store.servesAtOnce = false) : s.serve = s := by
  unfold State.serve
  split
  case h_1 _ hscanned hservice _ => simp [Store.servesAtOnce, hscanned, hservice] at h
  case h_2 _ hscanned hservice _ => simp [Store.servesAtOnce, hscanned, hservice] at h
  case h_3 => rfl

/-- A WRITE at the head goes into service with the working copy of its slot, which becomes clean. -/
theorem State.serve_write {s : State} {n : Nat} {i : Ix} {rest : List Request}
    (hat : s.store.servesAtOnce = true) (hwaiting : s.store.waiting = .write n i :: rest) :
    s.serve =
      { s.setSlot i { s.slot i with dirty := false } with
        store := { s.store with service := some ⟨.write n i, (s.slot i).working⟩, waiting := rest } } := by
  simp only [Store.servesAtOnce, Bool.and_eq_true, Option.isNone_iff_eq_none] at hat
  obtain ⟨hscanned, hservice⟩ := hat
  simp only [State.serve, hscanned, hservice, hwaiting]

/-- Once the next request has gone into service, the FIFO is served. -/
theorem State.serve_fifoServed (s : State) : s.serve.store.fifoServed := by
  unfold State.serve
  split
  case h_1 => exact fun _ hservice => nomatch hservice
  case h_2 => exact fun _ hservice => nomatch hservice
  case h_3 _ hother =>
    intro hscanned hservice
    cases hwaiting : s.store.waiting with
    | nil => rfl
    | cons r rest => exact (hother r rest hscanned hservice hwaiting).elim

theorem State.serve_sameRecords (s : State) : s.store.sameRecords s.serve.store := by
  unfold State.serve
  split <;> exact ⟨rfl, rfl, rfl, rfl, rfl⟩

theorem State.serve_window (s : State) : s.serve.store.window = s.store.window := by
  unfold State.serve
  split <;> rfl

/-! ### A request joins the FIFO (R7) -/

section
variable {s : State} (r : Request)

theorem State.enqueue_fifoServed : (s.enqueue r).store.fifoServed := State.serve_fifoServed _

theorem State.enqueue_sameRecords : s.store.sameRecords (s.enqueue r).store := State.serve_sameRecords _

@[simp] theorem State.enqueue_window : (s.enqueue r).store.window = s.store.window := State.serve_window _

/-- A request that is not served at once waits, and that is all. -/
theorem State.enqueue_of_not_servesAtOnce (h : s.store.servesAtOnce = false) :
    s.enqueue r = { s with store := { s.store with waiting := s.store.waiting ++ [r] } } :=
  State.serve_of_not_servesAtOnce h

/-- The request in service stays in service when another joins. -/
theorem State.enqueue_service {x : Service} (h : s.store.service = some x) :
    (s.enqueue r).store.service = some x := by
  rw [State.enqueue_of_not_servesAtOnce r (Store.not_servesAtOnce_of_service h)]
  exact h

end

/-- A LOAD leaves the Context Table as it joins: at the head of the FIFO no WRITE stands before it. -/
theorem State.enqueue_load_context {s : State} (hserved : s.store.fifoServed) (n : Nat) (i : Ix) :
    (s.enqueue (.load n i)).context = s.context := by
  cases hat : s.store.servesAtOnce with
  | false => rw [State.enqueue_of_not_servesAtOnce _ hat]
  | true =>
    have hwaiting := hserved.waiting_eq_nil hat
    simp only [Store.servesAtOnce, Bool.and_eq_true, Option.isNone_iff_eq_none] at hat
    simp [State.enqueue, State.serve, hat, hwaiting]

/-- A WRITE that finds nothing in service takes its content from the slot, which becomes clean (R10, R24). -/
theorem State.enqueue_write_of_servesAtOnce {s : State} (hserved : s.store.fifoServed)
    (hat : s.store.servesAtOnce = true) (n : Nat) (i : Ix) :
    s.enqueue (.write n i) =
      { s.setSlot i { s.slot i with dirty := false } with
        store := { s.store with service := some ⟨.write n i, (s.slot i).working⟩, waiting := [] } } :=
  State.serve_write (s := { s with store := { s.store with waiting := s.store.waiting ++ [.write n i] } }) hat
    (by rw [hserved.waiting_eq_nil hat]; rfl)

/-! ### The read window of a record about to change (R16) -/

/-- The store with the window made invalid for a serial differs in the window alone. -/
theorem State.spoilWindow_store_eq (s : State) (n : Nat) :
    (s.spoilWindow n).store = { s.store with window := (s.spoilWindow n).store.window } := by
  unfold State.spoilWindow
  split <;> rfl

theorem State.spoilWindow_sameRecords (s : State) (n : Nat) :
    s.store.sameRecords (s.spoilWindow n).store := by
  unfold State.spoilWindow
  split <;> exact ⟨rfl, rfl, rfl, rfl, rfl⟩

@[simp] theorem State.spoilWindow_servesAtOnce (s : State) (n : Nat) :
    (s.spoilWindow n).store.servesAtOnce = s.store.servesAtOnce := by
  rw [State.spoilWindow_store_eq]
  rfl

@[simp] theorem State.spoilWindow_service (s : State) (n : Nat) :
    (s.spoilWindow n).store.service = s.store.service := by
  rw [State.spoilWindow_store_eq]

theorem State.spoilWindow_fifoServed {s : State} (h : s.store.fifoServed) (n : Nat) :
    (s.spoilWindow n).store.fifoServed := by
  rw [State.spoilWindow_store_eq]
  exact h

/-- A window on another record does not hold this one. -/
theorem ReadWindow.record_of_content_ne {w : ReadWindow} {n : Nat} (h : (w.content.map fun x => x.1) ≠ some n) :
    w.record n = none := by
  rcases w with ⟨valid, _ | ⟨k, r⟩⟩
  · simp [ReadWindow.record]
  · have hk : k ≠ n := by simpa using h
    simp [ReadWindow.record, hk]

/-- The window holds the serial no more, and every other record it held. -/
theorem State.spoilWindow_record (s : State) (n m : Nat) :
    (s.spoilWindow n).store.window.record m = if m = n then none else s.store.window.record m := by
  unfold State.spoilWindow
  split
  next hspoiled =>
    trans none
    · rfl
    · split
      next => rfl
      next hm =>
        refine (ReadWindow.record_of_content_ne ?_).symm
        rw [hspoiled]
        exact fun h => hm (Option.some.inj h).symm
  next hother =>
    split
    next hm => rw [hm, ReadWindow.record_of_content_ne hother]
    next => rfl

/-! ### A WRITE joins or merges (R9, R10, R24) -/

section
variable {s : State} {n : Nat} {i : Ix}

theorem State.queueWrite_of_waiting (i : Ix) (h : s.store.writeWaiting n = true) :
    s.queueWrite n i = s.spoilWindow n := by
  simp [State.queueWrite, h]

theorem State.queueWrite_of_not_waiting (i : Ix) (h : s.store.writeWaiting n = false) :
    s.queueWrite n i = (s.spoilWindow n).enqueue (.write n i) := by
  simp [State.queueWrite, h]

theorem State.queueWrite_sameRecords : s.store.sameRecords (s.queueWrite n i).store := by
  cases hw : s.store.writeWaiting n with
  | true => rw [State.queueWrite_of_waiting i hw]; exact s.spoilWindow_sameRecords n
  | false =>
    rw [State.queueWrite_of_not_waiting i hw]
    exact (s.spoilWindow_sameRecords n).trans (State.enqueue_sameRecords _)

theorem State.queueWrite_record (m : Nat) :
    (s.queueWrite n i).store.window.record m = if m = n then none else s.store.window.record m := by
  cases hw : s.store.writeWaiting n with
  | true => rw [State.queueWrite_of_waiting i hw, State.spoilWindow_record]
  | false => rw [State.queueWrite_of_not_waiting i hw, State.enqueue_window, State.spoilWindow_record]

theorem State.queueWrite_fifo : (s.queueWrite n i).store.fifo =
    s.store.fifo ++ if s.store.writeWaiting n then [] else [.write n i] := by
  cases hw : s.store.writeWaiting n with
  | true => simp [State.queueWrite_fifo_of_waiting i hw]
  | false => simp [State.queueWrite_fifo_of_not_waiting i hw]

theorem State.queueWrite_service {x : Service} (h : s.store.service = some x) :
    (s.queueWrite n i).store.service = some x := by
  have hspoiled : (s.spoilWindow n).store.service = some x := by simpa using h
  cases hw : s.store.writeWaiting n with
  | true => rwa [State.queueWrite_of_waiting i hw]
  | false => rw [State.queueWrite_of_not_waiting i hw]; exact State.enqueue_service _ hspoiled

theorem State.queueWrite_fifoServed (hserved : s.store.fifoServed) : (s.queueWrite n i).store.fifoServed := by
  cases hw : s.store.writeWaiting n with
  | true => rw [State.queueWrite_of_waiting i hw]; exact State.spoilWindow_fifoServed hserved n
  | false => rw [State.queueWrite_of_not_waiting i hw]; exact State.enqueue_fifoServed _

/-- A WRITE that goes into service at once joins, since none of its serial can wait. -/
theorem State.queueWrite_of_servesAtOnce (hserved : s.store.fifoServed) (hat : s.store.servesAtOnce = true) :
    s.queueWrite n i =
      { (s.spoilWindow n).setSlot i { s.slot i with dirty := false } with
        store :=
          { (s.spoilWindow n).store with service := some ⟨.write n i, (s.slot i).working⟩, waiting := [] } } := by
  have hw : s.store.writeWaiting n = false := by simp [Store.writeWaiting, hserved.waiting_eq_nil hat]
  have hslot : (s.spoilWindow n).slot i = s.slot i := by simp [State.slot]
  rw [State.queueWrite_of_not_waiting i hw, State.enqueue_write_of_servesAtOnce
    (State.spoilWindow_fifoServed hserved n) (by simpa using hat), hslot]

/-- Of the Context Table a WRITE leaves everything but the dirty flag of its slot, which it clears where it goes into
service at once. -/
theorem State.queueWrite_context (hserved : s.store.fifoServed) : (s.queueWrite n i).context =
    (s.setSlot i { s.slot i with dirty := (s.slot i).dirty && !s.store.servesAtOnce }).context := by
  cases hat : s.store.servesAtOnce with
  | true =>
    rw [State.queueWrite_of_servesAtOnce hserved hat]
    simp
  | false =>
    have hkept : (s.queueWrite n i).context = s.context := by
      cases hw : s.store.writeWaiting n with
      | true => rw [State.queueWrite_of_waiting i hw, State.spoilWindow_context]
      | false =>
        rw [State.queueWrite_of_not_waiting i hw, State.enqueue_of_not_servesAtOnce _ (by simpa using hat)]
        exact State.spoilWindow_context ..
    simp only [hkept, Bool.not_false, Bool.and_true]
    exact congrArg State.context (s.setSlot_slot_eq i).symm

end

section
variable {s : State} {n : Nat} {i : Ix} (hserved : s.store.fifoServed)
include hserved

theorem State.queueWrite_slot_self : (s.queueWrite n i).slot i =
    { s.slot i with dirty := (s.slot i).dirty && !s.store.servesAtOnce } := by
  rw [State.slot, State.queueWrite_context hserved]
  exact State.setSlot_slot_self ..

theorem State.queueWrite_slot_of_ne {j : Ix} (hj : j ≠ i) : (s.queueWrite n i).slot j = s.slot j := by
  rw [State.slot, State.queueWrite_context hserved]
  exact State.setSlot_slot_of_ne _ _ hj

theorem State.queueWrite_results : (s.queueWrite n i).context.results = s.context.results := by
  rw [State.queueWrite_context hserved]
  rfl

theorem State.queueWrite_resultsLost : (s.queueWrite n i).context.resultsLost = s.context.resultsLost := by
  rw [State.queueWrite_context hserved]
  rfl

/-- A WRITE that goes into service at once takes the working copy of its slot. -/
theorem State.queueWrite_service_of_servesAtOnce (hat : s.store.servesAtOnce = true) :
    (s.queueWrite n i).store.service = some ⟨.write n i, (s.slot i).working⟩ := by
  rw [State.queueWrite_of_servesAtOnce hserved hat]

end

/-! ### The write-back of a slot (R27, R30) -/

/-- A slot turned WRITING and made most recent. -/
def State.turnWriting (i : Ix) (x : Option Incoming) (s : State) : State :=
  (s.setSlot i { s.slot i with state := .writing, incoming := x }).touchSlot i

@[simp] theorem State.turnWriting_store (s : State) (i : Ix) (x : Option Incoming) :
    (s.turnWriting i x).store = s.store := rfl

@[simp] theorem State.turnWriting_slot_self (s : State) (i : Ix) (x : Option Incoming) :
    (s.turnWriting i x).slot i = { s.slot i with state := .writing, incoming := x, rank := 0 } := by
  simp [State.turnWriting, State.slot, Context.touch_get_self]

theorem State.turnWriting_slot_of_ne (s : State) {i j : Ix} (x : Option Incoming) (hj : j ≠ i) :
    (s.turnWriting i x).slot j = (s.context.touch i).slots.get j :=
  State.setSlot_touchSlot_slot_of_ne s rfl hj

/-- A slot that begins its write-back: WRITING, most recent, its WRITE joining or merging. CLOSE begins one with no
incoming, and OPEN over a dirty victim one with the OPEN as its incoming. -/
def State.beginWriteBack (n : Nat) (i : Ix) (x : Option Incoming) (s : State) : State :=
  (s.turnWriting i x).queueWrite n i

section
variable {s : State} {n : Nat} {i : Ix} {x : Option Incoming} (hserved : s.store.fifoServed)
include hserved

theorem State.beginWriteBack_fifoServed : (s.beginWriteBack n i x).store.fifoServed :=
  State.queueWrite_fifoServed hserved

/-- The slot that begins its write-back. -/
theorem State.beginWriteBack_slot_self :
    (s.beginWriteBack n i x).slot i =
      { s.slot i with
        state := .writing, incoming := x, rank := 0, dirty := (s.slot i).dirty && !s.store.servesAtOnce } := by
  rw [State.beginWriteBack, State.queueWrite_slot_self (s := s.turnWriting i x) hserved, State.turnWriting_slot_self,
    State.turnWriting_store]

/-- A dirty slot stays dirty through the start of its write-back unless its WRITE goes into service at once. -/
theorem State.beginWriteBack_slot_of_dirty (hdirty : (s.slot i).dirty = true) :
    (s.beginWriteBack n i x).slot i =
      { s.slot i with state := .writing, incoming := x, rank := 0, dirty := !s.store.servesAtOnce } := by
  rw [State.beginWriteBack_slot_self hserved, hdirty, Bool.true_and]

/-- The other slots at the start of a write-back move back as for any slot made most recent. -/
theorem State.beginWriteBack_slot_of_ne {j : Ix} (hj : j ≠ i) :
    (s.beginWriteBack n i x).slot j = (s.context.touch i).slots.get j := by
  rw [State.beginWriteBack, State.queueWrite_slot_of_ne (s := s.turnWriting i x) hserved hj,
    State.turnWriting_slot_of_ne s x hj]

theorem State.beginWriteBack_results : (s.beginWriteBack n i x).context.results = s.context.results :=
  State.queueWrite_results (s := s.turnWriting i x) hserved

theorem State.beginWriteBack_resultsLost :
    (s.beginWriteBack n i x).context.resultsLost = s.context.resultsLost :=
  State.queueWrite_resultsLost (s := s.turnWriting i x) hserved

/-- Where the WRITE of a write-back goes into service at once, it takes the working copy of its slot. -/
theorem State.beginWriteBack_service (hat : s.store.servesAtOnce = true) :
    (s.beginWriteBack n i x).store.service = some ⟨.write n i, (s.slot i).working⟩ := by
  rw [State.beginWriteBack, State.queueWrite_service_of_servesAtOnce (s := s.turnWriting i x) hserved hat,
    State.turnWriting_slot_self]

/-- What a write-back leaves of the store. -/
theorem State.beginWriteBack_writesBack (hdirty : (s.slot i).dirty = true) :
    s.writesBack (s.beginWriteBack n i x) n i [] := by
  refine ⟨?fifo, State.beginWriteBack_fifoServed hserved, ?service, ?atOnce, ?dirty, State.queueWrite_record,
    State.queueWrite_sameRecords⟩
  case fifo => rw [List.append_nil]; exact State.queueWrite_fifo
  case service => exact fun r hr => State.queueWrite_service hr
  case atOnce =>
    intro hat
    rw [State.beginWriteBack_service hserved hat, State.beginWriteBack_slot_self hserved]
  case dirty =>
    rw [State.beginWriteBack_slot_of_dirty hserved hdirty]
    rfl

end

/-- The LOAD that joins behind the WRITE of a write-back. -/
theorem State.writesBack.enqueue_load {s t : State} {n : Nat} {i : Ix} (h : s.writesBack t n i []) (m : Nat) (j : Ix) :
    s.writesBack (t.enqueue (.load m j)) n i [.load m j] := by
  obtain ⟨hfifo, hserved, hservice, hatOnce, hdirty, hrecord, hrecords⟩ := h
  have hslot : (t.enqueue (.load m j)).slot i = t.slot i := by
    rw [State.slot, State.enqueue_load_context hserved, State.slot]
  refine ⟨?_, State.enqueue_fifoServed _, fun r hr => State.enqueue_service _ (hservice r hr), fun hat => ?_, ?_, ?_,
    Store.sameRecords.trans hrecords (State.enqueue_sameRecords _)⟩
  · rw [State.enqueue_fifo, hfifo, List.append_nil]
  · rw [hslot]
    exact State.enqueue_service _ (hatOnce hat)
  · rw [hslot, hdirty]
  · rwa [State.enqueue_window]

/-! ### The slot an OPEN takes (R25, case 5) -/

/-- An OPEN slot with no binding: what an OPEN may take when no slot is FREE. -/
def State.evictable (s : State) (i : Ix) : Prop := (s.slot i).state = .openSlot ∧ (s.slot i).binding = none

/-- The evictable slot used least recently. -/
def State.leastRecent (s : State) (i : Ix) : Prop :=
  s.evictable i ∧ ∀ j, j ≠ i → s.evictable j → (s.slot j).rank < (s.slot i).rank

/-- The better victim of the best so far and one more slot: the step of `State.victim`. -/
def State.preferVictim (s : State) (best : Option Ix) (i : Ix) : Option Ix :=
  if (s.slot i).state = .openSlot ∧ (s.slot i).binding = none then
    match best with
    | none => some i
    | some j => if (s.slot j).rank < (s.slot i).rank then some i else best
  else best

theorem State.victim_eq_foldl (s : State) : s.victim = Ix.all.foldl s.preferVictim none := rfl

/-- Every slot is among the four. -/
theorem mem_ixAll (i : Ix) : i ∈ Ix.all := by cases i <;> decide

section
variable {s : State}

/-- What is preferred is the slot looked at, if it is evictable, or the best so far. -/
theorem State.preferVictim_cases (best : Option Ix) (i : Ix) :
    s.preferVictim best i = some i ∧ s.evictable i ∨ s.preferVictim best i = best := by
  by_cases hi : s.evictable i
  · cases best with
    | none => exact .inl ⟨if_pos hi, hi⟩
    | some j =>
      by_cases hrank : (s.slot j).rank < (s.slot i).rank
      · exact .inl ⟨(if_pos hi).trans (if_pos hrank), hi⟩
      · exact .inr ((if_pos hi).trans (if_neg hrank))
  · exact .inr (if_neg hi)

/-- The best of evictable slots is evictable. -/
theorem State.preferVictim_evictable {best : Option Ix} (hbest : ∀ j ∈ best, s.evictable j) (i : Ix) :
    ∀ j ∈ s.preferVictim best i, s.evictable j := by
  intro j hj
  rcases s.preferVictim_cases best i with ⟨heq, hi⟩ | heq
  · rw [heq] at hj
    obtain rfl : i = j := Option.some.inj hj
    exact hi
  · rw [heq] at hj
    exact hbest j hj

/-- The slot used least recently is preferred to any evictable one. -/
theorem State.preferVictim_self {best : Option Ix} {i : Ix} (h : s.leastRecent i)
    (hbest : ∀ j ∈ best, s.evictable j) : s.preferVictim best i = some i := by
  obtain ⟨hi, hmax⟩ := h
  cases best with
  | none => exact if_pos hi
  | some j =>
    refine (if_pos hi).trans ?_
    by_cases hj : j = i
    · simp [hj]
    · exact if_pos (hmax j hj (hbest j rfl))

/-- Nothing is preferred to the slot used least recently. -/
theorem State.preferVictim_keeps {i : Ix} (h : s.leastRecent i) (j : Ix) : s.preferVictim (some i) j = some i := by
  obtain ⟨hi, hmax⟩ := h
  by_cases hj : j = i
  · rw [hj]
    exact State.preferVictim_self ⟨hi, hmax⟩ fun k hk => Option.some.inj hk ▸ hi
  · by_cases hev : s.evictable j
    · exact (if_pos hev).trans (if_neg (Nat.lt_asymm (hmax j hj hev)))
    · exact if_neg hev

theorem State.foldl_preferVictim_evictable (l : List Ix) {best : Option Ix} (hbest : ∀ j ∈ best, s.evictable j) :
    ∀ j ∈ l.foldl s.preferVictim best, s.evictable j := by
  induction l generalizing best with
  | nil => exact hbest
  | cons k l ih => exact ih (State.preferVictim_evictable hbest k)

theorem State.foldl_preferVictim_keeps {i : Ix} (h : s.leastRecent i) (l : List Ix) :
    l.foldl s.preferVictim (some i) = some i := by
  induction l with
  | nil => rfl
  | cons k l ih => rw [List.foldl_cons, State.preferVictim_keeps h, ih]

/-- A search that meets the slot used least recently ends with it. -/
theorem State.foldl_preferVictim_leastRecent {i : Ix} (h : s.leastRecent i) {l : List Ix} (hl : i ∈ l)
    {best : Option Ix} (hbest : ∀ j ∈ best, s.evictable j) : l.foldl s.preferVictim best = some i := by
  induction l generalizing best with
  | nil => cases hl
  | cons k l ih =>
    rcases List.mem_cons.1 hl with rfl | hl
    · rw [List.foldl_cons, State.preferVictim_self h hbest, State.foldl_preferVictim_keeps h]
    · exact ih hl (State.preferVictim_evictable hbest k)

/-- A victim is an OPEN slot with no binding. -/
theorem State.victim_evictable {i : Ix} (h : s.victim = some i) : s.evictable i := by
  rw [State.victim_eq_foldl] at h
  exact State.foldl_preferVictim_evictable Ix.all (best := none) (fun _ hj => nomatch hj) i h

/-- The victim is the evictable slot used least recently. -/
theorem State.victim_of_leastRecent {i : Ix} (h : s.leastRecent i) : s.victim = some i := by
  rw [State.victim_eq_foldl]
  exact State.foldl_preferVictim_leastRecent h (mem_ixAll i) fun _ hj => nomatch hj

theorem State.victim_eq_none (h : ∀ i, ¬s.evictable i) : s.victim = none :=
  Option.eq_none_iff_forall_ne_some.2 fun i hi => h i (State.victim_evictable hi)

/-- With no FREE slot there is no lowest. -/
theorem State.freeSlotIx_eq_none (h : ∀ i, (s.slot i).state ≠ .free) : s.freeSlotIx = none := by
  simp [State.freeSlotIx, h]

/-- The lowest FREE slot. -/
theorem State.freeSlotIx_eq_some {i : Ix} (hfree : (s.slot i).state = .free)
    (hlowest : ∀ j, j.num < i.num → (s.slot j).state ≠ .free) : s.freeSlotIx = some i := by
  unfold State.freeSlotIx
  cases i with
  | i0 => simp [Ix.all, hfree]
  | i1 => simp [Ix.all, hfree, hlowest .i0 (by decide)]
  | i2 => simp [Ix.all, hfree, hlowest .i0 (by decide), hlowest .i1 (by decide)]
  | i3 => simp [Ix.all, hfree, hlowest .i0 (by decide), hlowest .i1 (by decide), hlowest .i2 (by decide)]

end

/-! ### OPEN by its cases (R25) -/

theorem validSerial_of_bounds {n : Nat} (h1 : 1 ≤ n) (h2 : n ≤ 999999999) : validSerial n = true := by
  simp [validSerial, Config.lastSerial, h1, h2]

theorem Store.room_iff (st : Store) (n : Nat) : st.room n = true ↔ st.fifo.length + n ≤ 6 :=
  decide_eq_true_iff

/-- No slot holds a serial. -/
theorem State.holder_eq_none {s : State} {n : Nat} (h : ∀ i, (s.slot i).holds n = false) : s.holder n = none := by
  simp [State.holder, h]

/-- A requested station is bound to a slot or asked for by one. -/
theorem State.stationTaken_iff (s : State) (r : Option Station) :
    s.stationTaken r = true ↔ ∃ st, r = some st ∧ (s.boundSlot st ≠ none ∨ s.stationRequested st = true) := by
  cases r <;> simp [State.stationTaken, Option.isSome_iff_ne_none]

theorem State.stationTaken_eq_false_iff (s : State) (r : Option Station) :
    s.stationTaken r = false ↔ ∀ st, r = some st → s.boundSlot st = none ∧ s.stationRequested st = false := by
  cases r <;> simp [State.stationTaken]

/-- The parameters of an OPEN with the work order clamped (R26). -/
def OpenParams.clamped (x : OpenParams) : OpenParams := { x with workOrder := max 1 (min 999999 x.workOrder) }

theorem clampNat_eq_max_min {lo hi : Nat} (h : lo ≤ hi) (x : Nat) : clampNat lo hi x = max lo (min hi x) := by
  unfold clampNat
  split
  · omega
  · split <;> omega

/-- The work order is adjusted where it lies outside its range. -/
theorem adjustedIf_clampNat {lo hi : Nat} (h : lo ≤ hi) (x : Nat) :
    adjustedIf (clampNat lo hi x ≠ x) = if lo ≤ x ∧ x ≤ hi then .ok else .adjusted := by
  by_cases hx : lo ≤ x ∧ x ≤ hi
  · have hsame : clampNat lo hi x = x := by rw [clampNat_eq_max_min h]; omega
    simp [adjustedIf, hsame, hx]
  · have hchanged : clampNat lo hi x ≠ x := by rw [clampNat_eq_max_min h]; omega
    simp only [adjustedIf, decide_eq_true hchanged, if_neg hx, if_true]

section
variable {s : State} {x : OpenParams} {code : Code} {i : Ix} {n : Nat}

theorem State.openRecord_of_invalid (h : validSerial x.serial = false) : s.openRecord x = s.refuse .noRecord := by
  simp [State.openRecord, h]

theorem State.openRecord_of_written (hv : validSerial x.serial = true) (hh : s.holder x.serial = some i)
    (hw : (s.slot i).state = .writing ∧ (s.slot i).serial = some x.serial) :
    s.openRecord x = s.refuse .contextBusy := by
  simp [State.openRecord, hv, hh, hw]

theorem State.openRecord_of_held (hv : validSerial x.serial = true) (hh : s.holder x.serial = some i)
    (hw : ¬((s.slot i).state = .writing ∧ (s.slot i).serial = some x.serial)) :
    s.openRecord x = s.refuse .alreadyOpen := by
  simp [State.openRecord, hv, hh, hw]

theorem State.openRecord_of_taken (hv : validSerial x.serial = true) (hh : s.holder x.serial = none)
    (ht : s.stationTaken x.requested = true) : s.openRecord x = s.refuse .stationBound := by
  simp [State.openRecord, hv, hh, ht]

/-- An OPEN past its first four cases. -/
theorem State.openRecord_of_not_held (hv : validSerial x.serial = true) (hh : s.holder x.serial = none)
    (ht : s.stationTaken x.requested = false) :
    s.openRecord x =
      s.openInto x.clamped (if 1 ≤ x.workOrder ∧ x.workOrder ≤ 999999 then .ok else .adjusted) := by
  rw [← adjustedIf_clampNat (by decide) x.workOrder, OpenParams.clamped, ← clampNat_eq_max_min (by decide)]
  simp only [State.openRecord, hv, hh, ht, Bool.not_true, Bool.false_eq_true, if_false]

theorem State.openInto_of_free (hf : s.freeSlotIx = some i) :
    s.openInto x code =
      if s.store.room 1 then ⟨s.beginLoad i x, code, .opened i none⟩ else s.refuse .busy := by
  simp only [State.openInto, hf]

theorem State.openInto_of_none (hf : s.freeSlotIx = none) (hv : s.victim = none) :
    s.openInto x code = s.refuse .noSlot := by
  simp only [State.openInto, hf, hv]

theorem State.openInto_of_clean (hf : s.freeSlotIx = none) (hv : s.victim = some i)
    (hd : (s.slot i).dirty = false) :
    s.openInto x code =
      if s.store.room 1 then ⟨s.beginLoad i x, code, .opened i (s.slot i).serial⟩ else s.refuse .busy := by
  simp only [State.openInto, hf, hv, hd, Bool.false_eq_true, if_false]

theorem State.openInto_of_dirty (hf : s.freeSlotIx = none) (hv : s.victim = some i)
    (hd : (s.slot i).dirty = true) (hn : (s.slot i).serial = some n) :
    s.openInto x code =
      if s.store.room (s.store.evictionRequests n) then ⟨s.beginEviction i n x, code, .opened i (some n)⟩
      else s.refuse .busy := by
  simp only [State.openInto, hf, hv, hd, hn, if_true, Option.getD_some]

/-- What a slot taken at once makes of the Context Table: the LOAD that joins leaves it. -/
theorem State.beginLoad_context (hserved : s.store.fifoServed) :
    (s.beginLoad i x).context =
      (s.setSlot i
        { Slot.free (s.slot i).rank with
          state := .loading, serial := some x.serial, workOrder := some x.workOrder,
          requested := x.requested }).context.touch i :=
  State.enqueue_load_context (s := State.touchSlot i (s.setSlot i _)) hserved ..

/-- The slot an OPEN takes when none is FREE. -/
def State.givesWay (s : State) (i : Ix) : Prop :=
  (∀ j, (s.slot j).state ≠ .free) ∧ (s.slot i).state = .openSlot ∧ (s.slot i).binding = none ∧
    ∀ j, j ≠ i → (s.slot j).state = .openSlot → (s.slot j).binding = none → (s.slot j).rank < (s.slot i).rank

theorem State.givesWay.freeSlotIx (h : s.givesWay i) : s.freeSlotIx = none := State.freeSlotIx_eq_none h.1

theorem State.givesWay.victim (h : s.givesWay i) : s.victim = some i := by
  obtain ⟨-, hopen, hunbound, hmax⟩ := h
  refine State.victim_of_leastRecent ⟨⟨hopen, hunbound⟩, ?_⟩
  rintro j hj ⟨hjopen, hjunbound⟩
  exact hmax j hj hjopen hjunbound

/-- An OPEN into the lowest FREE slot or over a clean victim begins its LOAD at once, where there is room for it. -/
theorem State.openInto_at_once
    (h : (s.slot i).state = .free ∧ (∀ j, j.num < i.num → (s.slot j).state ≠ .free) ∨
      s.givesWay i ∧ (s.slot i).dirty = false) :
    s.openInto x code =
      if s.store.room 1 then
        ⟨s.beginLoad i x, code, .opened i (if (s.slot i).state = .free then none else (s.slot i).serial)⟩
      else s.refuse .busy := by
  rcases h with ⟨hfree, hlowest⟩ | ⟨hvictim, hclean⟩
  · rw [State.openInto_of_free (State.freeSlotIx_eq_some hfree hlowest), if_pos hfree]
  · rw [State.openInto_of_clean hvictim.freeSlotIx hvictim.victim hclean, if_neg (hvictim.1 i)]

/-- An OPEN over a dirty victim begins the write-back, where there is room for it and the LOAD. -/
theorem State.openInto_behind (h : s.givesWay i) (hd : (s.slot i).dirty = true) (hn : (s.slot i).serial = some n) :
    s.openInto x code =
      if s.store.room (s.store.evictionRequests n) then
        ⟨(s.beginWriteBack n i (some ⟨x.serial, x.workOrder, x.requested⟩)).enqueue (.load x.serial i), code,
          .opened i (some n)⟩
      else s.refuse .busy :=
  State.openInto_of_dirty h.freeSlotIx h.victim hd hn

theorem State.openInto_full_at_once
    (h : (s.slot i).state = .free ∧ (∀ j, j.num < i.num → (s.slot j).state ≠ .free) ∨
      s.givesWay i ∧ (s.slot i).dirty = false)
    (hfull : 6 < s.store.fifo.length + 1) : s.openInto x code = s.refuse .busy := by
  rw [State.openInto_at_once h, if_neg (by rw [Store.room_iff]; omega)]

theorem State.openInto_full_behind (h : s.givesWay i) (hd : (s.slot i).dirty = true)
    (hn : (s.slot i).serial = some n) (hfull : 6 < s.store.fifo.length + s.store.evictionRequests n) :
    s.openInto x code = s.refuse .busy := by
  rw [State.openInto_behind h hd hn, if_neg (by rw [Store.room_iff]; omega)]

end

/-! ### CLOSE by its cases (R30) -/

section
variable {s : State} {n : Nat} {i : Ix}

theorem State.closeRecord_of_not_held (h : s.holder n = none) : s.closeRecord n = s.refuse .notOpen := by
  simp only [State.closeRecord, h]

theorem State.closeRecord_of_in_transit (h : s.holder n = some i) (hs : (s.slot i).state ≠ .openSlot) :
    s.closeRecord n = s.refuse .contextBusy := by
  simp only [State.closeRecord, h, if_pos hs]

theorem State.closeRecord_of_bound (h : s.holder n = some i) (hs : (s.slot i).state = .openSlot)
    (hb : (s.slot i).binding ≠ none) : s.closeRecord n = s.refuse .bound := by
  simp [State.closeRecord, h, hs, Option.isSome_iff_ne_none.2 hb]

theorem State.closeRecord_of_clean (h : s.holder n = some i) (hs : (s.slot i).state = .openSlot)
    (hb : (s.slot i).binding = none) (hd : (s.slot i).dirty = false) :
    s.closeRecord n = (s.freeSlot i).accept := by
  simp [State.closeRecord, h, hs, hb, hd]

/-- A dirty slot begins its write-back, where its WRITE merges or finds room. -/
theorem State.closeRecord_of_dirty (h : s.holder n = some i) (hs : (s.slot i).state = .openSlot)
    (hb : (s.slot i).binding = none) (hd : (s.slot i).dirty = true) :
    s.closeRecord n =
      if s.store.writeWaiting n || s.store.room 1 then (s.beginWriteBack n i none).accept
      else s.refuse .busy := by
  have hopen : ¬(s.slot i).state ≠ .openSlot := not_not_intro hs
  have hunbound : ¬(s.slot i).binding.isSome = true := by simp [hb]
  simp only [State.closeRecord, h, if_neg hopen, if_neg hunbound, if_pos hd]
  rfl

end

/-! ### OPEN and CLOSE as commands of the host -/

section
variable {tag : Byte} {payload : List Byte} {s s1 : State}

theorem exec_openRecord_eq (tag : Byte) (payload : List Byte) (s : State) : exec (.openRecord tag payload) s =
    .next (s.plainCommand 0x28 tag payload (openParams payload) State.openRecord) := rfl

theorem exec_closeRecord_eq (tag : Byte) (payload : List Byte) (s : State) : exec (.closeRecord tag payload) s =
    .next (s.plainCommand 0x29 tag payload (serialParam payload) State.closeRecord) := rfl

theorem exec_openRecord_handed {x : OpenParams} (hx : openParams payload = .ok x)
    (hs : s.handed 0x28 tag payload = some s1) :
    exec (.openRecord tag payload) s = .next ((s1.openRecord x).sent 0x28 tag) := by
  rw [exec_openRecord_eq, hx, State.plainCommand_handed hs]

theorem exec_closeRecord_handed {n : Nat} (hn : serialParam payload = .ok n)
    (hs : s.handed 0x29 tag payload = some s1) :
    exec (.closeRecord tag payload) s = .next ((s1.closeRecord n).sent 0x29 tag) := by
  rw [exec_closeRecord_eq, hn, State.plainCommand_handed hs]

theorem exec_openRecord_refuse {x : OpenParams} {c : Code} (hx : openParams payload = .ok x)
    (hs : s.handed 0x28 tag payload = some s1) (ho : s1.openRecord x = s1.refuse c) :
    exec (.openRecord tag payload) s = .next (s1.replied 0x28 tag c .none) := by
  rw [exec_openRecord_eq, State.plainCommand_handed_refuse hx hs ho]

theorem exec_closeRecord_refuse {n : Nat} {c : Code} (hn : serialParam payload = .ok n)
    (hs : s.handed 0x29 tag payload = some s1) (ho : s1.closeRecord n = s1.refuse c) :
    exec (.closeRecord tag payload) s = .next (s1.replied 0x29 tag c .none) := by
  rw [exec_closeRecord_eq, State.plainCommand_handed_refuse hn hs ho]

/-- What an owner of the store and the contexts answers leaves every block but theirs and the link. -/
theorem Answered.sent_only {r : Answered} (h : Only [.store, .context] s r.state) (kind tag : Byte) :
    s.answers (r.sent kind tag) kind tag r.code r.answer ∧ Only [.context, .store, .link] s (r.sent kind tag) := by
  have hlink : r.state.link = s.link := h.2 .link (by decide)
  constructor
  · simp [State.answers, Answered.sent, hlink]
  · exact (only_replied _ _ _ _ _ _ _ (by decide)).2 (h.mono (by decide))

end

/-! ### The obligations -/

/-- Settles O24: past its first four cases OPEN takes the slot that `State.openInto` chooses, and the LOAD, or the
WRITE and the LOAD, join a FIFO that is served. -/
theorem openTakesASlot : Obligations.OpenTakesASlot := by
  intro tag payload x i s s1 hx hs hlow hhigh hserved hheld hasked order code victim
  have hopen : s1.openRecord x = s1.openInto x.clamped code :=
    State.openRecord_of_not_held (validSerial_of_bounds hlow hhigh) (State.holder_eq_none hheld)
      ((s1.stationTaken_eq_false_iff _).2 hasked)
  have hexec := exec_openRecord_handed hx hs
  obtain ⟨hreply, honly⟩ := Answered.sent_only (s1.openRecord_only x) 0x28 tag
  refine ⟨fun hslot hroom => ?atOnce, fun n hvictim hdirty hserial hroom => ?behindAWrite⟩
  case atOnce =>
    rw [hopen, State.openInto_at_once hslot, if_pos ((Store.room_iff _ _).2 hroom)] at hexec hreply honly
    obtain ⟨hplaces, htable, hscanned, hresults, hlost⟩ :=
      State.enqueue_sameRecords (s := State.touchSlot i (s1.setSlot i _)) (.load x.serial i)
    exact ⟨_, hexec, hreply, State.beginLoad_context hserved, State.enqueue_fifo .., State.enqueue_fifoServed _,
      fun r hr => State.enqueue_service _ hr, State.enqueue_window _, hplaces, htable, hscanned, hresults, hlost,
      honly⟩
  case behindAWrite =>
    have hroom : s1.store.room (s1.store.evictionRequests n) = true := (Store.room_iff _ _).2 hroom
    rw [hopen, State.openInto_behind hvictim hdirty hserial, if_pos hroom] at hexec hreply honly
    have hcontext := State.enqueue_load_context
      (State.beginWriteBack_fifoServed (n := n) (i := i) (x := some ⟨x.serial, order, x.requested⟩) hserved)
      x.serial i
    refine ⟨_, hexec, hreply, ?own, ?others, ?results, ?lost,
      (State.beginWriteBack_writesBack hserved hdirty).enqueue_load x.serial i, honly⟩
    case own =>
      exact (congrArg (fun c => c.slots.get i) hcontext).trans (State.beginWriteBack_slot_of_dirty hserved hdirty)
    case others =>
      exact fun j hj => (congrArg (fun c => c.slots.get j) hcontext).trans (State.beginWriteBack_slot_of_ne hserved hj)
    case results => exact (congrArg Context.results hcontext).trans (State.beginWriteBack_results hserved)
    case lost => exact (congrArg Context.resultsLost hcontext).trans (State.beginWriteBack_resultsLost hserved)

/-- Settles O25: a victim is an OPEN slot with no binding, and each refusal is a case of OPEN before the acceptance. -/
theorem slotsInTransitAreNoVictims : Obligations.SlotsInTransitAreNoVictims := by
  refine ⟨?noVictim, ?noSlot, ?refusals⟩
  case noVictim =>
    intro s i hvictim
    obtain ⟨hopen, -⟩ := State.victim_evictable hvictim
    rw [hopen]
    exact ⟨nofun, nofun⟩
  case noSlot =>
    intro tag payload x s s1 hx hs hlow hhigh hheld hasked htransit
    have hnofree : s1.freeSlotIx = none := State.freeSlotIx_eq_none fun j hfree => by
      have := htransit j
      simp [hfree] at this
    have hnovictim : s1.victim = none := State.victim_eq_none fun j ⟨hopen, hunbound⟩ => by
      have := htransit j
      simp [hopen, hunbound] at this
    refine exec_openRecord_refuse hx hs ?_
    rw [State.openRecord_of_not_held (validSerial_of_bounds hlow hhigh) (State.holder_eq_none hheld)
      ((s1.stationTaken_eq_false_iff _).2 hasked), State.openInto_of_none hnofree hnovictim]
  case refusals =>
    intro tag payload x s s1 hx hs refused valid taken
    have hvalid (h : valid) : validSerial x.serial = true := validSerial_of_bounds h.1 h.2
    have refuse {c : Code} (h : s1.openRecord x = s1.refuse c) : refused c := exec_openRecord_refuse hx hs h
    refine ⟨fun hno => refuse ?noRecord, fun i hv hh => ⟨fun hheld => refuse ?alreadyOpen,
      fun hstate hserial => refuse ?contextBusy⟩, fun hv hh ht => refuse ?stationBound, ?busy⟩
    case noRecord =>
      refine State.openRecord_of_invalid ((validSerial_eq_false_iff _).2 ?_)
      omega
    case alreadyOpen =>
      refine State.openRecord_of_held (hvalid hv) hh ?_
      rintro ⟨hwriting, hserial⟩
      simp [hwriting, hserial] at hheld
    case contextBusy => exact State.openRecord_of_written (hvalid hv) hh ⟨hstate, hserial⟩
    case stationBound => exact State.openRecord_of_taken (hvalid hv) hh ((s1.stationTaken_iff _).2 ht)
    case busy =>
      intro i hv hh ht victim adds hslot hroom
      have hunasked : s1.stationTaken x.requested = false := by
        rw [← Bool.not_eq_true, State.stationTaken_iff]
        exact ht
      refine refuse ((State.openRecord_of_not_held (hvalid hv) hh hunasked).trans ?_)
      rcases hslot with hfree | ⟨hvictim, hserial⟩
      · have hadds : adds = 1 := by simp [adds, hfree.1]
        exact State.openInto_full_at_once (.inl hfree) (hadds ▸ hroom)
      · have hopen : (s1.slot i).state = .openSlot := hvictim.2.1
        obtain ⟨n, hn⟩ := Option.ne_none_iff_exists'.1 hserial
        cases hd : (s1.slot i).dirty with
        | false =>
          have hadds : adds = 1 := by simp [adds, hd]
          exact State.openInto_full_at_once (.inr ⟨hvictim, hd⟩) (hadds ▸ hroom)
        | true =>
          have hadds : adds = s1.store.evictionRequests n := by
            cases hw : s1.store.writeWaiting n <;> simp [adds, Store.evictionRequests, hopen, hd, hn, hw]
          exact State.openInto_full_behind hvictim hd hn (hadds ▸ hroom)

/-- Settles O26: the ranks slot by slot, and CLOSE by its cases. -/
theorem ranksShiftAndCloseFreesASlot : Obligations.RanksShiftAndCloseFreesASlot := by
  constructor
  · exact fun c i j => ⟨c.touch_get_rank i j, c.touch_get_but_rank i j, c.release_get i j, rfl, rfl⟩
  · intro tag payload n s s1 hn hs hserved
    have refuse {c : Code} (h : s1.closeRecord n = s1.refuse c) :
        exec (.closeRecord tag payload) s = .next (s1.replied 0x29 tag c .none) := exec_closeRecord_refuse hn hs h
    have hexec := exec_closeRecord_handed hn hs
    refine ⟨fun hh => refuse (State.closeRecord_of_not_held hh), fun i hh =>
      ⟨fun hstate => refuse (State.closeRecord_of_in_transit hh hstate),
        fun hopen hbound => refuse (State.closeRecord_of_bound hh hopen hbound),
        fun hopen hunbound hclean => ?clean, fun hopen hunbound hdirty hnone hfull => refuse ?busy,
        fun hopen hunbound hdirty hroom => ?writeBack⟩⟩
    case clean =>
      rw [hexec, State.closeRecord_of_clean hh hopen hunbound hclean]
      rfl
    case busy =>
      have hwaits : ¬s1.store.writeWaiting n = true := fun h =>
        have ⟨j, hj⟩ := (Store.writeWaiting_iff _ _).1 h
        hnone j hj
      have hnoroom : ¬s1.store.room 1 = true := by rw [Store.room_iff]; omega
      rw [State.closeRecord_of_dirty hh hopen hunbound hdirty, if_neg (by simp [hwaits, hnoroom])]
    case writeBack =>
      have hroom : (s1.store.writeWaiting n || s1.store.room 1) = true := by
        rwa [Bool.or_eq_true, Store.writeWaiting_iff, Store.room_iff]
      obtain ⟨hreply, honly⟩ := Answered.sent_only (s1.closeRecord_only n |>.mono (by decide)) 0x29 tag
      rw [State.closeRecord_of_dirty hh hopen hunbound hdirty, if_pos hroom] at hexec hreply honly
      exact ⟨_, hexec, hreply, State.beginWriteBack_slot_of_dirty hserved hdirty,
        fun j hj => State.beginWriteBack_slot_of_ne hserved hj, State.beginWriteBack_results hserved,
        State.beginWriteBack_resultsLost hserved, State.beginWriteBack_writesBack hserved hdirty, honly⟩

end Sys2Proof.Machine
end

section
/-! PROOFS. Chapter 3: the commands of the lift by the answers of their owner, and the checks of RAISE and LOWER
(R45). -/

namespace Sys2Proof.Machine

/-! ### A command by the answer of its owner -/

section
variable {c : Instr} {s s1 t : State} {kind tag : Byte} {r : Answered}

/-- Of a command that its owner refuses, the reply is all that is left. -/
theorem exec_of_refuse {x : Code} (hexec : exec c s = .next (r.sent kind tag)) (hr : r = s1.refuse x) :
    exec c s = .next (s1.replied kind tag x .none) := by
  rw [hexec, hr]
  rfl

/-- A command that its owner accepts leaves the owner's state with the reply OK, which is all the link gets when
the owner leaves the link alone. -/
theorem exec_of_accept (hexec : exec c s = .next (r.sent kind tag)) (hr : r = t.accept) (hlink : t.link = s1.link) :
    exec c s = .next (t.replied kind tag .ok .none) ∧
      s1.answers (t.replied kind tag .ok .none) kind tag .ok .none := by
  refine ⟨by rw [hexec, hr]; rfl, ?_⟩
  simp [State.answers, hlink]

end

section
variable {tag : Byte} {payload : List Byte} {s s1 : State}

theorem exec_raise_eq : exec (.raise tag payload) s =
    .next (s.plainCommand 0x30 tag payload (raiseParams payload) State.raiseLift) := rfl

theorem exec_raise_handed {h : Int} (hp : raiseParams payload = .ok h) (hs : s.handed 0x30 tag payload = some s1) :
    exec (.raise tag payload) s = .next ((s1.raiseLift h).sent 0x30 tag) := by
  rw [exec_raise_eq, hp, State.plainCommand_handed hs]

theorem exec_lower_handed (hs : s.handed 0x31 tag [] = some s1) :
    exec (.lower tag []) s = .next (s1.lowerLift.sent 0x31 tag) :=
  congrArg Host.Outcome.next (State.plainCommand_handed (x := ()) hs)

theorem exec_liftStop_handed (hs : s.handed 0x32 tag [] = some s1) :
    exec (.liftStop tag []) s = .next (s1.stopLift.sent 0x32 tag) :=
  congrArg Host.Outcome.next (State.plainCommand_handed (x := ()) hs)

theorem exec_liftResume_handed (hs : s.handed 0x33 tag [] = some s1) :
    exec (.liftResume tag []) s = .next (s1.resumeLift.sent 0x33 tag) :=
  congrArg Host.Outcome.next (State.plainCommand_handed (x := ()) hs)

theorem exec_faultClear_handed (hs : s.handed 0x34 tag [] = some s1) :
    exec (.faultClear tag []) s = .next (s1.clearFault.sent 0x34 tag) :=
  congrArg Host.Outcome.next (State.plainCommand_handed (x := ()) hs)

end

/-! ### The checks of a move (R45) -/

/-- The states in which RAISE and LOWER are refused before anything else (R45, check 1). -/
def LiftState.barsMoves (l : LiftState) : Prop := l = .fault ∨ l = .parking ∨ l = .parked ∨ l = .unparking

/-- Stop circuit and pressure are good, the tools home and the probes parked (R45, check 4). -/
def State.interlocksGood (s : State) : Bool := s.level? .estopOk && s.level? .pressureOk && s.carriagesHome

theorem SweepState.inMotion_eq_false_iff (w : SweepState) : w.inMotion = false ↔
    w ≠ .indexing ∧ w ≠ .traversing := by
  cases w <;> simp [SweepState.inMotion]

theorem State.carriagesHome_iff (s : State) : s.carriagesHome = true ↔
    ∀ i ∈ [Input.toolhomeA, .toolhomeB, .probeParkedA, .probeParkedB], s.level? i = true := by
  simp [State.carriagesHome, and_assoc]

theorem State.stationsFree_iff (s : State) : s.stationsFree = true ↔
    ∀ st, (s.cut st).state = .idle ∧ (s.sweepOf st).state ≠ .indexing ∧
      (s.sweepOf st).state ≠ .traversing := by
  simp only [State.stationsFree, Bool.and_eq_true, Bool.not_eq_true', decide_eq_true_eq,
    SweepState.inMotion_eq_false_iff]
  constructor
  · rintro ⟨⟨⟨ha, hb⟩, hwa⟩, hwb⟩ (_ | _)
    · exact ⟨ha, hwa⟩
    · exact ⟨hb, hwb⟩
  · intro h
    exact ⟨⟨⟨(h .a).1, (h .b).1⟩, (h .a).2⟩, (h .b).2⟩

theorem State.interlocksGood_iff (s : State) : s.interlocksGood = true ↔
    ∀ i ∈ [Input.estopOk, .pressureOk, .toolhomeA, .toolhomeB, .probeParkedA, .probeParkedB],
      s.level? i = true := by
  simp [State.interlocksGood, State.carriagesHome_iff, and_assoc]

/-- A move is ready when checks 4 and 5 of R45 pass. -/
theorem State.moveReady_iff (s : State) : s.moveReady ↔ s.interlocksGood = true ∧ s.stationsFree = true := by
  simp only [State.moveReady, State.interlocksGood_iff, State.stationsFree_iff, List.forall_mem_cons, and_assoc]
  simp

section
variable {s : State}

theorem State.moveRefusal_of_bars (h : s.lift.state.barsMoves) : s.moveRefusal = some .wrongState := if_pos h

theorem State.moveRefusal_of_no_pit (h : ¬s.lift.state.barsMoves) (hpit : s.setup.pit = none) :
    s.moveRefusal = some .notConfigured :=
  (if_neg h).trans (if_pos (by rw [hpit]; rfl))

/-- Past the first two checks, the interlocks decide and then the stations. -/
theorem State.moveRefusal_of_pit (h : ¬s.lift.state.barsMoves) (hpit : s.setup.pit ≠ none) :
    s.moveRefusal =
      if !s.interlocksGood then some .interlock else if !s.stationsFree then some .wrongState else none :=
  (if_neg h).trans (if_neg (by simpa using hpit))

end

/-- A RAISE, or a LOWER outside DOWN, that a check of R45 stops. -/
theorem exec_move_of_moveRefusal {c : Instr} {kind tag : Byte} {payload : List Byte} {s s1 : State} {x : Code}
    (hc : c = .raise tag payload ∧ kind = 0x30 ∧ payload.length = 4 ∨
      c = .lower tag payload ∧ kind = 0x31 ∧ payload = [])
    (hs : s.handed kind tag payload = some s1) (hrest : ¬(kind = 0x31 ∧ s1.lift.state = .down))
    (hx : s1.moveRefusal = some x) : exec c s = .next (s1.replied kind tag x .none) := by
  rcases hc with ⟨rfl, rfl, hlen⟩ | ⟨rfl, rfl, rfl⟩
  · refine exec_of_refuse (exec_raise_handed (if_pos hlen) hs) ?_
    simp only [State.raiseLift, hx]
  · have hdown : s1.lift.state ≠ .down := fun h => hrest ⟨rfl, h⟩
    refine exec_of_refuse (exec_lower_handed hs) ?_
    simp only [State.lowerLift, if_neg hdown, hx]

/-- Settles O31: each check of R45 refuses where those before it have passed, and a LOWER in DOWN ends before the
others. -/
theorem movesAreRefusedInOrder : Obligations.MovesAreRefusedInOrder := by
  intro c kind tag payload s s1 hc hs refused busy atRest away
  have refuse {x : Code} (hrest : ¬atRest) (hx : s1.moveRefusal = some x) : refused x :=
    exec_move_of_moveRefusal hc hs hrest hx
  have hgood : s1.interlocksGood = true ↔ ¬away := by simp [State.interlocksGood_iff, away]
  refine ⟨fun hbusy => refuse ?notDown (State.moveRefusal_of_bars hbusy), ?atRest,
    fun hfree hrest hpit => refuse hrest (State.moveRefusal_of_no_pit hfree hpit),
    fun hfree hrest hpit haway => refuse hrest ?interlock,
    fun hfree hrest hpit hnear hready => refuse hrest ?stations⟩
  case notDown =>
    rintro ⟨-, hdown⟩
    simp [busy, hdown] at hbusy
  case atRest =>
    rintro ⟨rfl, hdown⟩
    rcases hc with ⟨-, hkind, -⟩ | ⟨rfl, -, rfl⟩
    · exact absurd hkind (by decide)
    · exact (exec_of_accept (exec_lower_handed hs) (if_pos hdown) rfl).1
  case interlock =>
    have hbad : s1.interlocksGood = false := by
      rw [← Bool.not_eq_true, hgood, not_not]
      exact haway
    rw [State.moveRefusal_of_pit hfree hpit, hbad]
    rfl
  case stations =>
    have htaken : s1.stationsFree = false := by
      rw [← Bool.not_eq_true]
      exact fun h => hready (s1.moveReady_iff.2 ⟨hgood.2 hnear, h⟩)
    rw [State.moveRefusal_of_pit hfree hpit, hgood.2 hnear, htaken]
    rfl

end Sys2Proof.Machine
end

section
/-! PROOFS. Chapters 3 and 4: the valves of a group that stands and of one on a leg (R39), the departure from RAISED
and the entry to it (R56, R57, R61, R64 to R68), and LIFT STOP, LIFT RESUME and FAULT CLEAR (R51 to R55, R75). -/

namespace Sys2Proof.Machine

/-! ### The valves (R39) -/

/-- A point with its valve closed. -/
def Point.shut (p : Point) : Point := { p with valve := .closed }

/-- In a state that drives no point all four valves are closed. -/
theorem Lift.revalve_of_still {l : Lift} (m : Option (Four Bool))
    (h : l.state ≠ .raising ∧ l.state ≠ .lowering ∧ l.state ≠ .raised) :
    l.revalve m = { l with points := l.points.map Point.shut } := by
  obtain ⟨hup, hdown, hraised⟩ := h
  have hstill (i : Ix) : l.driven m i = false := by
    unfold Lift.driven
    split
    · contradiction
    · contradiction
    · contradiction
    · rfl
  simp only [Lift.revalve, hstill, Point.valveFor]
  rfl

/-- The group as HOLD and FAULT take it over, once its valves are set. -/
theorem Lift.revalve_stopped (l : Lift) (m : Option (Four Bool)) {now : LiftState} (h : now = .hold ∨ now = .fault)
    (causes : LiftCauses) (fault : Option FaultCause) :
    ({ l.stopped now with holds := causes, fault := fault } : Lift).revalve m =
      { l.halted now with holds := causes, fault := fault } := by
  rw [Lift.revalve_of_still m (by rcases h with rfl | rfl <;> exact ⟨nofun, nofun, nofun⟩)]
  rfl

/-- The Lift Group as a move set going writes it, its valves not yet set (R42). -/
def Lift.begun (l : Lift) (m : Move) (demand : Int) (pit : Pit) : Lift :=
  { l with
    state := match m.dir with
      | .up => .raising
      | .down => .lowering
    move := some m
    holds := LiftCauses.empty
    moveTimer := .running (pit.moveTimeout * 1000)
    points := l.points.map fun p => { p.unpause with demand := demand, arrived := false } }

/-- On a leg every point is driven toward its demand. -/
theorem Lift.revalve_begun (l : Lift) (m : Move) (demand : Int) (pit : Pit) (relevel : Option (Four Bool)) :
    (l.begun m demand pit).revalve relevel = l.onLeg m demand pit := by
  have hdriven (i : Ix) : (l.begun m demand pit).driven relevel i = true := by
    cases hdir : m.dir <;> simp [Lift.driven, Lift.begun, hdir, Point.unpause]
  simp only [Lift.revalve, hdriven, Point.valveFor]
  rfl

/-! ### A command that comes to one write of the lift -/

/-- The lift written beside an unchanged Level Maintenance. -/
theorem State.putLift_only_lift (s : State) (l : Lift) : Only [.lift, .notices] s (s.putLift l s.level) := by
  refine ⟨State.putLift_pending .., fun b hb => ?_⟩
  by_cases h : b = .level
  · subst h
    exact State.putLift_level ..
  · exact (s.putLift_only l s.level).2 b (by simpa [h] using hb)

section
variable {c : Instr} {s s1 : State} {kind tag : Byte} {r : Answered} {l l' : Lift}

/-- What is left of a command whose owner accepts it with one write of the Lift Group and Level Maintenance. -/
theorem exec_of_putLift {v : Level} (hexec : exec c s = .next (r.sent kind tag)) (hr : r = (s1.putLift l v).accept)
    (hl : l.revalve v.relevel = l') :
    ∃ t, exec c s = .next t ∧ s1.answers t kind tag .ok .none ∧ t.lift = l' ∧ t.level = v ∧ s1.tellsLift t ∧
      Only [.lift, .level, .notices, .link] s1 t := by
  obtain ⟨hnext, hanswer⟩ := exec_of_accept hexec hr (State.putLift_link ..)
  exact ⟨_, hnext, hanswer, (State.putLift_lift ..).trans hl, State.putLift_level .., s1.putLift_tellsLift l v,
    by simp⟩

/-- The same for a write that leaves Level Maintenance as it is. -/
theorem exec_of_putLift_lift (hexec : exec c s = .next (r.sent kind tag)) (hr : r = (s1.putLift l s1.level).accept)
    (hl : l.revalve s1.level.relevel = l') :
    ∃ t, exec c s = .next t ∧ s1.answers t kind tag .ok .none ∧ t.lift = l' ∧ s1.tellsLift t ∧
      Only [.lift, .notices, .link] s1 t := by
  obtain ⟨hnext, hanswer⟩ := exec_of_accept hexec hr (State.putLift_link ..)
  exact ⟨_, hnext, hanswer, (State.putLift_lift ..).trans hl, s1.putLift_tellsLift l s1.level,
    (only_replied _ _ _ _ _ _ _ (by decide)).2 ((s1.putLift_only_lift l).mono (by decide))⟩

end

/-! ### A hold cause handed to both stations, and both sweeps paused (R56, R116, R167) -/

theorem Two.set_get_self {α : Type} (t : Two α) (st : Station) : t.set st (t.get st) = t := by cases st <;> rfl

/-- A Cutting Station after a hold cause has been handed to it (R167). -/
def CutStation.given (x : CutStation) (c : CutCause) : CutStation :=
  match x.state with
  | .approach => { x with state := .holding, holds := CutCauses.empty.add c, heldAt := some x.toolLateral }
  | .cutting => { x with state := .holding, holds := CutCauses.empty.add c, heldAt := some x.toolLateral }
  | .holding => if c = .silence then x else { x with holds := x.holds.add c }
  | .held => if c = .silence then x else { x with holds := x.holds.add c }
  | _ => x

/-- A sweep after it has been told to pause (R116). -/
def Sweep.pausedFor (w : Sweep) (c : PauseCause) : Sweep :=
  if w.state.inMotion then { w with state := .paused, cause := some c, step := .none } else w

section
variable (s : State) (st : Station)

theorem State.enterHolding_stations (c : CutCause) :
    (s.enterHolding c st).stations =
      s.stations.set st
        { s.cut st with state := .holding, holds := CutCauses.empty.add c, heldAt := some (s.cut st).toolLateral } := by
  unfold State.enterHolding
  dsimp only
  split <;> simp

theorem State.giveCause_stations (c : CutCause) :
    (s.giveCause c st).stations = s.stations.set st ((s.cut st).given c) := by
  have hself : s.stations = s.stations.set st (s.cut st) := (Two.set_get_self ..).symm
  cases h : (s.cut st).state <;> simp only [State.giveCause, CutStation.given, h]
  case approach | cutting => exact s.enterHolding_stations st c
  case holding | held =>
    split
    · exact hself
    · exact State.putCut_stations ..
  case idle | retract | aborting | stopped => exact hself

theorem State.pauseSweep_sweep (c : PauseCause) :
    (s.pauseSweep c st).capture.sweep = s.capture.sweep.set st ((s.sweepOf st).pausedFor c) := by
  unfold State.pauseSweep Sweep.pausedFor
  split
  · rfl
  · exact (Two.set_get_self ..).symm

end

/-- A hold cause handed to both stations. -/
theorem State.giveCause_both_stations (s : State) (c : CutCause) :
    ((s.giveCause c .a).giveCause c .b).stations = s.stations.map fun x => x.given c := by
  rw [State.giveCause_stations, State.cut, State.giveCause_stations]
  rfl

/-- Both sweeps told to pause. -/
theorem State.pauseSweep_both_sweep (s : State) (c : PauseCause) :
    ((s.pauseSweep c .a).pauseSweep c .b).capture.sweep = s.capture.sweep.map fun w => w.pausedFor c := by
  rw [State.pauseSweep_sweep, State.sweepOf, State.pauseSweep_sweep]
  rfl

@[simp] theorem Two.get_map {α β : Type} (f : α → β) (t : Two α) (st : Station) :
    (t.map f).get st = f (t.get st) := by
  cases st <;> rfl

theorem State.giveCause_both_only (s : State) (c : CutCause) :
    Only [.stations, .axes, .notices] s ((s.giveCause c .a).giveCause c .b) :=
  (s.giveCause_only c .a).trans (State.giveCause_only _ c .b)

theorem State.pauseSweep_both_only (s : State) (c : PauseCause) :
    Only [.capture, .axes, .notices] s ((s.pauseSweep c .a).pauseSweep c .b) :=
  (s.pauseSweep_only c .a).trans (State.pauseSweep_only _ c .b)

/-! ### The departure from RAISED (R56, R61) -/

/-- The state in which Level Maintenance has taken the departure from RAISED, and no other block yet. -/
def State.levelDeparted (s : State) : State :=
  s.putLift s.lift { s.level with backlog := 0, interval := .stopped, relevel := none }

/-- The state in which the Cutting Stations have taken it as well. -/
def State.cutsDeparted (s : State) : State := (s.levelDeparted.giveCause .lift .a).giveCause .lift .b

section
variable (s : State)

theorem State.departRaised_eq : s.departRaised =
    (s.cutsDeparted.staleMeasurements.markDeparted.pauseSweep .lift .a).pauseSweep .lift .b := rfl

theorem State.cutsDeparted_only : Only [.stations, .axes, .notices] s.levelDeparted s.cutsDeparted :=
  State.giveCause_both_only _ .lift

/-- The stations and Capture Memory come after the lift, and leave it. -/
theorem State.departRaised_only_after :
    Only [.stations, .axes, .capture, .context, .engine, .notices] s.levelDeparted s.departRaised := by
  rw [State.departRaised_eq]
  simpa using s.cutsDeparted_only.mono (by decide)

theorem State.departRaised_lift : s.departRaised.lift = s.lift.revalve none :=
  (s.departRaised_only_after.2 .lift (by decide)).trans (State.putLift_lift ..)

theorem State.departRaised_level :
    s.departRaised.level = { s.level with backlog := 0, interval := .stopped, relevel := none } :=
  (s.departRaised_only_after.2 .level (by decide)).trans (State.putLift_level ..)

theorem State.departRaised_context : s.departRaised.context = s.staleMeasurements.context := by
  have hpause : s.departRaised.context = s.cutsDeparted.staleMeasurements.context :=
    (State.pauseSweep_both_only _ .lift).2 .context (by decide)
  have hcuts : s.cutsDeparted.context = s.context :=
    (s.cutsDeparted_only.2 .context (by decide)).trans (State.putLift_context ..)
  simp only [hpause, State.staleMeasurements, hcuts]

theorem State.departRaised_engine : s.departRaised.engine = s.engine.markDeparted := by
  have hpause : s.departRaised.engine = s.cutsDeparted.engine.markDeparted :=
    (State.pauseSweep_both_only _ .lift).2 .engine (by decide)
  have hcuts : s.cutsDeparted.engine = s.engine :=
    (s.cutsDeparted_only.2 .engine (by decide)).trans (State.putLift_engine ..)
  rw [hpause, hcuts]

theorem State.departRaised_cut (st : Station) : s.departRaised.cut st = (s.cut st).given .lift := by
  have hpause : s.departRaised.stations = s.cutsDeparted.stations :=
    (State.pauseSweep_both_only _ .lift).2 .stations (by decide)
  rw [State.cut, hpause, State.cutsDeparted, State.giveCause_both_stations, Two.get_map, State.levelDeparted,
    State.putLift_stations]
  rfl

theorem State.departRaised_sweepOf (st : Station) :
    s.departRaised.sweepOf st = (s.sweepOf st).pausedFor .lift := by
  have hcuts : s.cutsDeparted.staleMeasurements.markDeparted.capture = s.capture :=
    (s.cutsDeparted_only.2 .capture (by decide)).trans (State.putLift_capture ..)
  rw [State.departRaised_eq, State.sweepOf, State.pauseSweep_both_sweep, Two.get_map, hcuts]
  rfl

end

/-- What the cause LIFT makes of a station, by its state (R56, R167). -/
theorem CutStation.given_lift (x : CutStation) :
    (x.state = .approach ∨ x.state = .cutting → x.given .lift =
      { x with state := .holding, holds := { CutCauses.empty with lift := true }, heldAt := some x.toolLateral }) ∧
    (x.state = .holding ∨ x.state = .held → x.given .lift = { x with holds := { x.holds with lift := true } }) ∧
    (x.state = .idle ∨ x.state = .retract ∨ x.state = .aborting ∨ x.state = .stopped → x.given .lift = x) := by
  unfold CutStation.given
  cases x.state <;> simp [CutCauses.add]

theorem Sweep.pausedFor_eq (w : Sweep) (c : PauseCause) : w.pausedFor c =
    if w.state = .indexing ∨ w.state = .traversing then { w with state := .paused, cause := some c, step := .none }
    else w := by
  unfold Sweep.pausedFor
  cases w.state <;> rfl

/-- The departure from RAISED beside the lift and its level maintenance. -/
theorem State.departRaised_departs (s : State) : s.departs s.departRaised := by
  refine ⟨s.departRaised_context, s.departRaised_engine, fun st => ?_, fun st => ?_⟩
  · rw [State.departRaised_cut]
    exact (s.cut st).given_lift
  · rw [State.departRaised_sweepOf, Sweep.pausedFor_eq]

section
variable {s t : State}

/-- A departure does not turn on the lift and its level maintenance as they stood. -/
theorem State.departs_of_putLift {l : Lift} {v : Level} (h : (s.putLift l v).departs t) : s.departs t := by
  unfold State.putLift at h
  split at h <;> exact h

theorem State.departs.allStale (h : s.departs t) : t.allStale := by
  obtain ⟨hcontext, -⟩ := h
  intro i m hm
  rw [State.slot, hcontext, Four.get_map] at hm
  obtain ⟨m', -, rfl⟩ := Option.map_eq_some_iff.1 hm
  rfl

/-- A station at work is held by the departure, with the cause LIFT alone. -/
theorem State.departs.cut_holding (h : s.departs t) {st : Station}
    (hwork : (s.cut st).state = .approach ∨ (s.cut st).state = .cutting) :
    (t.cut st).state = .holding ∧ (t.cut st).holds = { CutCauses.empty with lift := true } := by
  obtain ⟨-, -, hcut, -⟩ := h
  obtain ⟨hhold, -⟩ := hcut st
  rw [hhold hwork]
  exact ⟨rfl, rfl⟩

/-- A sweep in motion is paused by the departure, with the cause LIFT. -/
theorem State.departs.sweep_paused (h : s.departs t) {st : Station}
    (hmotion : (s.sweepOf st).state = .indexing ∨ (s.sweepOf st).state = .traversing) :
    (t.sweepOf st).state = .paused ∧ (t.sweepOf st).cause = some .lift := by
  obtain ⟨-, -, -, hsweep⟩ := h
  rw [hsweep st, if_pos hmotion]
  exact ⟨rfl, rfl⟩

end

/-! ### HOLD (R52, R53, R75) -/

theorem Level.leaveParking_of_not_parked (v : Level) {was : LiftState}
    (h : was ≠ .parking ∧ was ≠ .parked ∧ was ≠ .unparking) : v.leaveParking was = v :=
  if_neg (by simpa using h)

section
variable {s : State}

/-- From any state but RAISED an entry to HOLD is one write of the lift. -/
theorem State.enterHold_of_not_raised (c : LiftCause) (h : s.lift.state ≠ .raised) :
    s.enterHold c = s.putLift { (s.lift.stopped .hold) with holds := LiftCauses.empty.add c }
      { s.level.leaveParking s.lift.state with relevel := none } :=
  if_neg h

/-- From RAISED it is that write and the departure. -/
theorem State.enterHold_of_raised (c : LiftCause) (h : s.lift.state = .raised) :
    s.enterHold c = (s.putLift { (s.lift.stopped .hold) with holds := LiftCauses.empty.add c }
      { s.level with relevel := none }).departRaised := by
  have hlevel : s.level.leaveParking s.lift.state = s.level :=
    s.level.leaveParking_of_not_parked (by rw [h]; exact ⟨nofun, nofun, nofun⟩)
  rw [State.enterHold, if_pos h, hlevel]

/-- In RAISED, in a move and in the waits of parking the cause HOST makes the group enter HOLD (R53, R75). -/
theorem State.giveLiftCause_host (h : s.lift.state ≠ .down ∧ s.lift.state ≠ .hold ∧ s.lift.state ≠ .fault ∧
    s.lift.state ≠ .parked) : s.giveLiftCause .host = s.enterHold .host := by
  obtain ⟨hdown, hhold, hfault, hparked⟩ := h
  cases hstate : s.lift.state
  case down | hold | fault | parked => contradiction
  case raising | lowering | bridgeWait | raised | parking | unparking => simp only [State.giveLiftCause, hstate]

theorem State.giveLiftCause_host_of_hold (h : s.lift.state = .hold) :
    s.giveLiftCause .host = s.putLift { s.lift with holds := s.lift.holds.add .host } s.level := by
  have hadd : s.giveLiftCause .host = s.addLiftCause .host := by simp only [State.giveLiftCause, h]
  exact hadd

theorem State.giveLiftCause_host_of_parked (h : s.lift.state = .parked) :
    s.giveLiftCause .host = s.putLift s.lift { s.level with unparkPending := false } := by
  simp only [State.giveLiftCause, h]
  rfl

/-- LIFT STOP outside DOWN and FAULT hands the lift the cause HOST (R54). -/
theorem State.stopLift_of_stoppable (h : s.lift.state ≠ .down ∧ s.lift.state ≠ .fault) :
    s.stopLift = (s.giveLiftCause .host).accept :=
  if_neg (by simpa using h)

/-- From a move and from the waits of parking LIFT STOP comes to one write of the lift. -/
theorem State.stopLift_of_not_raised (h : s.lift.state ∉ [LiftState.down, .raised, .parked, .hold, .fault]) :
    s.stopLift = (s.putLift { (s.lift.stopped .hold) with holds := LiftCauses.empty.add .host }
      { s.level.leaveParking s.lift.state with relevel := none }).accept := by
  simp only [List.mem_cons, List.not_mem_nil, or_false, not_or] at h
  obtain ⟨hdown, hraised, hparked, hhold, hfault⟩ := h
  rw [State.stopLift_of_stoppable ⟨hdown, hfault⟩, State.giveLiftCause_host ⟨hdown, hhold, hfault, hparked⟩,
    State.enterHold_of_not_raised _ hraised]

theorem State.stopLift_of_moving
    (h : s.lift.state = .raising ∨ s.lift.state = .lowering ∨ ∃ d, s.lift.state = .bridgeWait d) :
    s.stopLift = (s.putLift { (s.lift.stopped .hold) with holds := LiftCauses.empty.add .host }
      { s.level with relevel := none }).accept := by
  have hlevel : s.level.leaveParking s.lift.state = s.level :=
    s.level.leaveParking_of_not_parked (by rcases h with h | h | ⟨d, h⟩ <;> simp [h])
  rw [State.stopLift_of_not_raised (by rcases h with h | h | ⟨d, h⟩ <;> simp [h]), hlevel]

theorem State.stopLift_of_parking (h : s.lift.state = .parking ∨ s.lift.state = .unparking) :
    s.stopLift = (s.putLift { (s.lift.stopped .hold) with holds := LiftCauses.empty.add .host }
      { s.level with
        relevel := none, parkStep := none, relief := false, lockRaised := false, dwell := .stopped
        unparkPending := false }).accept := by
  have hlevel : s.level.leaveParking s.lift.state = { s.level with
      parkStep := none, relief := false, lockRaised := false, dwell := .stopped, unparkPending := false } :=
    if_pos (by tauto)
  rw [State.stopLift_of_not_raised (by rcases h with h | h <;> simp [h]), hlevel]

theorem State.stopLift_of_raised (h : s.lift.state = .raised) : s.stopLift = (s.enterHold .host).accept := by
  rw [State.stopLift_of_stoppable (by simp [h]), State.giveLiftCause_host (by simp [h])]

theorem State.stopLift_of_hold (h : s.lift.state = .hold) :
    s.stopLift = (s.putLift { s.lift with holds := s.lift.holds.add .host } s.level).accept := by
  rw [State.stopLift_of_stoppable (by simp [h]), State.giveLiftCause_host_of_hold h]

theorem State.stopLift_of_parked (h : s.lift.state = .parked) :
    s.stopLift = (s.putLift s.lift { s.level with unparkPending := false }).accept := by
  rw [State.stopLift_of_stoppable (by simp [h]), State.giveLiftCause_host_of_parked h]

end

/-- The lift as an entry to HOLD leaves it once its valves are set. -/
theorem Lift.revalve_held (l : Lift) (m : Option (Four Bool)) (c : LiftCause) :
    ({ l.stopped .hold with holds := LiftCauses.empty.add c } : Lift).revalve m =
      { l.halted .hold with holds := LiftCauses.empty.add c } :=
  l.revalve_stopped m (.inl rfl) _ _

/-- What an entry to HOLD from RAISED leaves (R52, R56, R61). -/
theorem State.enterHold_from_raised {s : State} (c : LiftCause) (h : s.lift.state = .raised) :
    (s.enterHold c).lift = { s.lift.halted .hold with holds := LiftCauses.empty.add c } ∧
      (s.enterHold c).level = { s.level with backlog := 0, interval := .stopped, relevel := none } ∧
      s.departs (s.enterHold c) := by
  rw [State.enterHold_of_raised c h]
  refine ⟨?_, ?_, State.departs_of_putLift (State.departRaised_departs _)⟩
  · rw [State.departRaised_lift, State.putLift_lift, Lift.revalve_held]
    rfl
  · rw [State.departRaised_level, State.putLift_level]

/-! ### A leg of a move (R42, R43) -/

theorem Lift.atRail_iff (l : Lift) : l.atRail = true ↔ l.highest ≤ 200 := decide_eq_true_iff

section
variable {s : State}

/-- A leg that is not to 0, or a group above the rail, does not end as it begins. -/
theorem State.arriveAtRail_of_away (h : s.lift.legToRail = true → 200 < s.lift.highest) : s.arriveAtRail = s := by
  refine if_neg fun hboth => ?_
  rw [Bool.and_eq_true, Lift.atRail_iff] at hboth
  obtain ⟨hleg, hrail⟩ := hboth
  exact absurd (h hleg) (by omega)

/-- A group on a leg to 0 has passed the bridge stop on its way to 0. -/
theorem Lift.legToRail_onLeg {l : Lift} {m : Move} {demand : Int} {pit : Pit}
    (h : (l.onLeg m demand pit).legToRail = true) : m.stage = .passed ∧ m.target = 0 := by
  simpa [Lift.legToRail, Lift.onLeg] using (Bool.and_eq_true_iff.1 h).2

/-- A move set going from any state but RAISED, where its first leg does not end at once, is one write of the
lift. -/
theorem State.enterLeg_of_not_raised {m : Move} {pit : Pit} (hpit : s.setup.pit = some pit)
    (h : s.lift.state ≠ .raised) (haway : m.stage = .pending ∨ m.target ≠ 0 ∨ 200 < s.lift.highest) :
    s.enterLeg m =
      s.putLift (s.lift.begun m (if m.stage = .pending then pit.clearance else m.target) pit)
        { s.level with relevel := none } := by
  rw [State.enterLeg, hpit]
  refine (congrArg State.arriveAtRail (if_neg h)).trans (State.arriveAtRail_of_away fun hleg => ?_)
  rw [State.putLift_lift] at hleg ⊢
  obtain ⟨hpassed, hzero⟩ := Lift.legToRail_onLeg (s.lift.revalve_begun .. ▸ hleg)
  have habove : 200 < s.lift.highest := by simpa [hpassed, hzero] using haway
  exact habove

end

/-! ### The entry to RAISED (R57, R61) -/

/-- From `s` to `t` the lift stands as it did, under the same level epoch and with the same demands: what re-levels
that begin or move nothing and urgent demands keep. -/
def State.standsAs (s t : State) : Prop :=
  t.lift.seen = s.lift.seen ∧ t.level.epoch = s.level.epoch ∧
    ∀ i, (t.lift.points.get i).demand = (s.lift.points.get i).demand

section
variable {s t u : State}

theorem State.standsAs.refl (s : State) : s.standsAs s := ⟨rfl, rfl, fun _ => rfl⟩

theorem State.standsAs.trans (h : s.standsAs t) (k : t.standsAs u) : s.standsAs u := by
  obtain ⟨hseen, hepoch, hdemand⟩ := h
  obtain ⟨kseen, kepoch, kdemand⟩ := k
  exact ⟨kseen.trans hseen, kepoch.trans hepoch, fun i => (kdemand i).trans (hdemand i)⟩

theorem State.standsAs.ite {p : Prop} [Decidable p] (h : s.standsAs t) (k : s.standsAs u) :
    s.standsAs (if p then t else u) := by
  split <;> assumption

theorem State.standsAs_of_only {l : List Block} (h : Only l s t) (hlift : Block.lift ∉ l)
    (hlevel : Block.level ∉ l) : s.standsAs t := by
  have hl : t.lift = s.lift := h.2 .lift hlift
  have hv : t.level = s.level := h.2 .level hlevel
  rw [State.standsAs, hl, hv]
  exact ⟨rfl, rfl, fun _ => rfl⟩

/-- Setting the valves leaves the demands. -/
theorem Lift.revalve_demand (l : Lift) (m : Option (Four Bool)) (i : Ix) :
    ((l.revalve m).points.get i).demand = (l.points.get i).demand := by
  simp [Lift.revalve]

theorem State.standsAs_putLift {l : Lift} {v : Level} (hseen : l.seen = s.lift.seen)
    (hepoch : v.epoch = s.level.epoch) (hdemand : ∀ i, (l.points.get i).demand = (s.lift.points.get i).demand) :
    s.standsAs (s.putLift l v) := by
  rw [State.standsAs, State.putLift_lift, State.putLift_level]
  exact ⟨hseen, hepoch, fun i => (l.revalve_demand _ i).trans (hdemand i)⟩

end

section
variable (s : State)

theorem State.removeLevel_standsAs (st : Station) : s.standsAs (s.removeLevel st) :=
  State.standsAs_of_only (s.removeLevel_only st) (by decide) (by decide)

theorem State.endUrgent_standsAs : s.standsAs s.endUrgent := by
  have hput : s.standsAs (s.putLift s.lift { s.level with urgent := false }) :=
    State.standsAs_putLift rfl rfl fun _ => rfl
  unfold State.endUrgent
  exact (hput.trans (State.removeLevel_standsAs _ .a)).trans (State.removeLevel_standsAs _ .b)

/-- A re-level that moved nothing completes without a new epoch (R65). -/
theorem State.completeRelevel_standsAs : s.standsAs (s.completeRelevel false) := by
  have hput (v : Level) (hv : v.epoch = s.level.epoch) :
      s.standsAs (s.putLift { s.lift with moveTimer := .stopped } v) :=
    State.standsAs_putLift rfl hv fun _ => rfl
  unfold State.completeRelevel
  dsimp only
  refine .ite (.trans (hput _ ?_) (State.endUrgent_standsAs _)) (hput _ ?_) <;> rfl

theorem State.beginRelevel_standsAs (m : Four Bool) (pit : Pit) : s.standsAs (s.beginRelevel m pit) := by
  refine State.standsAs_putLift rfl rfl fun i => ?_
  cases i <;> simp only [Four.zipWith, Four.get] <;> split <;> rfl

theorem State.startRelevels_standsAs (n : Nat) : s.standsAs (s.startRelevels n) := by
  induction n generalizing s with
  | zero => exact .refl s
  | succ n ih =>
    unfold State.startRelevels
    split
    · exact .refl s
    · exact .ite (.ite (s.beginRelevel_standsAs _ _) (s.completeRelevel_standsAs.trans (ih _))) (.refl s)

theorem State.testStart_standsAs : s.standsAs s.testStart := s.startRelevels_standsAs _

theorem State.testUrgent_standsAs : s.standsAs s.testUrgent := by
  have hput : s.standsAs (s.putLift s.lift { s.level with urgent := true }) :=
    State.standsAs_putLift rfl rfl fun _ => rfl
  unfold State.testUrgent
  exact .ite (hput.trans (State.standsAs_of_only
    ((State.giveCause_both_only _ .level).step (State.pauseSweep_both_only _ .level)
      (k := [.stations, .axes, .capture, .notices]) (by decide) (by decide)) (by decide) (by decide))) (.refl s)

/-- An entry to RAISED begins a new level epoch and leaves what the lift stands in, and its demands (R57, R63). -/
theorem State.enterRaised_stands : s.enterRaised.lift.seen = s.lift.seen ∧
    s.enterRaised.level.epoch = s.level.epoch + 1 ∧
    ∀ i, (s.enterRaised.lift.points.get i).demand = (s.lift.points.get i).demand := by
  unfold State.enterRaised
  obtain ⟨hseen, hepoch, hdemand⟩ :=
    (State.testUrgent_standsAs (s.putLift s.lift _)).trans (State.testStart_standsAs _)
  rw [State.putLift_lift] at hseen hdemand
  rw [State.putLift_level] at hepoch
  exact ⟨hseen, hepoch, fun i => (hdemand i).trans (s.lift.revalve_demand _ i)⟩

end

theorem Lift.seen_eq_iff (l l' : Lift) : l.seen = l'.seen ↔
    l.state = l'.state ∧ l.holds = l'.holds ∧ l.fault = l'.fault ∧ l.move = l'.move := by
  simp [Lift.seen]

/-- A group held in RAISED that has returned there (R55). -/
def State.backInRaised (s : State) : State :=
  (s.putLift { s.lift with state := .raised, holds := LiftCauses.empty } s.level).enterRaised

section
variable (s : State)

theorem State.backInRaised_stands : s.backInRaised.lift.state = .raised ∧
    s.backInRaised.lift.holds = LiftCauses.empty ∧ s.backInRaised.level.epoch = s.level.epoch + 1 ∧
    ∀ i, (s.backInRaised.lift.points.get i).demand = (s.lift.points.get i).demand := by
  obtain ⟨hseen, hepoch, hdemand⟩ := State.enterRaised_stands
    (s.putLift { s.lift with state := .raised, holds := LiftCauses.empty } s.level)
  rw [State.putLift_lift, Lift.revalve_seen] at hseen
  rw [State.putLift_lift] at hdemand
  rw [State.putLift_level] at hepoch
  obtain ⟨hstate, hholds, -⟩ := (Lift.seen_eq_iff _ _).1 hseen
  exact ⟨hstate, hholds, hepoch, fun i => (hdemand i).trans (Lift.revalve_demand _ _ i)⟩

theorem State.backInRaised_only :
    Only [.lift, .level, .stations, .axes, .capture, .notices] s s.backInRaised :=
  (s.putLift_only _ _).step (State.enterRaised_only _) (by decide) (by decide)

theorem State.backInRaised_liftTold : s.liftTold s.backInRaised :=
  (s.putLift_liftKept _ _).told (State.enterRaised_liftTold _)

end

/-! ### LIFT RESUME and FAULT CLEAR by their cases (R51, R55) -/

section
variable {s : State}

theorem State.resumeLift_of_not_hold (h : s.lift.state ≠ .hold) : s.resumeLift = s.refuse .wrongState := if_pos h

theorem State.resumeLift_of_cause (h : s.lift.state = .hold)
    (hcause : s.level? .estopOk = false ∨ s.level? .pressureOk = false) :
    s.resumeLift = s.refuse .causePresent := by
  rw [State.resumeLift, if_neg (not_not.2 h), if_pos]
  simpa using hcause

/-- In a hold whose causes are gone a recorded move is checked as R45 checks one. -/
theorem State.resumeLift_of_move {m : Move} (h : s.lift.state = .hold) (he : s.level? .estopOk = true)
    (hp : s.level? .pressureOk = true) (hmove : s.lift.move = some m) : s.resumeLift =
      if !s.carriagesHome then s.refuse .interlock
      else if !s.stationsFree then s.refuse .wrongState
      else if s.setup.pit.isNone then s.refuse .notConfigured
      else State.accept (s.enterLeg m) := by
  rw [State.resumeLift, if_neg (not_not.2 h), he, hp, hmove]
  rfl

/-- Without one the group returns to RAISED or has nothing to resume. -/
theorem State.resumeLift_of_no_move (h : s.lift.state = .hold) (he : s.level? .estopOk = true)
    (hp : s.level? .pressureOk = true) (hmove : s.lift.move = none) : s.resumeLift =
      if s.lift.interrupted = some .raised then s.backInRaised.accept else s.refuse .noMove := by
  rw [State.resumeLift, if_neg (not_not.2 h), he, hp, hmove]
  rfl

theorem State.resumeLift_of_ready {m : Move} {pit : Pit} (h : s.lift.state = .hold) (hmove : s.lift.move = some m)
    (hpit : s.setup.pit = some pit) (hready : s.moveReady) : s.resumeLift = (s.enterLeg m).accept := by
  obtain ⟨hgood, hfree⟩ := s.moveReady_iff.1 hready
  simp only [State.interlocksGood, Bool.and_eq_true] at hgood
  obtain ⟨⟨he, hp⟩, hhome⟩ := hgood
  rw [State.resumeLift_of_move h he hp hmove, hhome, hfree, hpit]
  rfl

theorem State.clearFault_of_fault (h : s.lift.state = .fault) : s.clearFault =
    (s.putLift { s.lift with state := .hold, fault := none, holds := LiftCauses.empty.add .host } s.level).accept :=
  if_pos h

theorem State.clearFault_of_not_fault (h : s.lift.state ≠ .fault) : s.clearFault = s.refuse .wrongState := if_neg h

/-- A group in form has its valves closed in FAULT, so that FAULT CLEAR leaves the points as they are. -/
theorem Lift.revalve_cleared {l : Lift} {m : Option (Four Bool)} (hform : l.inForm m) (h : l.state = .fault)
    (causes : LiftCauses) :
    ({ l with state := .hold, fault := none, holds := causes } : Lift).revalve m =
      { l with state := .hold, fault := none, holds := causes } := by
  obtain ⟨hvalves, -⟩ := hform
  rw [Lift.revalve_of_still m (by simp [h])] at hvalves
  have hshut : l.points.map Point.shut = l.points := congrArg Lift.points hvalves
  rw [Lift.revalve_of_still m (by simp), hshut]

end

/-! ### The obligation -/

/-- Settles O32: LIFT STOP by the lift state, LIFT RESUME by its checks in order, and FAULT CLEAR; but for the
departure from RAISED and the entry to it each accepted case is one write of the lift. -/
theorem holdsStopAndResume : Obligations.HoldsStopAndResume := by
  intro tag s s1
  refine ⟨fun hs => ?stop, fun hs => ?resume, fun hs => ?clear⟩
  case stop =>
    have hexec := exec_liftStop_handed hs
    refine ⟨fun hmoving => exec_of_putLift hexec (State.stopLift_of_moving hmoving) (s1.lift.revalve_held _ .host),
      fun hraised => ?raised, fun hhold => ?hold,
      fun hparking => exec_of_putLift hexec (State.stopLift_of_parking hparking) (s1.lift.revalve_held _ .host),
      fun hparked => ?parked, fun hrest => exec_of_refuse hexec (if_pos hrest)⟩
    case raised =>
      have honly := s1.enterHold_only .host
      obtain ⟨hlift, hlevel, hdeparts⟩ := State.enterHold_from_raised .host hraised
      obtain ⟨hnext, hanswer⟩ :=
        exec_of_accept hexec (State.stopLift_of_raised hraised) (honly.2 .link (by decide))
      exact ⟨_, hnext, hanswer, hlift, hdeparts.allStale, hlevel, fun _ => hdeparts.cut_holding,
        fun _ => hdeparts.sweep_paused, hdeparts, s1.enterHold_liftTold .host (by simp [hraised]),
        (only_replied _ _ _ _ _ _ _ (by decide)).2 (honly.mono (by decide))⟩
    case hold =>
      obtain ⟨t, hnext, hanswer, hlift, htells, honly⟩ :=
        exec_of_putLift_lift hexec (State.stopLift_of_hold hhold) rfl
      refine ⟨t, hnext, hanswer, by rw [hlift]; rfl, by rw [hlift]; exact hhold, by rw [hlift]; rfl, ?_, htells,
        honly⟩
      rintro ⟨hvalves, -⟩
      rw [hlift]
      exact congrArg (fun l : Lift => { l with holds := { l.holds with host := true } }) hvalves
    case parked =>
      obtain ⟨t, hnext, hanswer, hlift, hlevel, htells, honly⟩ :=
        exec_of_putLift hexec (State.stopLift_of_parked hparked) rfl
      exact ⟨t, hnext, hanswer, by rw [hlift]; exact hparked, by rw [hlift]; rfl,
        fun ⟨hvalves, _⟩ => hlift.trans hvalves, hlevel, htells, honly⟩
  case resume =>
    have hexec := exec_liftResume_handed hs
    refine ⟨fun m pit hhold hmove hpit hready haway => ?onward, fun hhold hmove hraised he hp => ?level,
      fun hhold hcause => exec_of_refuse hexec (State.resumeLift_of_cause hhold hcause), fun hhold he hp => ?checks,
      fun hother => exec_of_refuse hexec (State.resumeLift_of_not_hold hother)⟩
    case onward =>
      have hnot : s1.lift.state ≠ .raised := by simp [hhold]
      refine exec_of_putLift hexec ?_ (s1.lift.revalve_begun m _ pit none)
      rw [State.resumeLift_of_ready hhold hmove hpit hready, State.enterLeg_of_not_raised hpit hnot haway]
    case level =>
      have haccept : s1.resumeLift = s1.backInRaised.accept :=
        (State.resumeLift_of_no_move hhold he hp hmove).trans (if_pos hraised)
      have honly := s1.backInRaised_only
      obtain ⟨hnext, hanswer⟩ := exec_of_accept hexec haccept (honly.2 .link (by decide))
      obtain ⟨hstate, hholds, hepoch, hdemand⟩ := s1.backInRaised_stands
      have htold := s1.backInRaised_liftTold
      generalize s1.backInRaised = t at *
      exact ⟨_, hnext, hanswer, hstate, hholds, hepoch, hdemand, honly.2 .store (by decide),
        honly.2 .context (by decide), honly.2 .probes (by decide), honly.2 .plans (by decide), htold⟩
    case checks =>
      intro home free
      have hhome : s1.carriagesHome = true ↔ home := s1.carriagesHome_iff
      have hfree : s1.stationsFree = true ↔ free := s1.stationsFree_iff
      refine ⟨fun hmove haway => ?interlock, fun hmove hat htaken => ?stations,
        fun hmove hnot => exec_of_refuse hexec ((State.resumeLift_of_no_move hhold he hp hmove).trans (if_neg hnot))⟩
      case interlock =>
        obtain ⟨m, hm⟩ := Option.ne_none_iff_exists'.1 hmove
        have hout : s1.carriagesHome = false := Bool.not_eq_true _ ▸ mt hhome.1 haway
        refine exec_of_refuse hexec ?_
        rw [State.resumeLift_of_move hhold he hp hm, hout]
        rfl
      case stations =>
        obtain ⟨m, hm⟩ := Option.ne_none_iff_exists'.1 hmove
        have hbusy : s1.stationsFree = false := Bool.not_eq_true _ ▸ mt hfree.1 htaken
        refine exec_of_refuse hexec ?_
        rw [State.resumeLift_of_move hhold he hp hm, hhome.2 hat, hbusy]
        rfl
  case clear =>
    have hexec := exec_faultClear_handed hs
    refine ⟨fun hfault => ?fault, fun hother => exec_of_refuse hexec (State.clearFault_of_not_fault hother)⟩
    case fault =>
      obtain ⟨t, hnext, hanswer, hlift, htells, honly⟩ :=
        exec_of_putLift_lift hexec (State.clearFault_of_fault hfault) rfl
      exact ⟨t, hnext, hanswer, by rw [hlift]; rfl, by rw [hlift]; rfl, by rw [hlift]; rfl, by rw [hlift]; rfl,
        by rw [hlift]; rfl, fun hform => hlift.trans (Lift.revalve_cleared hform hfault _), htells, honly⟩

end Sys2Proof.Machine
end

section
/-! PROOFS. Chapter 4: an accepted change of an input handed out (R79), what an entry to RAISED leaves of parking (R60),
and PARK, UNPARK and the waits for the pressure and the locks (R70 to R75, R90). -/

namespace Sys2Proof.Machine

/-! ### An accepted change (R79, R81) -/

section
variable (s : State) (i : Input)

theorem State.acceptLevel_lift : (s.acceptLevel i).lift = s.lift := rfl

theorem State.acceptLevel_level : (s.acceptLevel i).level = s.level := rfl

theorem State.acceptLevel_notices : (s.acceptLevel i).notices = (s.notify .interlock).notices := rfl

/-- The raw level has become the accepted one. -/
theorem State.acceptLevel_level?_self : (s.acceptLevel i).level? i = (s.inputs.get i).raw := by
  simp [State.level?, State.acceptLevel]

theorem State.acceptLevel_level?_of_ne {j : Input} (h : j ≠ i) : (s.acceptLevel i).level? j = s.level? j := by
  simp [State.level?, State.acceptLevel, Twelve.get_set_other _ _ h]

theorem State.acceptLevel_liftKept : s.liftKept (s.acceptLevel i) := .inl (State.notify_interlock_get_lift _)

end

/-- A change within blocks other than the inputs leaves every accepted level. -/
theorem State.level?_of_only {l : List Block} {s t : State} (h : Only l s t) (hl : Block.inputs ∉ l) (i : Input) :
    t.level? i = s.level? i := by
  have hinputs : t.inputs = s.inputs := h.2 .inputs hl
  rw [State.level?, hinputs, State.level?]

section
variable {s : State} {i : Input} {length : Nat} {raw : Bool}

/-- A running debounce timer that expires hands the accepted change out. -/
theorem exec_debounceExpiry_of_running (h : (s.inputs.get i).timer = .running length ∧ (s.inputs.get i).raw = raw) :
    exec (.debounceExpiry i) s = .next ((s.acceptLevel i).handOut i raw) := by
  obtain ⟨htimer, rfl⟩ := h
  have hexec : exec (.debounceExpiry i) s = .next (s.debounceExpires i) := rfl
  rw [hexec, State.debounceExpires, htimer]

/-- What is left of an accepted change that comes to one write of the lift by which LIFT is told. -/
theorem exec_debounceExpiry_of_putLift {l l' : Lift} {v : Level}
    (h : (s.inputs.get i).timer = .running length ∧ (s.inputs.get i).raw = raw)
    (hout : (s.acceptLevel i).handOut i raw = (s.acceptLevel i).putLift l v) (hl : l.revalve v.relevel = l')
    (hseen : l.seen ≠ s.lift.seen ∨ v.seen ≠ s.level.seen) :
    ∃ t, exec (.debounceExpiry i) s = .next t ∧ t.lift = l' ∧ t.level = v ∧
      t.notices = ((s.notify .interlock).notify .lift).notices ∧ Only [.lift, .level, .inputs, .notices] s t := by
  refine ⟨_, exec_debounceExpiry_of_running h, ?_⟩
  rw [hout, State.putLift_lift, State.putLift_level, State.putLift_notices, if_neg]
  · exact ⟨hl, rfl, rfl, by simp⟩
  · rw [State.acceptLevel_lift, State.acceptLevel_level]
    tauto

end

/-! ### What parking holds of Level Maintenance (R60) -/

/-- The step, the dwell, the unpark-pending flag and the two outputs of parking (R60). -/
def Level.parking (v : Level) : Option ParkStep × Dwell × Bool × Bool × Bool :=
  (v.parkStep, v.dwell, v.unparkPending, v.lockRaised, v.relief)

theorem Level.parking_eq_iff (v w : Level) : v.parking = w.parking ↔
    v.parkStep = w.parkStep ∧ v.dwell = w.dwell ∧ v.unparkPending = w.unparkPending ∧ v.lockRaised = w.lockRaised ∧
      v.relief = w.relief := by
  simp [Level.parking]

/-- From `s` to `t` what Level Maintenance holds of parking has stayed. -/
def State.keepsParking (s t : State) : Prop := t.level.parking = s.level.parking

section
variable {s t u : State}

theorem State.keepsParking.refl (s : State) : s.keepsParking s := rfl

theorem State.keepsParking.trans (h : s.keepsParking t) (k : t.keepsParking u) : s.keepsParking u := Eq.trans k h

theorem State.keepsParking.ite {p : Prop} [Decidable p] (h : s.keepsParking t) (k : s.keepsParking u) :
    s.keepsParking (if p then t else u) := by
  split <;> assumption

theorem State.keepsParking_of_only {l : List Block} (h : Only l s t) (hl : Block.level ∉ l) : s.keepsParking t := by
  have hlevel : t.level = s.level := h.2 .level hl
  rw [State.keepsParking, hlevel]

theorem State.keepsParking_putLift {l : Lift} {v : Level} (h : v.parking = s.level.parking) :
    s.keepsParking (s.putLift l v) := by
  rw [State.keepsParking, State.putLift_level, h]

end

section
variable (s : State)

theorem State.endUrgent_keepsParking : s.keepsParking s.endUrgent := by
  have hput : s.keepsParking (s.putLift s.lift { s.level with urgent := false }) := State.keepsParking_putLift rfl
  have hstations := (State.removeLevel_only (s.putLift s.lift { s.level with urgent := false }) .a).trans
    (State.removeLevel_only _ .b)
  exact hput.trans (State.keepsParking_of_only hstations (by decide))

theorem State.completeRelevel_keepsParking (moved : Bool) : s.keepsParking (s.completeRelevel moved) := by
  have hput (v : Level) (h : v.parking = s.level.parking) :
      s.keepsParking (s.putLift { s.lift with moveTimer := .stopped } v) := State.keepsParking_putLift h
  unfold State.completeRelevel
  dsimp only
  refine .ite (.trans (hput _ ?_) (State.endUrgent_keepsParking _)) (hput _ ?_) <;> rfl

theorem State.startRelevels_keepsParking (n : Nat) : s.keepsParking (s.startRelevels n) := by
  induction n generalizing s with
  | zero => exact .refl s
  | succ n ih =>
    unfold State.startRelevels
    split
    · exact .refl s
    · exact .ite (.ite (State.keepsParking_putLift rfl) ((s.completeRelevel_keepsParking false).trans (ih _))) (.refl s)

theorem State.testUrgent_keepsParking : s.keepsParking s.testUrgent := by
  have hput : s.keepsParking (s.putLift s.lift { s.level with urgent := true }) := State.keepsParking_putLift rfl
  unfold State.testUrgent
  exact .ite (hput.trans (State.keepsParking_of_only
    ((State.giveCause_both_only _ .level).step (State.pauseSweep_both_only _ .level)
      (k := [.stations, .axes, .capture, .notices]) (by decide) (by decide)) (by decide))) (.refl s)

/-- An entry to RAISED leaves what Level Maintenance holds of parking (R57, R61). -/
theorem State.enterRaised_keepsParking : s.keepsParking s.enterRaised := by
  unfold State.enterRaised State.testStart
  refine .trans (.trans (State.keepsParking_putLift ?_) (State.testUrgent_keepsParking _))
    (State.startRelevels_keepsParking _ _)
  rfl

end

/-! ### The release of the locks (R73) -/

/-- The group with its bogie off the locks and back in RAISED (R73). -/
def State.released (s : State) : State :=
  (s.putLift { s.lift with state := .raised, points := s.lift.points.map Point.unpause }
    { s.level with parkStep := none }).enterRaised

/-- From `s` to `t` the group has reached RAISED under a new level epoch with its demands kept; LIFT has been told, and
neither the store nor a context, a probe unit or a plan has changed (R57, R63, R73). -/
def State.reachesRaised (s t : State) : Prop :=
  t.lift.state = .raised ∧ t.level.epoch = s.level.epoch + 1 ∧
    (∀ i, (t.lift.points.get i).demand = (s.lift.points.get i).demand) ∧ t.context = s.context ∧ t.store = s.store ∧
    t.probes = s.probes ∧ t.plans = s.plans ∧ s.liftTold t

section
variable {s t u : State}

theorem State.released_parking (s : State) : s.released.level.parking = { s.level with parkStep := none }.parking :=
  Eq.trans (State.enterRaised_keepsParking _) (congrArg Level.parking (State.putLift_level ..))

theorem State.released_only (s : State) : Only [.lift, .level, .stations, .axes, .capture, .notices] s s.released :=
  (s.putLift_only _ _).step (State.enterRaised_only _) (by decide) (by decide)

theorem State.released_reachesRaised (s : State) : s.reachesRaised s.released := by
  have honly := s.released_only
  have htold : s.liftTold s.released := (s.putLift_liftKept _ _).told (State.enterRaised_liftTold _)
  obtain ⟨hseen, hepoch, hdemand⟩ := State.enterRaised_stands (s.putLift
    { s.lift with state := .raised, points := s.lift.points.map Point.unpause } { s.level with parkStep := none })
  rw [State.putLift_lift, Lift.revalve_seen] at hseen
  rw [State.putLift_lift] at hdemand
  rw [State.putLift_level] at hepoch
  obtain ⟨hstate, -⟩ := (Lift.seen_eq_iff _ _).1 hseen
  refine ⟨hstate, hepoch, fun i => ?_, honly.2 .context (by decide), honly.2 .store (by decide),
    honly.2 .probes (by decide), honly.2 .plans (by decide), htold⟩
  have hmap : ((s.lift.points.map Point.unpause).get i).demand = (s.lift.points.get i).demand := by
    rw [Four.get_map]
    rfl
  exact (hdemand i).trans ((Lift.revalve_demand _ _ i).trans hmap)

/-- What comes before may change the lift, its level maintenance, the inputs and the notices, when it leaves the epoch
and the demands and takes nothing back that LIFT has told. -/
theorem State.reachesRaised.before (h : u.reachesRaised t) (honly : Only [.lift, .level, .inputs, .notices] s u)
    (hstands : u.level.epoch = s.level.epoch ∧ ∀ i, (u.lift.points.get i).demand = (s.lift.points.get i).demand)
    (hkept : s.liftKept u) : s.reachesRaised t := by
  obtain ⟨hstate, hepoch, hdemand, hcontext, hstore, hprobes, hplans, htold⟩ := h
  obtain ⟨kepoch, kdemand⟩ := hstands
  exact ⟨hstate, kepoch ▸ hepoch, fun i => (hdemand i).trans (kdemand i),
    hcontext.trans (honly.2 .context (by decide)), hstore.trans (honly.2 .store (by decide)),
    hprobes.trans (honly.2 .probes (by decide)), hplans.trans (honly.2 .plans (by decide)), hkept.told htold⟩

/-- A write that keeps the points and the epoch comes before an entry to RAISED without a trace. -/
theorem State.reachesRaised.before_putLift {l : Lift} {v : Level} (h : (s.putLift l v).reachesRaised t)
    (hl : l.points = s.lift.points) (hv : v.epoch = s.level.epoch) : s.reachesRaised t := by
  refine h.before ((s.putLift_only l v).mono (by decide)) ⟨?_, fun i => ?_⟩ (s.putLift_liftKept l v)
  · rw [State.putLift_level, hv]
  · rw [State.putLift_lift, Lift.revalve_demand, hl]

theorem State.reachesRaised.before_acceptLevel {i : Input} (h : (s.acceptLevel i).reachesRaised t) :
    s.reachesRaised t :=
  h.before ((s.acceptLevel_only i).mono (by decide)) ⟨rfl, fun _ => rfl⟩ (s.acceptLevel_liftKept i)

end

/-! ### The waits of parking, each as it ends and as it goes on (R70, R71, R73) -/

/-- The group on the locks: PARKED, with the dwell running (R70, R71). -/
def State.engaged (s : State) : State :=
  s.putLift { s.lift with state := .parked }
    { s.level with relief := true, parkStep := none, dwell := .running, unparkPending := false }

/-- The wait for pressure ended: the lock demand is dropped, and the locks are waited for (R73). -/
def State.pressed (s : State) : State :=
  s.putLift s.lift { s.level with lockRaised := false, parkStep := some .releaseWait }

section
variable {s : State}

theorem State.testEngage_of_engageWait (h : s.lift.state = .parking ∧ s.level.parkStep = some .engageWait) :
    s.testEngage = if s.level? .locksEngaged then s.engaged else s := by
  obtain ⟨hstate, hstep⟩ := h
  simp only [State.testEngage, hstate, hstep, true_and]
  rfl

theorem State.testEngage_of_not_parking (h : s.lift.state ≠ .parking) : s.testEngage = s :=
  if_neg fun ⟨hstate, _⟩ => h hstate

theorem State.testRelease_of_releaseWait (h : s.lift.state = .unparking ∧ s.level.parkStep = some .releaseWait) :
    s.testRelease = if s.level? .locksEngaged then s else s.released := by
  obtain ⟨hstate, hstep⟩ := h
  cases hlocks : s.level? .locksEngaged <;> simp [State.testRelease, hstate, hstep, hlocks, State.released]

/-- The wait for pressure goes on without it, and with it gives way to the wait for the locks. -/
theorem State.testPressure_of_pressureWait (h : s.lift.state = .unparking ∧ s.level.parkStep = some .pressureWait) :
    s.testPressure = if s.level? .pressureOk then if s.level? .locksEngaged then s.pressed else s.pressed.released
      else s := by
  obtain ⟨hstate, hstep⟩ := h
  have hwait : s.pressed.lift.state = .unparking ∧ s.pressed.level.parkStep = some .releaseWait := by
    rw [State.pressed, State.putLift_lift, State.putLift_level]
    exact ⟨hstate, rfl⟩
  have hlocks : s.pressed.level? .locksEngaged = s.level? .locksEngaged :=
    State.level?_of_only (s.putLift_only _ _) (by decide) _
  rw [← hlocks, ← State.testRelease_of_releaseWait hwait]
  simp only [State.testPressure, hstate, hstep, true_and]
  rfl

end

theorem State.testEngage_liftKept (s : State) : s.liftKept s.testEngage := .ite (s.putLift_liftKept _ _) (.refl s)

/-! ### PARK (R70) -/

/-- The group as it has left RAISED for PARKING, before the locks are looked at (R56, R70). -/
def State.parkBegun (s : State) : State :=
  (s.putLift { s.lift with state := .parking }
    { s.level with lockRaised := true, parkStep := some .engageWait }).departRaised

/-- Closed valves stay closed in a state that drives no point. -/
theorem Lift.revalve_shut (l : Lift) (m : Option (Four Bool)) {now : LiftState}
    (h : now ≠ .raising ∧ now ≠ .lowering ∧ now ≠ .raised) :
    ({ l with state := now, points := l.points.map Point.shut } : Lift).revalve m =
      { l with state := now, points := l.points.map Point.shut } := by
  rw [Lift.revalve_of_still m h]
  rfl

section
variable (s : State)

theorem State.parkBegun_lift :
    s.parkBegun.lift = { s.lift with state := .parking, points := s.lift.points.map Point.shut } := by
  rw [State.parkBegun, State.departRaised_lift, State.putLift_lift,
    Lift.revalve_of_still (l := { s.lift with state := .parking }) _ ⟨nofun, nofun, nofun⟩]
  exact s.lift.revalve_shut (now := .parking) none ⟨nofun, nofun, nofun⟩

theorem State.parkBegun_level : s.parkBegun.level = { s.level with
    backlog := 0, interval := .stopped, relevel := none, lockRaised := true, parkStep := some .engageWait } := by
  rw [State.parkBegun, State.departRaised_level, State.putLift_level]

theorem State.parkBegun_only :
    Only [.lift, .level, .stations, .axes, .capture, .context, .engine, .notices] s s.parkBegun :=
  (s.putLift_only _ _).step (State.departRaised_only _) (by decide) (by decide)

theorem State.parkBegun_testEngage :
    s.parkBegun.testEngage = if s.level? .locksEngaged then s.parkBegun.engaged else s.parkBegun := by
  have hwait : s.parkBegun.lift.state = .parking ∧ s.parkBegun.level.parkStep = some .engageWait := by
    rw [State.parkBegun_lift, State.parkBegun_level]
    exact ⟨rfl, rfl⟩
  rw [State.testEngage_of_engageWait hwait, State.level?_of_only s.parkBegun_only (by decide)]

theorem State.parkBegun_testEngage_lift : s.parkBegun.testEngage.lift = { s.lift with
    state := if s.level? .locksEngaged then .parked else .parking, points := s.lift.points.map Point.shut } := by
  rw [State.parkBegun_testEngage]
  split
  · rw [State.engaged, State.putLift_lift, State.parkBegun_lift]
    exact s.lift.revalve_shut (now := .parked) _ ⟨nofun, nofun, nofun⟩
  · exact s.parkBegun_lift

theorem State.parkBegun_testEngage_level : s.parkBegun.testEngage.level = { s.level with
    backlog := 0, interval := .stopped, relevel := none, lockRaised := true
    relief := s.level.relief || s.level? .locksEngaged
    parkStep := if s.level? .locksEngaged then none else some .engageWait
    dwell := if s.level? .locksEngaged then .running else s.level.dwell
    unparkPending := s.level.unparkPending && !s.level? .locksEngaged } := by
  rw [State.parkBegun_testEngage]
  cases s.level? .locksEngaged
  · simp [State.parkBegun_level]
  · simp [State.engaged, State.parkBegun_level]

theorem State.parkBegun_testEngage_liftTold (h : s.lift.state = .raised) : s.liftTold s.parkBegun.testEngage := by
  have hput (v : Level) : s.liftTold (s.putLift { s.lift with state := .parking } v) :=
    s.putLift_liftTold _ v (.inl (by simp [Lift.seen, h]))
  exact ((hput _).after (State.departRaised_liftKept _)).after (State.testEngage_liftKept _)

end

section
variable {s t u : State}

/-- What comes after a departure and leaves the contexts, the engine, the stations and Capture Memory leaves what the
departure has made of them. -/
theorem State.departs.after {l : List Block} (h : s.departs t) (k : Only l t u)
    (hl : ∀ b ∈ [Block.context, .engine, .stations, .capture], b ∉ l) : s.departs u := by
  have hcontext : u.context = t.context := k.2 .context (hl _ (by decide))
  have hengine : u.engine = t.engine := k.2 .engine (hl _ (by decide))
  have hstations : u.stations = t.stations := k.2 .stations (hl _ (by decide))
  have hcapture : u.capture = t.capture := k.2 .capture (hl _ (by decide))
  simpa only [State.departs, State.cut, State.sweepOf, hcontext, hengine, hstations, hcapture] using h

/-- A station in HELD takes the cause LIFT to those that hold it. -/
theorem State.departs.cut_held (h : s.departs t) {st : Station} (hheld : (s.cut st).state = .held) :
    (t.cut st).holds = { (s.cut st).holds with lift := true } := by
  obtain ⟨-, -, hcut, -⟩ := h
  obtain ⟨-, hhold, -⟩ := hcut st
  rw [hhold (.inr hheld)]

theorem State.parkBegun_testEngage_departs (s : State) : s.departs s.parkBegun.testEngage :=
  (State.departs_of_putLift (State.departRaised_departs _)).after (State.testEngage_only _) (by decide)

theorem State.park_of_level (hraised : s.lift.state = .raised) (hidle : s.pitIdle = true)
    (howed : s.level.backlog = 0 ∧ s.level.urgent = false) : s.park = s.parkBegun.testEngage.accept := by
  have hpaid : ¬(0 < s.level.backlog ∨ s.level.urgent = true) := by simp [howed]
  rw [State.park, if_neg (not_not.2 hraised), hidle]
  exact if_neg hpaid

theorem State.park_of_busy (h : s.lift.state ≠ .raised ∨ s.pitIdle = false) : s.park = s.refuse .wrongState := by
  unfold State.park
  split
  · rfl
  · next hraised => exact if_pos (by simpa [not_not.1 hraised] using h)

theorem State.park_of_owed (hraised : s.lift.state = .raised) (hidle : s.pitIdle = true)
    (howed : 0 < s.level.backlog ∨ s.level.urgent = true) : s.park = s.refuse .levelPending := by
  rw [State.park, if_neg (not_not.2 hraised), hidle]
  exact if_pos howed

theorem exec_park_handed {tag : Byte} (hs : s.handed 0x38 tag [] = some t) :
    exec (.park tag []) s = .next (t.park.sent 0x38 tag) :=
  congrArg Host.Outcome.next (State.plainCommand_handed (x := ()) hs)

end

/-! ### UNPARK (R72, R73) -/

/-- The group in UNPARKING, before the pressure is looked at (R73). -/
def State.unparkBegun (s : State) : State :=
  s.putLift { s.lift with state := .unparking }
    { s.level with relief := false, unparkPending := false, parkStep := some .pressureWait }

section
variable {s t : State}

/-- A further write of the lift adds nothing to a change of which LIFT has been told (R185). -/
theorem State.putLift_notices_of_told (h : t.notices = (s.notify .lift).notices) (l : Lift) (v : Level) :
    (t.putLift l v).notices = (s.notify .lift).notices := by
  have htwice : (t.notify .lift).notices = (s.notify .lift).notices := by
    rw [State.notify_notices, h, ← State.notify_notices, State.notify_notify]
  rw [State.putLift_notices]
  split <;> assumption

theorem State.beginUnparking_eq (s : State) : s.beginUnparking =
    if s.level? .pressureOk then
      if s.level? .locksEngaged then s.unparkBegun.pressed else s.unparkBegun.pressed.released
    else s.unparkBegun := by
  have hwait : s.unparkBegun.lift.state = .unparking ∧ s.unparkBegun.level.parkStep = some .pressureWait := by
    rw [State.unparkBegun, State.putLift_lift, State.putLift_level]
    exact ⟨rfl, rfl⟩
  have hlevel (i : Input) : s.unparkBegun.level? i = s.level? i :=
    State.level?_of_only (s.putLift_only _ _) (by decide) i
  have htest := State.testPressure_of_pressureWait hwait
  rw [hlevel, hlevel] at htest
  exact htest

/-- The start of UNPARKING is told, once, whatever of it the pressure lets follow. -/
theorem State.tellsLift_of_unparking (h : s.lift.state = .parked) (hstate : t.lift.state = .unparking)
    (hn : t.notices = (s.notify .lift).notices) : s.tellsLift t :=
  State.tellsLift_of_told hn fun ⟨hsame, _⟩ => by simp [hstate, h] at hsame

/-- UNPARKING that begins from PARKED in a wait. -/
theorem State.beginUnparking_of_wait (h : s.lift.state = .parked)
    (hwait : s.level? .pressureOk = false ∨ s.level? .locksEngaged = true) :
    s.beginUnparking.lift.state = .unparking ∧
      s.beginUnparking.level = { s.level with
        relief := false, unparkPending := false
        lockRaised := s.level.lockRaised && !s.level? .pressureOk
        parkStep := if s.level? .pressureOk then some .releaseWait else some .pressureWait } ∧
      s.tellsLift s.beginUnparking ∧ Only [.lift, .level, .notices] s s.beginUnparking := by
  have htold : s.unparkBegun.notices = (s.notify .lift).notices := by
    rw [State.unparkBegun, State.putLift_notices]
    exact if_neg (by simp [Lift.seen, h])
  rw [State.beginUnparking_eq]
  cases hp : s.level? .pressureOk with
  | false =>
    have hstate : s.unparkBegun.lift.state = .unparking := by
      rw [State.unparkBegun, State.putLift_lift]
      rfl
    exact ⟨hstate, by simp [State.unparkBegun], State.tellsLift_of_unparking h hstate htold, s.putLift_only _ _⟩
  | true =>
    have hlocks : s.level? .locksEngaged = true := hwait.resolve_left (by simp [hp])
    have hstate : s.unparkBegun.pressed.lift.state = .unparking := by
      rw [State.pressed, State.putLift_lift, State.unparkBegun, State.putLift_lift]
      rfl
    rw [if_pos rfl, if_pos hlocks]
    exact ⟨hstate, by simp [State.pressed, State.unparkBegun],
      State.tellsLift_of_unparking h hstate (State.putLift_notices_of_told htold _ _),
      (s.putLift_only _ _).trans (State.putLift_only _ _ _)⟩

/-- UNPARKING that finds the pressure good and the locks released. -/
theorem State.beginUnparking_of_free (hp : s.level? .pressureOk = true) (hlocks : s.level? .locksEngaged = false) :
    s.reachesRaised s.beginUnparking ∧ s.beginUnparking.level.parking = { s.level with
      relief := false, unparkPending := false, lockRaised := false, parkStep := none }.parking := by
  have heq : s.beginUnparking = s.unparkBegun.pressed.released := by
    rw [State.beginUnparking_eq, if_pos hp, if_neg (by simp [hlocks])]
  rw [heq]
  constructor
  · have hpressed : s.unparkBegun.reachesRaised s.unparkBegun.pressed.released :=
      (State.released_reachesRaised _).before_putLift rfl rfl
    exact hpressed.before_putLift rfl rfl
  · rw [State.released_parking, State.pressed, State.putLift_level, State.unparkBegun, State.putLift_level]

theorem exec_unpark_handed {tag : Byte} (hs : s.handed 0x39 tag [] = some t) :
    exec (.unpark tag []) s = .next (t.unpark.sent 0x39 tag) :=
  congrArg Host.Outcome.next (State.plainCommand_handed (x := ()) hs)

theorem State.unpark_of_not_parked (h : s.lift.state ≠ .parked) : s.unpark = s.refuse .wrongState := if_pos h

theorem State.unpark_of_no_pit (h : s.lift.state = .parked) (hpit : s.setup.pit = none) :
    s.unpark = s.refuse .notConfigured := by
  rw [State.unpark, if_neg (not_not.2 h), hpit]
  rfl

/-- In PARKED with a pit the stop circuit decides, and then the dwell. -/
theorem State.unpark_of_pit (h : s.lift.state = .parked) (hpit : s.setup.pit ≠ none) : s.unpark =
    if s.level? .estopOk = false then s.refuse .interlock
    else if s.level.dwell = .running then
      ⟨s.putLift s.lift { s.level with unparkPending := true }, .deferred, .none⟩
    else s.beginUnparking.accept :=
  (if_neg (not_not.2 h)).trans (if_neg (by simpa using hpit))

theorem State.unpark_of_dwelling (h : s.lift.state = .parked) (hpit : s.setup.pit ≠ none)
    (he : s.level? .estopOk = true) (hdwell : s.level.dwell = .running) :
    s.unpark = ⟨s.putLift s.lift { s.level with unparkPending := true }, .deferred, .none⟩ := by
  rw [State.unpark_of_pit h hpit, if_neg (by simp [he]), if_pos hdwell]

theorem State.unpark_of_ready (h : s.lift.state = .parked) (hpit : s.setup.pit ≠ none)
    (he : s.level? .estopOk = true) (hdwell : s.level.dwell ≠ .running) : s.unpark = s.beginUnparking.accept := by
  rw [State.unpark_of_pit h hpit, if_neg (by simp [he]), if_neg hdwell]

end

/-! ### The locks lost (R51, R75) -/

/-- From the parking states an entry to FAULT is one write, which drops the outputs, the step, the dwell and the
flag. -/
theorem State.enterFault_of_parking {s : State} (c : FaultCause)
    (h : s.lift.state = .parking ∨ s.lift.state = .parked ∨ s.lift.state = .unparking) :
    s.enterFault c = s.putLift { (s.lift.stopped .fault) with fault := some c }
      { s.level with
        relevel := none, parkStep := none, relief := false, lockRaised := false, dwell := .stopped
        unparkPending := false } := by
  have hraised : s.lift.state ≠ .raised := by rcases h with h | h | h <;> simp [h]
  rw [State.enterFault, if_neg hraised, Level.leaveParking, if_pos h]

section
variable {s : State}

theorem State.locksFall_of_lost
    (h : s.lift.state = .parked ∨ s.lift.state = .unparking ∧ s.level.parkStep = some .pressureWait) :
    s.locksFall = s.enterFault .lockLost := by
  rcases h with h | ⟨h, hstep⟩
  · simp only [State.locksFall, h]
  · simp only [State.locksFall, h, if_pos hstep]

theorem State.locksFall_of_releaseWait (h : s.lift.state = .unparking ∧ s.level.parkStep = some .releaseWait) :
    s.locksFall = s.testRelease := by
  obtain ⟨hstate, hstep⟩ := h
  simp [State.locksFall, hstate, hstep]

theorem State.locksFall_of_elsewhere (h : s.lift.state ≠ .parked ∧ s.lift.state ≠ .unparking) : s.locksFall = s := by
  obtain ⟨hparked, hunparking⟩ := h
  unfold State.locksFall
  split
  · contradiction
  · contradiction
  · rfl

end

/-! ### The accepted changes of the pressure and the locks (R71, R73, R75, R90) -/

section
variable {s u : State} {i : Input} {length : Nat} {raw : Bool}

theorem State.handOut_pressureOk_rise (s : State) : s.handOut .pressureOk true = s.testPressure := rfl

theorem State.handOut_locksEngaged_rise (s : State) : s.handOut .locksEngaged true = s.testEngage := rfl

theorem State.handOut_locksEngaged_fall (s : State) : s.handOut .locksEngaged false = s.locksFall := rfl

theorem State.handOut_pressureOk_of_pressureWait (hraw : (s.inputs.get .pressureOk).raw = true)
    (h : s.lift.state = .unparking ∧ s.level.parkStep = some .pressureWait) :
    (s.acceptLevel .pressureOk).handOut .pressureOk true =
      if s.level? .locksEngaged then (s.acceptLevel .pressureOk).pressed
      else (s.acceptLevel .pressureOk).pressed.released := by
  have hlocks : (s.acceptLevel .pressureOk).level? .locksEngaged = s.level? .locksEngaged :=
    s.acceptLevel_level?_of_ne _ (by decide)
  rw [State.handOut_pressureOk_rise, State.testPressure_of_pressureWait (s := s.acceptLevel .pressureOk) h,
    State.acceptLevel_level?_self, if_pos hraw, hlocks]

theorem State.handOut_locksEngaged_of_engageWait (hraw : (s.inputs.get .locksEngaged).raw = true)
    (h : s.lift.state = .parking ∧ s.level.parkStep = some .engageWait) :
    (s.acceptLevel .locksEngaged).handOut .locksEngaged true = (s.acceptLevel .locksEngaged).engaged := by
  rw [State.handOut_locksEngaged_rise, State.testEngage_of_engageWait (s := s.acceptLevel .locksEngaged) h,
    State.acceptLevel_level?_self, if_pos hraw]

theorem State.handOut_locksEngaged_of_releaseWait (hraw : (s.inputs.get .locksEngaged).raw = false)
    (h : s.lift.state = .unparking ∧ s.level.parkStep = some .releaseWait) :
    (s.acceptLevel .locksEngaged).handOut .locksEngaged false = (s.acceptLevel .locksEngaged).released := by
  rw [State.handOut_locksEngaged_fall, State.locksFall_of_releaseWait (s := s.acceptLevel .locksEngaged) h,
    State.testRelease_of_releaseWait (s := s.acceptLevel .locksEngaged) h, State.acceptLevel_level?_self,
    if_neg (by simp [hraw])]

theorem State.handOut_locksEngaged_of_elsewhere (level : Bool)
    (h : s.lift.state ≠ .parking ∧ s.lift.state ≠ .parked ∧ s.lift.state ≠ .unparking) :
    (s.acceptLevel .locksEngaged).handOut .locksEngaged level = s.acceptLevel .locksEngaged := by
  obtain ⟨hparking, hfall⟩ := h
  cases level
  · rw [State.handOut_locksEngaged_fall, State.locksFall_of_elsewhere (s := s.acceptLevel .locksEngaged) hfall]
  · rw [State.handOut_locksEngaged_rise, State.testEngage_of_not_parking (s := s.acceptLevel .locksEngaged) hparking]

/-- What is left of an accepted change by which the locks are released. -/
theorem exec_debounceExpiry_of_released
    (h : (s.inputs.get i).timer = .running length ∧ (s.inputs.get i).raw = raw)
    (hout : (s.acceptLevel i).handOut i raw = u.released) (hreach : (s.acceptLevel i).reachesRaised u.released) :
    ∃ t, exec (.debounceExpiry i) s = .next t ∧ s.reachesRaised t ∧ t.level.parkStep = none ∧
      t.level.lockRaised = u.level.lockRaised := by
  obtain ⟨hstep, -, -, hlock, -⟩ := (Level.parking_eq_iff _ _).1 u.released_parking
  exact ⟨_, hout ▸ exec_debounceExpiry_of_running h, hreach.before_acceptLevel, hstep, hlock⟩

end

/-! ### The obligation -/

/-- Settles O36: PARK and UNPARK by their checks, and each accepted change of the pressure and the locks by the state
and the step that meet it; but for the departure from RAISED and the entry to it each case is one write of the lift or
two. -/
theorem parkingAndUnparking : Obligations.ParkingAndUnparking := by
  refine ⟨fun tag s s1 => ⟨fun hs => ?park, fun hs => ?unpark⟩, fun s length => ?waits⟩
  case park =>
    have hexec := exec_park_handed hs
    refine ⟨fun hraised hidle hbacklog hurgent => ?level, fun hbusy => exec_of_refuse hexec (State.park_of_busy hbusy),
      fun hraised hidle howed => exec_of_refuse hexec (State.park_of_owed hraised hidle howed)⟩
    have honly : Only [.lift, .level, .stations, .axes, .capture, .context, .engine, .notices] s1
        s1.parkBegun.testEngage := s1.parkBegun_only.step (State.testEngage_only _) (by decide) (by decide)
    obtain ⟨hnext, hanswer⟩ := exec_of_accept hexec (State.park_of_level hraised hidle ⟨hbacklog, hurgent⟩)
      (honly.2 .link (by decide))
    have hdeparts := s1.parkBegun_testEngage_departs
    have htold := s1.parkBegun_testEngage_liftTold hraised
    have hlift := s1.parkBegun_testEngage_lift
    have hlevel := s1.parkBegun_testEngage_level
    generalize s1.parkBegun.testEngage = t at *
    refine ⟨_, hnext, hanswer, hdeparts.allStale, by rw [State.replied_lift, hlift], hlevel, fun i => ?points,
      fun _ => hdeparts.cut_held, hdeparts, htold, (only_replied _ _ _ _ _ _ _ (by decide)).2 (honly.mono (by decide))⟩
    rw [State.replied_lift, hlift, Four.get_map]
    exact ⟨rfl, rfl⟩
  case unpark =>
    have hexec := exec_unpark_handed hs
    refine ⟨fun hother => exec_of_refuse hexec (State.unpark_of_not_parked hother),
      fun hparked hpit => exec_of_refuse hexec (State.unpark_of_no_pit hparked hpit),
      fun hparked hpit => ⟨fun he => ?interlock, fun he hdwell => ?deferred, fun he hdwell hwait => ?wait,
        fun he hdwell hp hlocks => ?free⟩⟩
    case interlock => exact exec_of_refuse hexec ((State.unpark_of_pit hparked hpit).trans (if_pos he))
    case deferred =>
      rw [State.unpark_of_dwelling hparked hpit he hdwell] at hexec
      refine ⟨_, hexec, ?_, State.putLift_level .., ?_, s1.putLift_tellsLift _ _, ?_⟩
      · simp [State.answers, Answered.sent]
      · rw [Answered.sent, State.replied_lift, State.putLift_lift]
        exact hparked
      · simp [Answered.sent]
    case wait =>
      obtain ⟨hstate, hlevel, htells, honly⟩ := State.beginUnparking_of_wait hparked hwait
      obtain ⟨hnext, hanswer⟩ := exec_of_accept hexec (State.unpark_of_ready hparked hpit he hdwell)
        (honly.2 .link (by decide))
      generalize s1.beginUnparking = t at *
      exact ⟨_, hnext, hanswer, hstate, hlevel, htells,
        (only_replied _ _ _ _ _ _ _ (by decide)).2 (honly.mono (by decide))⟩
    case free =>
      obtain ⟨⟨hstate, hepoch, -, hcontext, hstore, hprobes, -, htold⟩, hparking⟩ :=
        State.beginUnparking_of_free hp hlocks
      obtain ⟨hstep, -, -, hlock, hrelief⟩ := (Level.parking_eq_iff _ _).1 hparking
      obtain ⟨hnext, hanswer⟩ := exec_of_accept hexec (State.unpark_of_ready hparked hpit he hdwell)
        (s1.beginUnparking_only.2 .link (by decide))
      generalize s1.beginUnparking = t at *
      exact ⟨_, hnext, hanswer, hstate, hstep, hlock, hrelief, hepoch, hcontext, hstore, hprobes, htold⟩
  case waits =>
    intro accepts lifted told
    have hlifted {t : State} (hreach : s.reachesRaised t) (hstep : t.level.parkStep = none)
        (hlock : t.level.lockRaised = (s.level.lockRaised && !decide (s.level.parkStep = some .pressureWait))) :
        lifted t := by
      obtain ⟨hstate, hepoch, hdemand, hcontext, hstore, hprobes, hplans, htold⟩ := hreach
      exact ⟨hstate, hstep, hlock, hepoch, hdemand, hcontext, hstore, hprobes, hplans, htold⟩
    refine ⟨fun hin hstate hstep => ?engage, fun hin hstate hstep => ⟨fun hlocks => ?press, fun hlocks => ?lift⟩,
      fun hin hstate hstep => ?release, fun hin hlost => ?lost, fun level hin hparking hparked hunparking => ?elsewhere⟩
    case engage =>
      have hout := State.handOut_locksEngaged_of_engageWait hin.2 ⟨hstate, hstep⟩
      obtain ⟨t, hnext, hlift, hlevel, htold, honly⟩ :=
        exec_debounceExpiry_of_putLift hin hout rfl (.inl (by simp [Lift.seen, State.acceptLevel_lift, hstate]))
      exact ⟨t, hnext, by rw [hlift]; rfl, hlevel, htold, honly⟩
    case press =>
      have hout := (State.handOut_pressureOk_of_pressureWait hin.2 ⟨hstate, hstep⟩).trans (if_pos hlocks)
      obtain ⟨t, hnext, hlift, hlevel, htold, honly⟩ :=
        exec_debounceExpiry_of_putLift hin hout rfl (.inr (by simp [Level.seen, State.acceptLevel_level, hstep]))
      exact ⟨t, hnext, by rw [hlift]; exact hstate, hlevel, htold, honly⟩
    case lift =>
      have hout := (State.handOut_pressureOk_of_pressureWait hin.2 ⟨hstate, hstep⟩).trans (if_neg (by simp [hlocks]))
      obtain ⟨t, hnext, hreach, hnone, hlock⟩ := exec_debounceExpiry_of_released hin hout
        ((State.released_reachesRaised _).before_putLift rfl rfl)
      refine ⟨t, hnext, hlifted hreach hnone (hlock.trans ?_)⟩
      simp [State.pressed, hstep]
    case release =>
      have hout := State.handOut_locksEngaged_of_releaseWait hin.2 ⟨hstate, hstep⟩
      obtain ⟨t, hnext, hreach, hnone, hlock⟩ :=
        exec_debounceExpiry_of_released hin hout (State.released_reachesRaised _)
      refine ⟨t, hnext, hlifted hreach hnone (hlock.trans ?_)⟩
      simp [State.acceptLevel_level, hstep]
    case lost =>
      have hunfaulted : s.lift.state ≠ .fault := by rcases hlost with h | ⟨h, -⟩ <;> simp [h]
      have hparking : s.lift.state = .parking ∨ s.lift.state = .parked ∨ s.lift.state = .unparking := by tauto
      have hout := (State.locksFall_of_lost (s := s.acceptLevel .locksEngaged) hlost).trans
        (State.enterFault_of_parking .lockLost hparking)
      exact exec_debounceExpiry_of_putLift hin hout (s.lift.revalve_stopped _ (.inr rfl) _ _)
        (.inl (by simp [Lift.seen, Lift.stopped, hunfaulted.symm]))
    case elsewhere =>
      have hnext := exec_debounceExpiry_of_running hin
      rw [State.handOut_locksEngaged_of_elsewhere level ⟨hparking, hparked, hunparking⟩] at hnext
      exact ⟨_, hnext, s.acceptLevel_notices _, s.acceptLevel_only _⟩

end Sys2Proof.Machine
end

section
/-! PROOFS. Chapter 7: the clearing of a capture area and a stretch of its row (R112, R121), the sweep that stops and
the one that starts (R112, R113, R116, R119), and the CAPTURE notice through the start test of Level Maintenance (R64,
R122). -/

namespace Sys2Proof.Machine

/-! ### Capture areas (R107, R112, R121) -/

/-- A clearing as it reads, of cells in any order. -/
theorem Cells.read_clear_any {α : Type} {d : α} (p : Nat → Bool) (c : Cells α) (a : Nat) :
    Cells.read d (Cells.clear p c) a = if p a then d else Cells.read d c a := by
  induction c with
  | nil => simp [Cells.clear, Cells.read]
  | cons x rest ih =>
    obtain ⟨k, v⟩ := x
    have hcons : Cells.clear p ((k, v) :: rest) =
        if p k then Cells.clear p rest else (k, v) :: Cells.clear p rest := by
      cases hk : p k <;> simp [Cells.clear, hk]
    rw [hcons]
    by_cases hak : a = k
    · subst hak
      cases hp : p a <;> simp [Cells.read, ih, hp]
    · cases p k <;> simp [Cells.read, ih, hak]

/-- What an accepted SWEEP makes of the areas of its station (R112, step 2). -/
def Area.clearedFor (mode : SweepMode) (first last : Nat) (c : Area) : Area :=
  match mode with
  | .fresh => []
  | .merge => c.clearWindow first last

section
variable (c : Area) (first last a : Nat) {k : Nat}

theorem sampleAddress_mod (hk : k < 160) : sampleAddress a k % Config.lateralStations = k :=
  (Nat.mul_add_mod_self_right a 160 k).trans (Nat.mod_eq_of_lt hk)

theorem Area.sample_clearWindow (hk : k < 160) : Area.sample (c.clearWindow first last) a k =
    if first ≤ k ∧ k ≤ last then .unset else Area.sample c a k := by
  simp [Area.sample, Area.clearWindow, Cells.read_clear_any, sampleAddress_mod a hk]

theorem Area.sample_clearedFor (mode : SweepMode) (hk : k < 160) : Area.sample (c.clearedFor mode first last) a k =
    if mode = .fresh ∨ first ≤ k ∧ k ≤ last then .unset else Area.sample c a k := by
  cases mode with
  | fresh => rfl
  | merge => simp [Area.clearedFor, Area.sample_clearWindow c first last a hk]

/-- A stretch of a row, clipped at lateral station 159 (R121). -/
theorem Area.row_stretch (n : Nat) : ((Area.row c a).drop first).take n =
    (List.range (min n (160 - first))).map fun k => Area.sample c a (first + k) := by
  apply List.ext_getElem
  · simp [Area.row, Config.lateralStations]
  · simp [Area.row]

end

/-! ### The sweep records, the areas and the axes of a station -/

theorem Two.set_set_same {α : Type} (t : Two α) (st : Station) (v w : α) : (t.set st v).set st w = t.set st w := by
  cases st <;> rfl

@[simp] theorem Two.get_set_other_station {α : Type} (t : Two α) (st : Station) (v : α) :
    (t.set st v).get st.other = t.get st.other := by
  cases st <;> rfl

theorem State.mapAreas_areas (s : State) (st : Station) (f : Area → Area) (wh : Wheel) :
    (s.mapAreas st f).capture.areas.get wh.ix =
      if wh.station = st then f (s.capture.areas.get wh.ix) else s.capture.areas.get wh.ix := by
  cases st <;> cases wh <;> rfl

theorem SweepState.inMotion_iff (w : SweepState) : w.inMotion = true ↔ w = .indexing ∨ w = .traversing := by
  cases w <;> simp [SweepState.inMotion]

theorem State.captureCurrent_iff (s : State) (st : Station) : s.captureCurrent st = true ↔
    ∃ r, (s.sweepOf st).run = some r ∧ r.epoch = s.level.epoch ∧ r.material = (s.cut st).material := by
  unfold State.captureCurrent
  cases (s.sweepOf st).run <;> simp

theorem State.captureCurrent_iff_of_run (s : State) {st : Station} {r : SweepRun} (h : (s.sweepOf st).run = some r) :
    s.captureCurrent st = true ↔ r.epoch = s.level.epoch ∧ r.material = (s.cut st).material := by
  simp [State.captureCurrent, h]

/-! ### A sweep that stops (R116, R119) -/

/-- The record of a sweep that stops: its fields are kept, and it waits for nothing (R116, R119). -/
def Sweep.halted (w : Sweep) (now : SweepState) (cause : Option PauseCause) : Sweep :=
  { w with state := now, cause := cause, step := .none }

/-- The sample requests once the one a station's sweep waits for is given up (R115). -/
def State.requestsGivenUp (s : State) (st : Station) : Two SampleRequest :=
  if s.capture.request.get st = .live then s.capture.request.set st .givenUp else s.capture.request

/-- The demands once a station's rollers stop where they stand and its carriage goes to park (R116, R119). -/
def State.sweepAxesStopped (s : State) (st : Station) : Axes :=
  { s.axes with
    roller := s.axes.roller.set st (.angle (s.capture.angle.get st))
    probe := s.axes.probe.set st .park }

/-- What a sweep that stops leaves, with its new record, in Capture Memory, at the axes and of the notices. -/
def State.sweepEnded (st : Station) (w : Sweep) (s : State) : State :=
  { s with
    capture := { s.capture with sweep := s.capture.sweep.set st w, request := s.requestsGivenUp st }
    axes := s.sweepAxesStopped st
    notices := (s.notify (.capture st)).notices }

section
variable (s : State) {st : Station}

theorem State.requestsGivenUp_eq : s.capture.request.set st (s.capture.request.get st).giveUp =
    s.requestsGivenUp st := by
  have hself : s.capture.request.set st (s.capture.request.get st) = s.capture.request := Two.set_get_self ..
  unfold State.requestsGivenUp
  cases h : s.capture.request.get st <;> rw [h] at hself
  case live => rfl
  case none | givenUp => exact hself

theorem State.sweepEnded_eq (w : Sweep) :
    ((s.stopSweepAxes st).putSweep st w).notify (.capture st) = s.sweepEnded st w := by
  unfold State.sweepEnded
  rw [← State.requestsGivenUp_eq]
  rfl

@[simp] theorem State.sweepEnded_context (w : Sweep) : (s.sweepEnded st w).context = s.context := rfl

theorem State.sweepEnded_only (w : Sweep) : Only [.capture, .axes, .notices] s (s.sweepEnded st w) := by
  rw [← State.sweepEnded_eq]
  simp

theorem State.pauseSweep_of_inMotion (c : PauseCause) (h : (s.sweepOf st).state.inMotion = true) :
    s.pauseSweep c st = s.sweepEnded st ((s.sweepOf st).halted .paused (some c)) :=
  (if_pos h).trans (s.sweepEnded_eq _)

theorem State.abandonSweep_of_paused (h : (s.sweepOf st).state = .paused) :
    s.abandonSweep st = s.sweepEnded st ((s.sweepOf st).halted .abandoned none) :=
  (if_pos (by rw [h]; rfl)).trans (s.sweepEnded_eq _)

end

/-! ### The start test of Level Maintenance (R64) after a sweep has stopped -/

theorem State.testStart_of_no_backlog {s : State} (h : s.level.backlog = 0) : s.testStart = s := by
  unfold State.testStart
  rw [h]
  rfl

/-- The CAPTURE source of a station is in `t` as it was in `s`. -/
def State.captureKept (st : Station) (s t : State) : Prop :=
  t.notices.get (.capture st) = s.notices.get (.capture st)

section
variable {s t u : State} {st : Station}

theorem State.captureKept.refl (s : State) : s.captureKept st s := rfl

theorem State.captureKept.trans (h : s.captureKept st t) (k : t.captureKept st u) :
    s.captureKept st u := Eq.trans k h

theorem State.captureKept.ite {p : Prop} [Decidable p] (h : s.captureKept st t) (k : s.captureKept st u) :
    s.captureKept st (if p then t else u) := by
  split <;> assumption

theorem State.captureKept_of_only {l : List Block} (h : Only l s t) (hl : Block.notices ∉ l) :
    s.captureKept st t :=
  congrArg (fun n => Notices.get n (.capture st)) (h.2 .notices hl)

theorem State.notify_lift_captureKept : s.captureKept st (s.notify .lift) :=
  State.notify_get_of_ne s (by cases st <;> decide)

theorem State.notify_station_captureKept (st' : Station) : s.captureKept st (s.notify (.station st')) :=
  State.notify_get_of_ne s (by cases st <;> cases st' <;> decide)

theorem State.putLift_captureKept (l : Lift) (v : Level) : s.captureKept st (s.putLift l v) := by
  unfold State.captureKept
  rw [State.putLift_notices]
  split
  · rfl
  · exact State.notify_lift_captureKept

theorem State.putCut_captureKept (st' : Station) (x : CutStation) : s.captureKept st (s.putCut st' x) := by
  unfold State.putCut
  exact .ite rfl (State.notify_station_captureKept st')

theorem State.leaveHeld_captureKept (st' : Station) : s.captureKept st (s.leaveHeld st') := by
  unfold State.leaveHeld
  have happroach : s.captureKept st (s.putCut st' { s.cut st' with state := .approach }) :=
    State.putCut_captureKept st' _
  refine .ite (happroach.trans ?_) (.refl s)
  exact State.captureKept_of_only ((State.driveRoller_only _ st' _).trans (State.driveApproach_only _ st')) (by decide)

theorem State.removeLevel_captureKept (st' : Station) : s.captureKept st (s.removeLevel st') :=
  (State.putCut_captureKept st' _).trans (State.leaveHeld_captureKept st')

theorem State.endUrgent_captureKept : s.captureKept st s.endUrgent :=
  ((State.putLift_captureKept _ _).trans (State.removeLevel_captureKept .a)).trans (State.removeLevel_captureKept .b)

theorem State.completeRelevel_captureKept (moved : Bool) : s.captureKept st (s.completeRelevel moved) := by
  unfold State.completeRelevel
  dsimp only
  exact .ite ((State.putLift_captureKept _ _).trans State.endUrgent_captureKept) (State.putLift_captureKept _ _)

theorem State.startRelevels_captureKept (n : Nat) (s : State) : s.captureKept st (s.startRelevels n) := by
  induction n generalizing s with
  | zero => exact .refl s
  | succ n ih =>
    unfold State.startRelevels
    split
    · exact .refl s
    · exact .ite (.ite (State.putLift_captureKept _ _) ((State.completeRelevel_captureKept false).trans (ih _)))
        (.refl s)

/-- The re-levels that can start when a sweep has stopped tell nothing of a sweep (R122). -/
theorem State.testStart_captureKept : s.captureKept st s.testStart := State.startRelevels_captureKept _ s

end

section
variable (s : State) (st : Station) (w : Sweep)

theorem State.sweepEnded_testStart_capture : (s.sweepEnded st w).testStart.capture =
    { s.capture with sweep := s.capture.sweep.set st w, request := s.requestsGivenUp st } :=
  (s.sweepEnded st w).testStart_only.2 .capture (by decide)

theorem State.sweepEnded_testStart_context : (s.sweepEnded st w).testStart.context = s.context :=
  (s.sweepEnded st w).testStart_only.2 .context (by decide)

theorem State.sweepEnded_testStart_link : (s.sweepEnded st w).testStart.link = s.link :=
  (s.sweepEnded st w).testStart_only.2 .link (by decide)

theorem State.sweepEnded_testStart_told :
    (s.sweepEnded st w).testStart.notices.get (.capture st) = (s.notices.get (.capture st)).event :=
  Eq.trans State.testStart_captureKept (s.notify_get_self (.capture st))

/-- With nothing owed no re-level starts, and the sweep alone has stopped (R64). -/
theorem State.sweepEnded_testStart_of_no_backlog (h : s.level.backlog = 0) :
    (s.sweepEnded st w).testStart = s.sweepEnded st w := State.testStart_of_no_backlog h

end

/-! ### A sweep that starts (R112, R113) -/

section
variable (s : State) (st : Station)

theorem State.beginIndexing_eq (w : Sweep) (r : SweepRun) (h : w.run = some r) : s.beginIndexing st w =
    { s with
      capture :=
        { s.capture with
          sweep := s.capture.sweep.set st { w with state := .indexing, cause := none, step := .none } }
      axes := { s.axes with roller := s.axes.roller.set st (.angle (r.angular * 4500)) } } := by
  unfold State.beginIndexing
  rw [h]
  rfl

variable (first last : Nat) (mode : SweepMode)

theorem State.setUpSweep_sweepOf : (s.setUpSweep st first last mode).sweepOf st =
    { state := .indexing, rowsDone := 0, cause := none, step := .none
      run := some
        { first := first, last := last, mode := mode, entry := s.entryStation st, angular := s.entryStation st,
          lateral := first, epoch := s.level.epoch, material := (s.cut st).material } } :=
  Two.get_set_same ..

theorem State.setUpSweep_sweepOf_other :
    (s.setUpSweep st first last mode).sweepOf st.other = s.sweepOf st.other :=
  Two.get_set_other_station ..

theorem State.setUpSweep_areas (wh : Wheel) : (s.setUpSweep st first last mode).capture.areas.get wh.ix =
    if wh.station = st then Area.clearedFor mode first last (s.capture.areas.get wh.ix)
    else s.capture.areas.get wh.ix :=
  s.mapAreas_areas st (Area.clearedFor mode first last) wh

@[simp] theorem State.setUpSweep_angle : (s.setUpSweep st first last mode).capture.angle = s.capture.angle := rfl
@[simp] theorem State.setUpSweep_request :
    (s.setUpSweep st first last mode).capture.request = s.capture.request := rfl
@[simp] theorem State.setUpSweep_notices :
    (s.setUpSweep st first last mode).notices = (s.notify (.capture st)).notices := rfl
@[simp] theorem State.setUpSweep_context : (s.setUpSweep st first last mode).context = s.context := rfl
@[simp] theorem State.setUpSweep_link : (s.setUpSweep st first last mode).link = s.link := rfl

theorem State.setUpSweep_axes : (s.setUpSweep st first last mode).axes =
    { s.axes with roller := s.axes.roller.set st (.angle (s.entryStation st * 4500)) } := rfl

end

end Sys2Proof.Machine
end

section
/-! PROOFS. Chapter 7: SWEEP, SWEEP CONTINUE, SWEEP STOP and READ PROFILE, by their checks and by what their owner
answers (R110 to R112, R117, R118, R121). -/

namespace Sys2Proof.Machine

/-! ### The checks of SWEEP and SWEEP CONTINUE (R110, R118) -/

/-- The checks of SWEEP in their order, each with its reply (R110). -/
def State.sweepChecks (s : State) (st : Station) : List (Bool × Code) :=
  [((s.probe st).calMode, .calibrationMode), (decide ((s.probe st).state ≠ .ready), .probeNotReady),
    (!(s.probe st).calibrated, .probeUncalibrated),
    (decide (s.setup.pit = none ∨ s.setup.cut = none), .notConfigured),
    (decide (s.lift.state ≠ .raised), .wrongState), (decide (s.boundSlot st = none), .wrongState),
    (decide ((s.cut st).state ≠ .idle), .wrongState),
    (decide ((s.sweepOf st).state = .indexing ∨ (s.sweepOf st).state = .traversing), .wrongState),
    (s.notLevel, .levelPending), (!s.level? .guardClosed, .interlock)]

/-- The checks of SWEEP CONTINUE in their order, each with its reply (R118). -/
def State.continueChecks (s : State) (st : Station) : List (Bool × Code) :=
  [(decide ((s.sweepOf st).state ≠ .paused), .wrongState), ((s.probe st).calMode, .calibrationMode),
    (decide (s.lift.state ≠ .raised), .wrongState), (decide (s.boundSlot st = none), .wrongState),
    (s.notLevel, .levelPending), (!s.level? .guardClosed, .interlock)]

section
variable (s : State) (st : Station)

theorem State.levelOwed_eq : s.levelOwed = s.notLevel := rfl

theorem State.not_configured_iff : (!s.configured) = true ↔ s.setup.pit = none ∨ s.setup.cut = none := by
  cases hpit : s.setup.pit <;> simp [State.configured, hpit]

theorem State.sweepRefusal_eq : s.sweepRefusal st = firstOf (s.sweepChecks st) := by
  simp only [State.sweepRefusal, State.sweepChecks, firstOf_cons, firstOf_nil, decide_eq_true_eq,
    State.not_configured_iff, Option.isNone_iff_eq_none, SweepState.inMotion_iff, State.levelOwed_eq]
  rfl

theorem State.continueRefusal_eq : s.continueRefusal st = firstOf (s.continueChecks st) := by
  simp only [State.continueRefusal, State.continueChecks, firstOf_cons, firstOf_nil, decide_eq_true_eq,
    Option.isNone_iff_eq_none, State.levelOwed_eq]
  rfl

end

/-! ### The window and the mode of SWEEP (R111) -/

theorem clampNat_zero (hi x : Nat) : clampNat 0 hi x = min hi x := by
  rw [clampNat_eq_max_min (Nat.zero_le hi), Nat.zero_max]

theorem SweepParams.window_eq (x : SweepParams) : x.window =
    (min (min 159 x.first) (min 159 x.last), max (min 159 x.first) (min 159 x.last)) := by
  simp only [SweepParams.window, clampNat_zero, Config.lateralStations]
  split <;> ext <;> simp <;> omega

theorem State.sweepMode_eq_merge_iff (s : State) (st : Station) (m : SweepMode) :
    s.sweepMode st m = .merge ↔ m = .merge ∧ s.captureCurrent st = true := by
  cases m <;> simp [State.sweepMode]

theorem SweepMode.eq_of_merge_iff {m n : SweepMode} (h : m = .merge ↔ n = .merge) : m = n := by
  cases m <;> cases n <;> simp_all

/-- OK when nothing has been changed. -/
theorem adjustedIf_eq {b : Bool} {p : Prop} [Decidable p] (h : b = false ↔ p) :
    adjustedIf b = if p then .ok else .adjusted := by
  cases b <;> simp_all [adjustedIf]

/-- The reply is OK when window and mode are carried out as sent (R111). -/
theorem SweepParams.code_eq (x : SweepParams) (first last : Nat) (mode : SweepMode) :
    adjustedIf (decide ((first, last) ≠ (x.first, x.last)) || decide (mode ≠ x.mode)) =
      if x.first = first ∧ x.last = last ∧ x.mode = mode then .ok else .adjusted :=
  adjustedIf_eq (by simp [and_assoc, eq_comm (a := first), eq_comm (a := last), eq_comm (a := mode)])

/-! ### What the three commands of a sweep answer -/

section
variable {s : State} {st : Station} {x : SweepParams} {c : Code}

theorem State.sweep_of_refused (h : s.sweepRefusal x.station = some c) : s.sweep x = s.refuse c := by
  simp only [State.sweep, h]

theorem State.sweepContinue_of_refused (h : s.continueRefusal st = some c) : s.sweepContinue st = s.refuse c := by
  simp only [State.sweepContinue, h]

theorem State.sweepContinue_of_current (h : s.continueRefusal st = none) (hc : s.captureCurrent st = true) :
    s.sweepContinue st =
      (((s.beginIndexing st (s.sweepOf st)).notify (.capture st)).touchStation st).accept := by
  simp only [State.sweepContinue, h, hc, if_true]

theorem State.sweepContinue_of_stale {r : SweepRun} (h : s.continueRefusal st = none)
    (hc : s.captureCurrent st = false) (hrun : (s.sweepOf st).run = some r) : s.sweepContinue st =
      ⟨(s.setUpSweep st r.first r.last .fresh).touchStation st, .restarted, .restarted (s.entryStation st)⟩ := by
  simp [State.sweepContinue, h, hc, hrun]

theorem State.sweepStop_of_inMotion (h : (s.sweepOf st).state.inMotion = true) : s.sweepStop st =
    ((s.sweepEnded st ((s.sweepOf st).halted .paused (some .host))).testStart.touchStation st).accept := by
  rw [State.sweepStop, if_pos h, State.pauseSweep_of_inMotion _ _ h]

theorem State.sweepStop_of_paused (h : (s.sweepOf st).state = .paused) :
    s.sweepStop st = ((s.sweepEnded st ((s.sweepOf st).halted .abandoned none)).touchStation st).accept := by
  rw [State.sweepStop, if_neg (by rw [h]; nofun), if_pos h, State.abandonSweep_of_paused _ h]

theorem State.sweepStop_of_ended
    (h : (s.sweepOf st).state = .idle ∨ (s.sweepOf st).state = .done ∨ (s.sweepOf st).state = .abandoned) :
    s.sweepStop st = s.refuse .wrongState := by
  unfold State.sweepStop
  rcases h with h | h | h <;> rw [h] <;> rfl

end

/-- What READ PROFILE answers (R121). -/
theorem State.readProfile_eq (s : State) (x : ReadProfileParams) : s.readProfile x =
    let a := min 7 x.angular
    let f := min 159 x.first
    let n := max 1 (min 40 x.count)
    ⟨s.touchStation x.wheel.station, if a = x.angular ∧ f = x.first ∧ n = x.count then .ok else .adjusted,
      .profile x.wheel a f
        ((List.range (min n (160 - f))).map fun k => Area.sample (s.capture.areas.get x.wheel.ix) a (f + k))
        (s.sweepOf x.wheel.station).state (s.captureCurrent x.wheel.station)⟩ := by
  have hcode (a f n : Nat) :
      adjustedIf (decide (a ≠ x.angular) || decide (f ≠ x.first) || decide (n ≠ x.count)) =
        if a = x.angular ∧ f = x.first ∧ n = x.count then .ok else .adjusted :=
    adjustedIf_eq (by simp [and_assoc])
  simp only [State.readProfile, hcode, clampNat_zero, clampNat_eq_max_min (show 1 ≤ 40 by decide), Area.row_stretch]
  rfl

/-! ### A paused sweep given up for a new one (R112, step 1) -/

section
variable (s : State) (st : Station)

theorem State.abandonPaused_eq : s.abandonPaused st =
    if (s.sweepOf st).state = .paused then s.sweepEnded st ((s.sweepOf st).halted .abandoned none) else s := by
  unfold State.abandonPaused
  split
  · next h => exact s.abandonSweep_of_paused h
  · rfl

theorem State.abandonPaused_sweepOf_other : (s.abandonPaused st).sweepOf st.other = s.sweepOf st.other := by
  rw [State.abandonPaused_eq]
  split
  · exact Two.get_set_other_station ..
  · rfl

theorem State.abandonPaused_areas : (s.abandonPaused st).capture.areas = s.capture.areas := by
  rw [State.abandonPaused_eq]
  split <;> rfl

theorem State.abandonPaused_angle : (s.abandonPaused st).capture.angle = s.capture.angle := by
  rw [State.abandonPaused_eq]
  split <;> rfl

theorem State.abandonPaused_request : (s.abandonPaused st).capture.request =
    if (s.sweepOf st).state = .paused ∧ s.capture.request.get st = .live then s.capture.request.set st .givenUp
    else s.capture.request := by
  rw [State.abandonPaused_eq, ite_and]
  split <;> rfl

/-- The rollers stop for the sweep given up, and turn for the new one at once (R112, R113). -/
theorem State.abandonPaused_axes_driven (d : RollerDemand) :
    { (s.abandonPaused st).axes with roller := (s.abandonPaused st).axes.roller.set st d } =
      { s.axes with
        roller := s.axes.roller.set st d
        probe := if (s.sweepOf st).state = .paused then s.axes.probe.set st .park else s.axes.probe } := by
  rw [State.abandonPaused_eq]
  split
  · simp only [State.sweepEnded, State.sweepAxesStopped, Two.set_set_same]
  · rfl

theorem State.abandonPaused_notify :
    ((s.abandonPaused st).notify (.capture st)).notices = (s.notify (.capture st)).notices := by
  rw [State.abandonPaused_eq]
  have htwice := congrArg State.notices (s.notify_notify (.capture st))
  split
  · exact htwice
  · rfl

end

/-! ### The commands as the host sends them -/

section
variable {tag : Byte} {payload : List Byte} {s s1 : State} {st : Station}

/-- A command whose parameters are read and whose frame is handed over is answered by its owner. -/
theorem State.plainCommand_next {α : Type} {kind : Byte} {params : Except Code α} {owner : α → State → Answered} {x : α}
    (hp : params = .ok x) (hs : s.handed kind tag payload = some s1) :
    (Host.Outcome.next (s.plainCommand kind tag payload params owner) : Host.Outcome State Fault Refusal) =
      .next ((owner x s1).sent kind tag) := by
  rw [hp, State.plainCommand_handed hs]

theorem exec_sweep_handed {x : SweepParams} (hp : sweepParams payload = .ok x)
    (hs : s.handed 0x48 tag payload = some s1) :
    exec (.sweep tag payload) s = .next ((s1.sweep x).sent 0x48 tag) := State.plainCommand_next hp hs

theorem exec_sweepContinue_handed (hp : stationParam payload = .ok st) (hs : s.handed 0x49 tag payload = some s1) :
    exec (.sweepContinue tag payload) s = .next ((s1.sweepContinue st).sent 0x49 tag) := State.plainCommand_next hp hs

theorem exec_sweepStop_handed (hp : stationParam payload = .ok st) (hs : s.handed 0x4A tag payload = some s1) :
    exec (.sweepStop tag payload) s = .next ((s1.sweepStop st).sent 0x4A tag) := State.plainCommand_next hp hs

theorem exec_readProfile_handed {x : ReadProfileParams} (hp : readProfileParams payload = .ok x)
    (hs : s.handed 0x4B tag payload = some s1) :
    exec (.readProfile tag payload) s = .next ((s1.readProfile x).sent 0x4B tag) := State.plainCommand_next hp hs

/-- The link as the reply leaves it, of an owner that leaves the link alone. -/
theorem Answered.sent_answers {r : Answered} (h : r.state.link = s1.link) (kind tag : Byte) :
    s1.answers (r.sent kind tag) kind tag r.code r.answer := by
  simp [State.answers, Answered.sent, h]

/-- What Capture Memory answers, with the bound slot made most recent, leaves every block but these and the link. -/
theorem Answered.sent_only_of_sweep {u : State} (h : Only [.capture, .axes, .notices] s1 u) (x : Context) (c : Code)
    (a : Answer) (kind tag : Byte) : Only [.capture, .axes, .context, .notices, .link] s1
      (Answered.sent ⟨{ u with context := x }, c, a⟩ kind tag) :=
  (only_replied _ _ _ _ _ _ _ (by decide)).2 ((only_with_context _ _ _ _ (by decide)).2 (h.mono (by decide)))

end

/-! ### SWEEP accepted: the state its owner leaves -/

/-- Capture Memory, the axes and the notices as an accepted SWEEP leaves them (R112). -/
def State.sweepBegun (s : State) (st : Station) (first last : Nat) (mode : SweepMode) : State :=
  (s.abandonPaused st).setUpSweep st first last mode

section
variable (s : State) (st : Station) (first last : Nat) (mode : SweepMode)

theorem State.sweep_of_passed {x : SweepParams} (hpass : s.sweepRefusal x.station = none)
    (hwindow : x.window = (first, last)) (hmode : s.sweepMode x.station x.mode = mode) : s.sweep x =
      ⟨(s.sweepBegun x.station first last mode).touchStation x.station,
        if x.first = first ∧ x.last = last ∧ x.mode = mode then .ok else .adjusted,
        .sweep first last mode (s.entryStation x.station)⟩ := by
  simp only [State.sweep, hpass, hwindow, hmode, x.code_eq]
  rfl

theorem State.sweepBegun_only : Only [.capture, .axes, .notices] s (s.sweepBegun st first last mode) :=
  (s.abandonPaused_only st).trans (State.setUpSweep_only ..)

theorem State.abandonPaused_entryStation : (s.abandonPaused st).entryStation st = s.entryStation st := by
  rw [State.entryStation, State.abandonPaused_angle, State.entryStation]

theorem State.sweepBegun_sweepOf : (s.sweepBegun st first last mode).sweepOf st =
    { state := .indexing, rowsDone := 0, cause := none, step := .none
      run := some
        { first := first, last := last, mode := mode, entry := s.entryStation st, angular := s.entryStation st,
          lateral := first, epoch := s.level.epoch, material := (s.cut st).material } } := by
  have hlevel : (s.abandonPaused st).level = s.level := (s.abandonPaused_only st).2 .level (by decide)
  have hstations : (s.abandonPaused st).stations = s.stations := (s.abandonPaused_only st).2 .stations (by decide)
  rw [State.sweepBegun, State.setUpSweep_sweepOf, State.abandonPaused_entryStation, hlevel, State.cut, hstations]
  rfl

theorem State.sweepBegun_sweepOf_other : (s.sweepBegun st first last mode).sweepOf st.other = s.sweepOf st.other :=
  (State.setUpSweep_sweepOf_other ..).trans (s.abandonPaused_sweepOf_other st)

theorem State.sweepBegun_sample (wh : Wheel) (a : Nat) {k : Nat} (hk : k < 160) :
    Area.sample ((s.sweepBegun st first last mode).capture.areas.get wh.ix) a k =
      if wh.station = st ∧ (mode = .fresh ∨ first ≤ k ∧ k ≤ last) then .unset
      else Area.sample (s.capture.areas.get wh.ix) a k := by
  rw [State.sweepBegun, State.setUpSweep_areas, State.abandonPaused_areas, ite_and]
  split
  · exact Area.sample_clearedFor _ first last a mode hk
  · rfl

theorem State.sweepBegun_angle : (s.sweepBegun st first last mode).capture.angle = s.capture.angle :=
  (State.setUpSweep_angle ..).trans (s.abandonPaused_angle st)

theorem State.sweepBegun_request : (s.sweepBegun st first last mode).capture.request =
    if (s.sweepOf st).state = .paused ∧ s.capture.request.get st = .live then s.capture.request.set st .givenUp
    else s.capture.request :=
  (State.setUpSweep_request ..).trans (s.abandonPaused_request st)

theorem State.sweepBegun_notices :
    (s.sweepBegun st first last mode).notices = (s.notify (.capture st)).notices :=
  (State.setUpSweep_notices ..).trans (s.abandonPaused_notify st)

theorem State.sweepBegun_axes : (s.sweepBegun st first last mode).axes =
    { s.axes with
      roller := s.axes.roller.set st (.angle (s.entryStation st * 4500))
      probe := if (s.sweepOf st).state = .paused then s.axes.probe.set st .park else s.axes.probe } := by
  rw [State.sweepBegun, State.setUpSweep_axes, State.abandonPaused_entryStation, State.abandonPaused_axes_driven]

end

/-! ### The obligations -/

/-- Settles O42: the checks one after another, and past them the abandoning of a paused sweep and the setting up of
the new one, block by block. -/
theorem sweepsStartAtTheRollersRow : Obligations.SweepsStartAtTheRollersRow := by
  intro tag payload x s s1 hx hs st p w checks current one two first last entry
  have hexec := exec_sweep_handed hx hs
  have hrefusal : s1.sweepRefusal st = firstOf checks := s1.sweepRefusal_eq st
  refine ⟨fun c hc => exec_of_refuse hexec (State.sweep_of_refused (hrefusal.trans hc)),
    fun mode hpass hmode => ?_⟩
  have hmode : s1.sweepMode st x.mode = mode := by
    refine SweepMode.eq_of_merge_iff ?_
    rw [State.sweepMode_eq_merge_iff, State.captureCurrent_iff]
    exact hmode.symm
  have honly := s1.sweepBegun_only st first last mode
  have hlink : (s1.sweepBegun st first last mode).link = s1.link := honly.2 .link (by decide)
  have hsweep := s1.sweepBegun_sweepOf st first last mode
  have hother := s1.sweepBegun_sweepOf_other st first last mode
  have hsample := s1.sweepBegun_sample st first last mode
  have hangle := s1.sweepBegun_angle st first last mode
  have hrequest := s1.sweepBegun_request st first last mode
  have haxes := s1.sweepBegun_axes st first last mode
  have hnotices := s1.sweepBegun_notices st first last mode
  rw [s1.sweep_of_passed first last mode (hrefusal.trans hpass) x.window_eq hmode,
    State.touchStation_eq _ (honly.2 .context (by decide))] at hexec
  generalize s1.sweepBegun st first last mode = u at *
  exact ⟨_, hexec, Answered.sent_answers hlink _ _, hsweep, hother, fun wh a k hk => hsample wh a hk, hangle, hrequest,
    haxes, rfl, hnotices, Answered.sent_only_of_sweep honly _ _ _ _ _⟩

/-- Settles O43: SWEEP STOP by the state of the sweep, SWEEP CONTINUE by its checks and by whether the capture is
current, and READ PROFILE and the angle report as they stand. -/
theorem sweepsStopContinueAndAreRead : Obligations.SweepsStopContinueAndAreRead := by
  intro st tag payload s s1 w givenUp stopped
  refine ⟨fun hst hs => ?stop, fun hst hs => ?goOn, fun x hx hwheel hs => ?read, fun angle => rfl⟩
  case stop =>
    have hexec := exec_sweepStop_handed hst hs
    refine ⟨fun hmotion => ?pause, fun hpaused => ?abandon,
      fun hended => exec_of_refuse hexec (State.sweepStop_of_ended hended)⟩
    case pause =>
      have hcapture := s1.sweepEnded_testStart_capture st (w.halted .paused (some .host))
      have htold := s1.sweepEnded_testStart_told st (w.halted .paused (some .host))
      have hlink := s1.sweepEnded_testStart_link st (w.halted .paused (some .host))
      have halone := s1.sweepEnded_testStart_of_no_backlog st (w.halted .paused (some .host))
      have honly := s1.sweepEnded_only (st := st) (w.halted .paused (some .host))
      rw [State.sweepStop_of_inMotion ((SweepState.inMotion_iff _).2 hmotion),
        State.touchStation_eq st (s1.sweepEnded_testStart_context st _)] at hexec
      generalize (s1.sweepEnded st (w.halted .paused (some .host))).testStart = u at *
      refine ⟨_, hexec, Answered.sent_answers hlink _ _, hcapture, rfl, htold, fun hbacklog => ?_⟩
      rw [halone hbacklog]
      exact ⟨rfl, Answered.sent_only_of_sweep honly _ _ _ _ _⟩
    case abandon =>
      rw [State.sweepStop_of_paused hpaused, State.touchStation_eq st (s1.sweepEnded_context _)] at hexec
      exact hexec
  case goOn =>
    intro checks
    have hexec := exec_sweepContinue_handed hst hs
    have hrefusal : s1.continueRefusal st = firstOf checks := s1.continueRefusal_eq st
    refine ⟨fun c hc => exec_of_refuse hexec (State.sweepContinue_of_refused (hrefusal.trans hc)),
      fun r hpass hrun => ⟨fun hcurrent => ?current, fun hstale => ?stale⟩⟩
    case current =>
      have hcurrent : s1.captureCurrent st = true := (s1.captureCurrent_iff_of_run hrun).2 hcurrent
      have hcontext : ((s1.beginIndexing st w).notify (.capture st)).context = s1.context := rfl
      rw [State.sweepContinue_of_current (hrefusal.trans hpass) hcurrent, State.touchStation_eq st hcontext,
        State.beginIndexing_eq _ _ _ r hrun] at hexec
      exact hexec
    case stale =>
      have hstale : s1.captureCurrent st = false := by
        rw [← Bool.not_eq_true, s1.captureCurrent_iff_of_run hrun]
        exact hstale
      rw [State.sweepContinue_of_stale (hrefusal.trans hpass) hstale hrun,
        State.touchStation_eq st (s1.setUpSweep_context ..)] at hexec
      exact ⟨_, hexec, Answered.sent_answers (s1.setUpSweep_link st r.first r.last .fresh) _ _,
        s1.setUpSweep_sweepOf .., s1.setUpSweep_sweepOf_other .., s1.setUpSweep_areas st r.first r.last .fresh,
        rfl, rfl, rfl, rfl, Answered.sent_only_of_sweep (s1.setUpSweep_only ..) _ _ _ _ _⟩
  case read =>
    subst hwheel
    have hexec := exec_readProfile_handed hx hs
    rw [State.readProfile_eq, State.touchStation_eq (s1 := s1) _ rfl] at hexec
    exact hexec

end Sys2Proof.Machine
end

section
/-! PROOFS. Chapter 8: MEASURE by its checks and by the run and the SEARCH it leaves, and READ MEASUREMENT by the slot
of its station (R125 to R127, R143, R144). -/

namespace Sys2Proof.Machine

/-! ### The checks of MEASURE (R126) -/

/-- The first check of two lists is the first of the former list, if one applies there. -/
theorem firstOf_append (l m : List (Bool × Code)) : firstOf (l ++ m) = (firstOf l).or (firstOf m) := by
  induction l with
  | nil => rfl
  | cons x l ih =>
    obtain ⟨b, c⟩ := x
    rw [List.cons_append, firstOf_cons, firstOf_cons, ih]
    split <;> rfl

/-- Checks 5 to 7 of MEASURE at one station, each with its reply (R126). -/
def State.captureChecks (s : State) (st : Station) : List (Bool × Code) :=
  [(decide (s.boundSlot st ≠ none ∧ (s.sweepOf st).state ≠ .done), .noCapture),
    (decide (s.boundSlot st ≠ none) && !s.captureCurrent st, .staleCapture),
    ((s.boundSlot st).any fun i =>
      decide (((s.slot i).working.map fun r => (s.profile r.profileId).state) ≠ some .complete),
      .profileIncomplete)]

/-- The checks of MEASURE in their order, each with its reply (R126). -/
def State.measureChecks (s : State) : List (Bool × Code) :=
  [(decide (s.engine.run ≠ none), .busy),
    (decide (s.setup.pit = none ∨ s.setup.cut = none), .notConfigured),
    (decide (s.lift.state ≠ .raised), .wrongState),
    (decide (s.boundSlot .a = none ∧ s.boundSlot .b = none), .wrongState)] ++
    s.captureChecks .a ++ s.captureChecks .b ++ [(decide (6 < s.store.fifo.length + 1), .busy)]

section
variable (s : State)

theorem State.captureRefusal_eq (st : Station) : s.captureRefusal st = firstOf (s.captureChecks st) := by
  cases hbound : s.boundSlot st with
  | none => simp [State.captureRefusal, State.captureChecks, hbound]
  | some i =>
    simp only [State.captureRefusal, State.captureChecks, hbound, firstOf_cons, firstOf_nil, ne_eq, reduceCtorEq,
      not_false_eq_true, true_and, decide_true, Bool.true_and, decide_eq_true_eq, Option.any_some]
    rfl

/-- The store refuses a seventh request of the host (R8). -/
theorem Store.room_one_iff (st : Store) : st.room 1 = true ↔ ¬6 < st.fifo.length + 1 := by
  rw [Store.room, decide_eq_true_eq, not_lt]
  rfl

theorem State.measureRefusal_eq : s.measureRefusal = firstOf s.measureChecks := by
  simp only [State.measureRefusal, State.measureChecks, State.captureRefusal_eq, List.append_assoc,
    List.cons_append, List.nil_append, firstOf_cons, firstOf_append, firstOf_nil, decide_eq_true_eq,
    State.not_configured_iff, Bool.and_eq_true, Option.isNone_iff_eq_none, Option.isSome_iff_ne_none,
    Store.room_one_iff, ite_not]
  cases firstOf (s.captureChecks .a) <;> cases firstOf (s.captureChecks .b) <;> rfl

end

/-! ### A SEARCH joins the FIFO (R7, R19) -/

/-- A SEARCH changes the store alone as it joins: at the head of a served FIFO no WRITE stands before it. -/
theorem State.enqueue_search_eq {s : State} (hserved : s.store.fifoServed) (units bound : List Nat) :
    s.enqueue (.search units bound) = { s with store := (s.enqueue (.search units bound)).store } := by
  cases hat : s.store.servesAtOnce with
  | false => rw [State.enqueue_of_not_servesAtOnce _ hat]
  | true =>
    have hwaiting := hserved.waiting_eq_nil hat
    simp only [Store.servesAtOnce, Bool.and_eq_true, Option.isNone_iff_eq_none] at hat
    simp [State.enqueue, State.serve, hat, hwaiting]

/-! ### The run a MEASURE begins (R125, R127) -/

/-- The run entries of the bound stations, in the order of the stations. -/
def State.runEntries (s : State) : List RunEntry := [Station.a, .b].filterMap s.runEntry

/-- The SEARCH of a run: the distinct units of its entries, and their serials (R127). -/
def State.runSearch (s : State) : Request :=
  .search (s.runEntries.map fun x => x.unit).dedup (s.runEntries.map fun x => x.serial)

/-- The state with the next run numbered and in progress, before its SEARCH is queued. -/
def State.runBegun (s : State) : State :=
  { s with
    engine :=
      { s.engine with
        runNumber := nextRun s.engine.runNumber
        run := some { number := nextRun s.engine.runNumber, entries := s.runEntries, departed := false }
        delivered := ⟨false, false⟩ } }

section
variable {s s1 : State} {c : Code} {tag : Byte} {payload : List Byte} {st : Station}

theorem State.measure_of_refused (h : s.measureRefusal = some c) : s.measure = s.refuse c := by
  simp only [State.measure, h]

theorem State.measure_of_passed (h : s.measureRefusal = none) : s.measure =
    ⟨(s.runBegun.enqueue s.runSearch).notify .measure, .ok, .measure (nextRun s.engine.runNumber)
      ⟨decide (s.boundSlot .a ≠ none), decide (s.boundSlot .b ≠ none)⟩⟩ := by
  have hbound (st : Station) : (s.boundSlot st).isSome = decide (s.boundSlot st ≠ none) := by
    cases s.boundSlot st <;> rfl
  simp only [State.measure, h, hbound]
  rfl

theorem State.runBegun_enqueue_eq (hserved : s.store.fifoServed) : s.runBegun.enqueue s.runSearch =
    { s.runBegun with store := (s.runBegun.enqueue s.runSearch).store } :=
  State.enqueue_search_eq (s := s.runBegun) hserved _ _

/-- The run and its SEARCH change the engine and the store alone, and MEASURE tells of them. -/
theorem State.measured_eq (hserved : s.store.fifoServed) : (s.runBegun.enqueue s.runSearch).notify .measure =
    { s with
      engine := s.runBegun.engine
      store := (s.runBegun.enqueue s.runSearch).store
      notices := (s.notify .measure).notices } := by
  rw [State.runBegun_enqueue_eq hserved]
  rfl

theorem State.measured_only (hserved : s.store.fifoServed) :
    Only [.engine, .store, .notices] s ((s.runBegun.enqueue s.runSearch).notify .measure) := by
  have hengine : Only [.engine, .store, .notices] s s.runBegun := (only_with_engine _ _ _ _ (by decide)).2 (.refl _ s)
  rw [State.runBegun_enqueue_eq hserved]
  exact (only_notify _ _ _ _ (by decide)).2 ((only_with_store _ _ _ _ (by decide)).2 hengine)

theorem State.readMeasurement_of_unbound (h : s.boundSlot st = none) :
    s.readMeasurement st = s.refuse .wrongState := by
  simp only [State.readMeasurement, h]

theorem State.readMeasurement_of_none {i : Ix} (h : s.boundSlot st = some i) (hm : (s.slot i).measurement = none) :
    s.readMeasurement st = s.refuse .noMeasurement := by
  simp only [State.readMeasurement, h, hm]

theorem State.measurementCurrent_eq (s : State) (st : Station) (m : Measurement) : s.measurementCurrent st m =
    decide (m.stale = false ∧ m.epoch = s.level.epoch ∧ m.material = (s.cut st).material) := by
  cases hm : m.stale <;> simp [State.measurementCurrent, hm]

theorem State.readMeasurement_of_some {i : Ix} {m : Measurement} (h : s.boundSlot st = some i)
    (hm : (s.slot i).measurement = some m) : s.readMeasurement st =
    ⟨s.touchSlot i, .ok, .measurement m (s.slot i).serial
      (decide (m.stale = false ∧ m.epoch = s.level.epoch ∧ m.material = (s.cut st).material))
      (s.engine.run.map fun r => r.number)⟩ := by
  simp only [State.readMeasurement, h, hm, State.measurementCurrent_eq]

theorem exec_measure_handed (hs : s.handed 0x50 tag [] = some s1) :
    exec (.measure tag []) s = .next (s1.measure.sent 0x50 tag) := State.plainCommand_next (x := ()) rfl hs

theorem exec_readMeasurement_handed (hp : stationParam payload = .ok st) (hs : s.handed 0x51 tag payload = some s1) :
    exec (.readMeasurement tag payload) s = .next ((s1.readMeasurement st).sent 0x51 tag) :=
  State.plainCommand_next hp hs

end

/-! ### The obligation -/

/-- Settles O45: MEASURE by its checks and, past them, by the run it numbers and the SEARCH that joins the FIFO; READ
MEASUREMENT by the slot bound to its station. -/
theorem measuringStartsWithASearch : Obligations.MeasuringStartsWithASearch := by
  refine ⟨fun tag s s1 hs => ?measure, fun tag payload st s s1 hst hs => ?read⟩
  case measure =>
    intro captured checks number entries
    have hexec := exec_measure_handed hs
    have hrefusal : s1.measureRefusal = firstOf checks := s1.measureRefusal_eq
    refine ⟨fun c hc => exec_of_refuse hexec (State.measure_of_refused (hrefusal.trans hc)),
      fun hpass hserved => ?_⟩
    have honly := State.measured_only hserved
    have hfifo := State.enqueue_fifo s1.runBegun s1.runSearch
    have hwindow := State.enqueue_window (s := s1.runBegun) s1.runSearch
    have hstill := State.enqueue_fifoServed (s := s1.runBegun) s1.runSearch
    have hservice (r : Service) := State.enqueue_service (s := s1.runBegun) s1.runSearch (x := r)
    obtain ⟨hplaces, htable, hscanned, hresults, hlost⟩ := State.enqueue_sameRecords (s := s1.runBegun) s1.runSearch
    rw [State.measured_eq hserved] at honly
    rw [State.measure_of_passed (hrefusal.trans hpass), State.measured_eq hserved] at hexec
    generalize (s1.runBegun.enqueue s1.runSearch).store = u at *
    exact ⟨_, hexec, Answered.sent_answers rfl _ _, rfl, hfifo, hplaces, htable, hwindow, hresults, hlost,
      hscanned, hstill, hservice, rfl, (only_replied _ _ _ _ _ _ _ (by decide)).2 (honly.mono (by decide))⟩
  case read =>
    have hexec := exec_readMeasurement_handed hst hs
    refine ⟨fun hnone => exec_of_refuse hexec (State.readMeasurement_of_unbound hnone),
      fun i hi => ⟨fun hm => exec_of_refuse hexec (State.readMeasurement_of_none hi hm), fun m hm => ?_⟩⟩
    rw [hexec, State.readMeasurement_of_some hi hm]
    rfl

end Sys2Proof.Machine
end

section
/-! PROOFS. Chapter 8, stages 1 and 2 of the measurement: the usable rows of a wheel, the flange tip of a row, the
walk down its flank, and the values a wheel takes from its usable rows (R130 to R133). -/

namespace Sys2Proof.Machine

/-! ### The rows a wheel is gauged from (R130) -/

@[simp] theorem rowValue_nil (k : Nat) : rowValue [] k = none := rfl
@[simp] theorem rowValue_cons_zero (x : Sample) (row : List Sample) : rowValue (x :: row) 0 = x.value := rfl
@[simp] theorem rowValue_cons_succ (x : Sample) (row : List Sample) (k : Nat) :
    rowValue (x :: row) (k + 1) = rowValue row k := rfl

theorem Profile.mem_zone_iff (p : Profile) (k : Nat) : k ∈ p.zone ↔ p.zoneFirst ≤ k ∧ k ≤ p.zoneLast := by
  rw [Profile.zone, List.mem_range'_1]
  omega

theorem Profile.usable_iff (p : Profile) (row : List Sample) : p.usable row = true ↔
    (∃ v, rowValue row p.measuring = some v) ∧ (p.zone.countP fun k => rowValue row k = none) ≤ 4 := by
  have hcount : (p.zone.countP fun k => (rowValue row k).isNone) = p.zone.countP fun k => rowValue row k = none :=
    List.countP_congr fun k _ => by simp
  rw [Profile.usable, hcount, Bool.and_eq_true, Option.isSome_iff_exists, decide_eq_true_eq]

theorem Profile.treadValue_eq {p : Profile} {row : List Sample} {x : Int} (h : rowValue row p.measuring = some x) :
    p.treadValue row = x := by
  rw [Profile.treadValue, h, Option.getD_some]

/-! ### The flange tip (R132) -/

/-- The tip of a row: its largest radius, at the lowest of the stations that hold it. -/
def IsTip (row : List Sample) (i : Nat) (v : Int) : Prop :=
  rowValue row i = some v ∧ (∀ k w, rowValue row k = some w → w ≤ v) ∧ ∀ k, k < i → rowValue row k ≠ some v

theorem IsTip.unique {row : List Sample} {i j : Nat} {v w : Int} (h : IsTip row i v) (k : IsTip row j w) :
    i = j ∧ v = w := by
  obtain ⟨hat, hmax, hlow⟩ := h
  obtain ⟨kat, kmax, klow⟩ := k
  obtain rfl : v = w := le_antisymm (kmax i v hat) (hmax j w kat)
  exact ⟨le_antisymm (not_lt.1 fun hlt => hlow j hlt kat) (not_lt.1 fun hlt => klow i hlt hat), rfl⟩

section
variable {x : Sample} {rest : List Sample} {i : Nat} {v : Int}

theorem IsTip.cons_zero (hx : x.value = some v) (h : ∀ k w, rowValue rest k = some w → w ≤ v) :
    IsTip (x :: rest) 0 v := by
  refine ⟨hx, fun k w hk => ?_, fun k hk => absurd hk (Nat.not_lt_zero k)⟩
  cases k with
  | zero => exact (Option.some.inj (hk.symm.trans hx)).le
  | succ k => exact h k w hk

/-- A tip of the rest is the tip of the row when it stands above the first sample. -/
theorem IsTip.cons_succ (hx : ∀ w, x.value = some w → w < v) (h : IsTip rest i v) : IsTip (x :: rest) (i + 1) v := by
  obtain ⟨hat, hmax, hlow⟩ := h
  refine ⟨hat, fun k w hk => ?largest, fun k hk => ?lowest⟩
  case largest =>
    cases k with
    | zero => exact (hx w hk).le
    | succ k => exact hmax k w hk
  case lowest =>
    cases k with
    | zero => exact fun hv => lt_irrefl v (hx v hv)
    | succ k => exact hlow k (Nat.lt_of_succ_lt_succ hk)

end

theorem rowValue_of_flangeTip_eq_none {k : Nat} {row : List Sample} (h : flangeTip k row = none) (i : Nat) :
    rowValue row i = none := by
  induction row generalizing k i with
  | nil => rfl
  | cons x rest ih =>
    rw [flangeTip] at h
    split at h
    · split at h <;> cases h
    · cases h
    · next hx =>
      cases i with
      | zero => exact hx
      | succ i => exact ih h i

/-- The search from the far end keeps the nearer of two equal samples, so that it ends at the tip. -/
theorem isTip_of_flangeTip {k j : Nat} {v : Int} {row : List Sample} (h : flangeTip k row = some (j, v)) :
    ∃ i, j = k + i ∧ IsTip row i v := by
  induction row generalizing k j v with
  | nil => cases h
  | cons x rest ih =>
    rw [flangeTip] at h
    split at h
    · next u m w hx hrest =>
      obtain ⟨i, hm, htip⟩ := ih hrest
      split at h
      · next hle =>
        obtain ⟨rfl, rfl⟩ := Prod.mk.inj (Option.some.inj h)
        exact ⟨0, rfl, .cons_zero hx fun n y hy => (htip.2.1 n y hy).trans hle⟩
      · next hlt =>
        obtain ⟨rfl, rfl⟩ := Prod.mk.inj (Option.some.inj h)
        exact ⟨i + 1, by omega, .cons_succ (fun y hy => by
          obtain rfl : u = y := Option.some.inj (hx.symm.trans hy)
          exact not_le.1 hlt) htip⟩
    · next u hx hrest =>
      obtain ⟨rfl, rfl⟩ := Prod.mk.inj (Option.some.inj h)
      exact ⟨0, rfl, .cons_zero hx fun n y hy => by simp [rowValue_of_flangeTip_eq_none hrest n] at hy⟩
    · next hx =>
      obtain ⟨i, hj, htip⟩ := ih h
      exact ⟨i + 1, by omega, .cons_succ (fun y hy => by simp [hx] at hy) htip⟩

theorem flangeTip_eq_some_iff (row : List Sample) (i : Nat) (v : Int) :
    flangeTip 0 row = some (i, v) ↔ IsTip row i v := by
  have htip {j : Nat} {w : Int} (h : flangeTip 0 row = some (j, w)) : IsTip row j w := by
    obtain ⟨n, rfl, hn⟩ := isTip_of_flangeTip h
    rwa [Nat.zero_add]
  refine ⟨htip, fun h => ?_⟩
  cases hrow : flangeTip 0 row with
  | none => exact absurd h.1 (by simp [rowValue_of_flangeTip_eq_none hrow i])
  | some t =>
    obtain ⟨hi, hv⟩ := (htip hrow).unique h
    rw [← hi, ← hv]

/-! ### The walk down the flank (R133) -/

section
variable {level : Int} {i m : Nat} {v w : Int} {row : List Sample}

/-- The samples from a station that holds a radius on. -/
theorem drop_eq_cons_of_rowValue (h : rowValue row m = some w) :
    ∃ x : Sample, x.value = some w ∧ row.drop m = x :: row.drop (m + 1) := by
  obtain ⟨x, hx, hw⟩ := Option.bind_eq_some_iff.1 h
  obtain ⟨hm, rfl⟩ := List.getElem?_eq_some_iff.1 hx
  exact ⟨_, hw, List.drop_eq_getElem_cons hm⟩

/-- The walk finds no radius where it arrives, or the row has ended. -/
theorem flankWalk_of_none (h : rowValue row m = none) : flankWalk level i v (row.drop m) = none := by
  cases hrow : row.drop m with
  | nil => rfl
  | cons x rest =>
    have hx : row[m]? = some x := by rw [← List.head?_drop, hrow, List.head?_cons]
    have hvalue : x.value = none := by simpa [rowValue, hx] using h
    simp only [flankWalk, hvalue]

/-- The walk goes on past a sample that is not below the level. -/
theorem flankWalk_of_le (h : rowValue row m = some w) (hle : level ≤ w) :
    flankWalk level i v (row.drop m) = flankWalk level (i + 1) w (row.drop (m + 1)) := by
  obtain ⟨x, hx, hrow⟩ := drop_eq_cons_of_rowValue h
  simp only [hrow, flankWalk, hx, if_pos hle]

/-- The walk ends at the first sample below the level, and the thickness lies between the two samples. -/
theorem flankWalk_of_lt (h : rowValue row m = some w) (hlt : w < level) :
    flankWalk level i v (row.drop m) = some ((i : Int) * 1000 + (v - level) * 1000 / (v - w)) := by
  obtain ⟨x, hx, hrow⟩ := drop_eq_cons_of_rowValue h
  simp only [hrow, flankWalk, hx, if_neg (not_le.2 hlt)]

/-- Over a stretch of samples none of which is below the level, the walk comes to the last of them. -/
theorem flankWalk_stretch {n : Nat} (hin : i ≤ n) (hi : rowValue row i = some v) (hn : rowValue row n = some w)
    (h : ∀ k, i ≤ k → k ≤ n → ∃ x, rowValue row k = some x ∧ level ≤ x) :
    flankWalk level i v (row.drop (i + 1)) = flankWalk level n w (row.drop (n + 1)) := by
  induction n, hin using Nat.le_induction generalizing w with
  | base => rw [Option.some.inj (hi.symm.trans hn)]
  | succ n hin ih =>
    obtain ⟨u, hu, _⟩ := h n hin (Nat.le_succ n)
    obtain ⟨x, hx, hle⟩ := h (n + 1) (Nat.le_succ_of_le hin) le_rfl
    obtain rfl : x = w := Option.some.inj (hx.symm.trans hn)
    rw [ih hu fun k hk hkn => h k hk (Nat.le_succ_of_le hkn), flankWalk_of_le hn hle]

end

section
variable {p : Profile} {h : Int} {row : List Sample} {i : Nat} {v : Int}

theorem Profile.rowHeight_of_tip (ht : flangeTip 0 row = some (i, v)) :
    p.rowHeight row = v - p.treadValue row := by
  simp only [Profile.rowHeight, ht]

theorem Profile.rowThickness_of_tip (ht : flangeTip 0 row = some (i, v)) : p.rowThickness h row =
    if v < p.treadValue row + h then none
    else flankWalk (p.treadValue row + h) i v (row.drop (i + 1)) := by
  simp only [Profile.rowThickness, ht]

/-- The thickness turns on where the walk stands after a stretch of samples that are not below the level. -/
theorem Profile.rowThickness_of_stretch (ht : flangeTip 0 row = some (i, v)) {n : Nat} {w : Int} (hin : i ≤ n)
    (hn : rowValue row n = some w)
    (hrow : ∀ k, i ≤ k → k ≤ n → ∃ x, rowValue row k = some x ∧ p.treadValue row + h ≤ x) :
    p.rowThickness h row = flankWalk (p.treadValue row + h) n w (row.drop (n + 1)) := by
  have hi : rowValue row i = some v := ((flangeTip_eq_some_iff row i v).1 ht).1
  obtain ⟨x, hx, hle⟩ := hrow i le_rfl hin
  obtain rfl : x = v := Option.some.inj (hx.symm.trans hi)
  rw [Profile.rowThickness_of_tip ht, if_neg (not_lt.2 hle), flankWalk_stretch hin hi hn hrow]

end

/-! ### The largest and the smallest of a list -/

section
variable {l : List Int}

theorem max?_eq_largest (h : l ≠ []) : l.max? = some (largest l) := by
  obtain ⟨m, hm⟩ := Option.ne_none_iff_exists'.1 (mt List.max?_eq_none_iff.1 h)
  rw [largest, hm, Option.getD_some]

theorem min?_eq_smallest (h : l ≠ []) : l.min? = some (smallest l) := by
  obtain ⟨m, hm⟩ := Option.ne_none_iff_exists'.1 (mt List.min?_eq_none_iff.1 h)
  rw [smallest, hm, Option.getD_some]

theorem largest_mem (h : l ≠ []) : largest l ∈ l := List.max?_mem (max?_eq_largest h)

theorem le_largest {x : Int} (hx : x ∈ l) : x ≤ largest l :=
  (List.max?_eq_some_iff.1 (max?_eq_largest (List.ne_nil_of_mem hx))).2 x hx

theorem smallest_mem (h : l ≠ []) : smallest l ∈ l := List.min?_mem (min?_eq_smallest h)

theorem smallest_le {x : Int} (hx : x ∈ l) : smallest l ≤ x :=
  (List.min?_eq_some_iff.1 (min?_eq_smallest (List.ne_nil_of_mem hx))).2 x hx

end

/-! ### The values of a wheel (R131 to R133) -/

theorem floorMean_map {α : Type} (f : α → Int) (l : List α) : floorMean (l.map f) = (l.map f).sum / l.length := by
  rw [floorMean, List.length_map]

/-- The runout is the widest difference of two tread values. -/
theorem Profile.wheelValues_runout (p : Profile) (h : Int) {rows : List (List Sample)} (hrows : rows ≠ []) :
    ∃ runout, (p.wheelValues h rows).runout = some runout ∧
    (∀ x ∈ rows, ∀ y ∈ rows, p.treadValue x - p.treadValue y ≤ runout) ∧
    ∃ x ∈ rows, ∃ y ∈ rows, p.treadValue x - p.treadValue y = runout := by
  have htread : rows.map p.treadValue ≠ [] := mt List.map_eq_nil_iff.1 hrows
  refine ⟨_, rfl, fun x hx y hy => ?_, ?_⟩
  · exact sub_le_sub (le_largest (List.mem_map_of_mem hx)) (smallest_le (List.mem_map_of_mem hy))
  · obtain ⟨x, hx, hlarge⟩ := List.mem_map.1 (largest_mem htread)
    obtain ⟨y, hy, hsmall⟩ := List.mem_map.1 (smallest_mem htread)
    exact ⟨x, hx, y, hy, congrArg₂ _ hlarge hsmall⟩

/-! ### The obligation -/

/-- Settles O46: the tip by the search along the row, the thickness by the walk from the tip, and the means and the
runout of a wheel over its usable rows. -/
theorem wheelsAreGaugedFromUsableRows : Obligations.WheelsAreGaugedFromUsableRows := by
  refine ⟨fun p row k => ⟨p.mem_zone_iff k, p.usable_iff row⟩, flangeTip_eq_some_iff,
    fun p h row i v ht => ?walk, fun p h rows hrows => ?wheel⟩
  case walk =>
    intro level
    refine ⟨fun x => Profile.treadValue_eq, Profile.rowHeight_of_tip ht,
      fun hlow => (Profile.rowThickness_of_tip ht).trans (if_pos hlow), fun n hin hrow => ⟨fun hnone => ?_, ?_⟩⟩
    · obtain ⟨w, hw, _⟩ := hrow n hin le_rfl
      rw [Profile.rowThickness_of_stretch ht hin hw hrow, flankWalk_of_none hnone]
    · intro w x hw hx hlt
      rw [Profile.rowThickness_of_stretch ht hin hw hrow, flankWalk_of_lt hx hlt]
  case wheel =>
    intro values thick
    refine ⟨congrArg some (floorMean_map _ _), congrArg some (floorMean_map _ _),
      fun hnone => if_pos (List.isEmpty_iff.2 hnone), fun hsome => if_neg (mt List.isEmpty_iff.1 hsome),
      p.wheelValues_runout h hrows⟩

end Sys2Proof.Machine
end

section
/-! PROOFS. Chapter 8, stages 1 and 3 to 9 of the measurement: the samples of the zone, fit radius and removal, the
siblings of a unit and its cap, the bogie band and the verdict (R130, R133 to R140). -/

namespace Sys2Proof.Machine

/-! ### Fit radius and removal (R134, R140) -/

theorem roundDown10_emod (x : Int) : roundDown10 x % 10 = 0 := Int.mul_emod_left _ _

theorem roundDown10_le (x : Int) : roundDown10 x ≤ x := Int.ediv_mul_le x (by decide)

theorem lt_roundDown10_add (x : Int) : x < roundDown10 x + 10 := by
  unfold roundDown10
  omega

theorem Profile.mem_zoneTerms_iff (p : Profile) (rows : List (List Sample)) (x : Int) : x ∈ p.zoneTerms rows ↔
    ∃ row ∈ rows, ∃ k ∈ p.zone, ∃ v ∈ rowValue row k, x = v - p.offset k := by
  simp only [Profile.zoneTerms, List.mem_flatMap, List.mem_filterMap, Option.map_eq_some_iff, Option.mem_def,
    eq_comm (a := x)]

section
variable {p : Profile} {rows : List (List Sample)} {x : Int}

theorem Profile.fitRadius_le (c : Int) (hx : x ∈ p.zoneTerms rows) : p.fitRadius c rows ≤ x - c :=
  (roundDown10_le _).trans (smallest_le (List.mem_map_of_mem hx))

/-- The fit radius falls short of the smallest term by less than its rounding. -/
theorem Profile.exists_lt_fitRadius_add (c : Int) (h : p.zoneTerms rows ≠ []) :
    ∃ x ∈ p.zoneTerms rows, x - c < p.fitRadius c rows + 10 := by
  obtain ⟨x, hx, hsmall⟩ := List.mem_map.1 (smallest_mem (mt (List.map_eq_nil_iff (f := fun x => x - c)).1 h))
  exact ⟨x, hx, hsmall.trans_lt (lt_roundDown10_add _)⟩

theorem Profile.le_removal (target : Int) (hx : x ∈ p.zoneTerms rows) : x - target ≤ p.removal target rows :=
  le_largest (List.mem_map_of_mem hx)

theorem Profile.exists_eq_removal (target : Int) (h : p.zoneTerms rows ≠ []) :
    ∃ x ∈ p.zoneTerms rows, x - target = p.removal target rows :=
  List.mem_map.1 (largest_mem (mt List.map_eq_nil_iff.1 h))

end

/-! ### The two wheels of a wheelset -/

theorem Side.exists_iff (P : Side → Prop) : (∃ side, P side) ↔ P .l ∨ P .r :=
  ⟨fun ⟨side, h⟩ => match side with
    | .l => .inl h
    | .r => .inr h,
   fun h => h.elim (⟨.l, ·⟩) (⟨.r, ·⟩)⟩

/-! ### The siblings of a unit, and its cap (R136) -/

/-- The sibling values of a unit, in the order of their items. -/
def siblingValues (items : List SiblingItem) (unit : Nat) : List Int :=
  (items.filter fun x => x.unit = unit).map SiblingItem.value

section
variable (items : List SiblingItem) (unit : Nat)

theorem siblingsOf_count : (siblingsOf items unit).count = items.countP fun x => x.unit = unit :=
  (List.length_map _).trans List.countP_eq_length_filter.symm

theorem mem_siblingValues_iff (v : Int) : v ∈ siblingValues items unit ↔
    ∃ x ∈ items, x.unit = unit ∧ min x.lastL x.lastR = v := by
  simp [siblingValues, SiblingItem.value, and_assoc]

theorem siblingValues_eq_nil_iff : siblingValues items unit = [] ↔ ∀ x ∈ items, x.unit ≠ unit := by
  simp [siblingValues]

theorem siblingsOf_range_eq_some_iff (lo hi : Int) : (siblingsOf items unit).range = some (lo, hi) ↔
    (siblingValues items unit).min? = some lo ∧ (siblingValues items unit).max? = some hi := by
  simp [siblingsOf, siblingValues, Option.bind_eq_some_iff]

theorem siblingsOf_range_eq_none_iff : (siblingsOf items unit).range = none ↔ siblingValues items unit = [] := by
  constructor
  · intro hnone
    by_contra hvalues
    have hrange := (siblingsOf_range_eq_some_iff items unit _ _).2 ⟨min?_eq_smallest hvalues, max?_eq_largest hvalues⟩
    exact Option.some_ne_none _ (hrange.symm.trans hnone)
  · intro hvalues
    refine Option.eq_none_iff_forall_ne_some.2 fun (lo, hi) hsome => ?_
    obtain ⟨hlo, _⟩ := (siblingsOf_range_eq_some_iff items unit lo hi).1 hsome
    rw [hvalues] at hlo
    cases hlo

/-- The range of a unit bounds its sibling values and is reached at both ends. -/
theorem siblingsOf_range_bounds {lo hi : Int} (h : (siblingsOf items unit).range = some (lo, hi)) :
    (∀ x ∈ items, x.unit = unit → lo ≤ min x.lastL x.lastR ∧ min x.lastL x.lastR ≤ hi) ∧
      (∃ x ∈ items, x.unit = unit ∧ min x.lastL x.lastR = lo) ∧
      ∃ x ∈ items, x.unit = unit ∧ min x.lastL x.lastR = hi := by
  obtain ⟨hmin, hmax⟩ := (siblingsOf_range_eq_some_iff items unit lo hi).1 h
  obtain ⟨hlo, hleast⟩ := List.min?_eq_some_iff.1 hmin
  obtain ⟨hhi, hmost⟩ := List.max?_eq_some_iff.1 hmax
  refine ⟨fun x hx hunit => ?_, (mem_siblingValues_iff items unit lo).1 hlo,
    (mem_siblingValues_iff items unit hi).1 hhi⟩
  have hv := (mem_siblingValues_iff items unit _).2 ⟨x, hx, hunit, rfl⟩
  exact ⟨hleast _ hv, hmost _ hv⟩

end

theorem unitCap_of_range (target condemning band : Int) (n : Nat) (lo hi : Int) :
    unitCap target condemning band ⟨n, some (lo, hi)⟩ =
      if target ≤ (lo + band) / 10 * 10 then (target, false)
      else if condemning ≤ (lo + band) / 10 * 10 then ((lo + band) / 10 * 10, false) else (target, true) := by
  rcases le_or_gt target ((lo + band) / 10 * 10) with hcap | hcap
  · exact (if_neg (not_lt.2 hcap)).trans (if_pos hcap).symm
  · exact (if_pos hcap).trans (if_neg (not_le.2 hcap)).symm

/-! ### Bogie band and verdict (R137, R139) -/

section
variable {band one two : Int}

/-- The lower of the two targets stays. -/
theorem bogieTarget_of_le (h : one ≤ two) : bogieTarget band one (some two) = one :=
  if_neg fun hlower => absurd hlower.1 (not_lt.2 h)

/-- A target more than the band above the other is brought down to the band (R137). -/
theorem bogieTarget_eq (hband : 0 ≤ band) : bogieTarget band two (some one) =
    if band < two - one then one + band else two :=
  if_congr (and_iff_right_of_imp fun h => by omega) rfl rfl

/-- After the band the targets differ by no more than the band, whichever was the higher. -/
theorem bogieTarget_sub_le (hband : 0 ≤ band) :
    bogieTarget band one (some two) - bogieTarget band two (some one) ≤ band := by
  rw [bogieTarget_eq hband, bogieTarget_eq hband]
  split <;> split <;> omega

end

/-- A wheel is outside the limits of the CUT table: flange too high, flange too thin, or runout too large (R139). -/
abbrev WheelValues.beyond (cut : CutTable) (v : WheelValues) : Prop :=
  cut.flangeHeightLimit < v.flangeHeight.getD 0 ∨ v.flangeThickness.getD 0 < cut.flangeThicknessMin ∨
    cut.runoutLimit < v.runout.getD 0

theorem verdictOf_eq (cut : CutTable) (condemning fitTarget target : Int) (values : Pair WheelValues) :
    verdictOf cut condemning fitTarget target values =
      if target < condemning ∧ fitTarget < condemning then .condemned
      else if target < condemning then .bogieLimit
      else if values.l.beyond cut ∨ values.r.beyond cut then .reprofile else .withinLimits := by
  simp only [verdictOf, Bool.or_eq_true, decide_eq_true_eq, or_assoc]
  by_cases htarget : target < condemning
  · simp only [htarget, true_and, if_true]
  · simp only [htarget, false_and, if_false]

/-! ### The obligation -/

/-- Settles O47, a stage at a time: the terms of the zone bound the fit radius and the removal, the rows and the
thicknesses decide how far a wheelset comes, and the lowest sibling and the other target bring its target down. -/
theorem targetsAreSettledInStages : Obligations.TargetsAreSettledInStages := by
  refine ⟨Profile.mem_zoneTerms_iff, fun p rows c hterms => ?fit, fun cut p r areas items => ?gauged,
    fun items unit => ?siblings, fun target condemning band n => ⟨rfl, fun lo hi => unitCap_of_range ..⟩,
    fun band one two hband => ?bogie, fun w cut other base => ?measured⟩
  case fit =>
    exact ⟨roundDown10_emod _, fun x => Profile.fitRadius_le c, Profile.exists_lt_fitRadius_add c hterms,
      fun target => ⟨fun x => Profile.le_removal target, Profile.exists_eq_removal target hterms⟩⟩
  case gauged =>
    intro rows values few thin usable fit sib capped
    have hfew_iff : few ↔ (rows .l).length < 6 ∨ (rows .r).length < 6 := Side.exists_iff _
    have hthin_iff : thin ↔ (values .l).flangeThickness.isNone ∨ (values .r).flangeThickness.isNone := by
      simp only [thin, Side.exists_iff, Option.isNone_iff_eq_none]
    exact ⟨fun hfew => if_pos (hfew_iff.1 hfew),
      fun hfew hthin => (if_neg (mt hfew_iff.2 hfew)).trans (if_pos (hthin_iff.1 hthin)),
      fun hfew hthin => (if_neg (mt hfew_iff.2 hfew)).trans (if_neg (mt hthin_iff.2 hthin))⟩
  case siblings =>
    exact ⟨siblingsOf_count items unit,
      (siblingsOf_range_eq_none_iff items unit).trans (siblingValues_eq_nil_iff items unit),
      fun lo hi => siblingsOf_range_bounds items unit⟩
  case bogie =>
    exact ⟨rfl, fun hle => ⟨bogieTarget_of_le hle, bogieTarget_eq hband⟩, bogieTarget_sub_le hband,
      bogieTarget_sub_le hband⟩
  case measured =>
    intro target fitTarget beyond verdict spread
    have hother : other.isNone = decide (other = none) := by cases other <;> rfl
    obtain ⟨_, _, _, _, _, ⟨_, range⟩, _, _⟩ := w
    cases range <;> simp only [Wheelset.measurement, verdictOf_eq, hother] <;> rfl

end Sys2Proof.Machine
end

section
/-! PROOFS. Chapter 9: the depths of a plan, its pass radii and its revolutions, and PLAN AUTO and PLAN PASSES by the
checks they share (R149 to R153). -/

namespace Sys2Proof.Machine

/-! ### Division rounded up (R150, R151) -/

/-- The quotient rounded up is the one count of parts of size `d` that reaches `n` with its last part and not before. -/
theorem ceilDiv_eq_iff {d : Int} (hd : 0 < d) (n k : Int) : ceilDiv n d = k ↔ (k - 1) * d < n ∧ n ≤ k * d := by
  have hle : -k ≤ -n / d ↔ -k * d ≤ -n := Int.le_ediv_iff_mul_le hd
  have hlt : -n / d < -k + 1 ↔ -n < (-k + 1) * d := Int.ediv_lt_iff_lt_mul hd
  rw [neg_mul] at hle
  rw [add_mul, neg_mul, one_mul] at hlt
  rw [ceilDiv, sub_mul, one_mul]
  omega

/-- The revolutions of a pass are the zone width over the feed, rounded up (R151). -/
theorem passRevolutions_bounds {first last : Nat} {feed : Int} (hfeed : 0 < feed) (hzone : first ≤ last) :
    let width : Int := ((last + 1 - first) * 1000 : Nat)
    width ≤ (passRevolutions first last feed : Int) * feed ∧
      ((passRevolutions first last feed : Int) - 1) * feed < width := by
  intro width
  obtain ⟨hbelow, habove⟩ := (ceilDiv_eq_iff hfeed width _).1 rfl
  have hwidth : 0 < width := by simp only [width]; omega
  have hpos : 0 < ceilDiv width feed := pos_of_mul_pos_left (hwidth.trans_le habove) hfeed.le
  have hturns : (passRevolutions first last feed : Int) = ceilDiv width feed := Int.toNat_of_nonneg hpos.le
  rw [hturns]
  exact ⟨habove, hbelow⟩

/-! ### The passes of a list of depths (R151) -/

theorem passesFrom_depths (radius : Int) (depths : List Int) :
    (passesFrom radius depths).map (fun p => p.depth) = depths := by
  induction depths generalizing radius with
  | nil => rfl
  | cons d rest ih => rw [passesFrom, List.map_cons, ih]

/-- Each pass stands below the start by the depths up to and with its own. -/
theorem passesFrom_radius {radius : Int} {depths : List Int} {k : Nat} {p : Pass}
    (hp : (passesFrom radius depths)[k]? = some p) : p.radius = radius - (depths.take (k + 1)).sum := by
  induction depths generalizing radius k with
  | nil => simp [passesFrom] at hp
  | cons d rest ih =>
    rw [List.take_succ_cons, List.sum_cons]
    cases k with
    | zero =>
      obtain rfl : (⟨d, radius - d⟩ : Pass) = p := by simpa [passesFrom] using hp
      simp
    | succ k =>
      have hrest : p.radius = radius - d - (rest.take (k + 1)).sum := ih (by simpa [passesFrom] using hp)
      omega

/-! ### The depths of the two forms (R150, R152) -/

theorem autoDepths_of_le {t qRough qFinish : Int} (h : t ≤ qFinish) : autoDepths t qRough qFinish = some [t] :=
  if_pos h

/-- PLAN AUTO with `n` full roughing passes before the remainder and the finishing pass. -/
theorem autoDepths_of_rough {t qRough qFinish : Int} (n : Nat) (ht : qFinish < t) (hrough : 0 < qRough)
    (hbelow : n * qRough < t - qFinish) (habove : t - qFinish ≤ (n + 1 : Int) * qRough) :
    autoDepths t qRough qFinish =
      if n + 2 ≤ 16 then some (List.replicate n qRough ++ [t - qFinish - n * qRough, qFinish]) else none := by
  have hcount : ceilDiv (t - qFinish) qRough = (n + 1 : Nat) :=
    (ceilDiv_eq_iff hrough _ _).2 ⟨by simpa using hbelow, by simpa using habove⟩
  have hpasses : Config.planPasses < n + 1 + 1 ↔ ¬n + 2 ≤ 16 := by rw [Config.planPasses]; omega
  simp only [autoDepths, if_neg ht.not_ge, hcount, Int.toNat_natCast, hpasses, ite_not, Nat.add_sub_cancel]

theorem depthsMatch_iff (t : Int) (l : List Int) :
    depthsMatch t l = true ↔ (∀ d ∈ l, 10 ≤ d ∧ d ≤ 5000) ∧ l.sum = t := by
  simp only [depthsMatch, Bool.and_eq_true, List.all_eq_true, decide_eq_true_eq]
  rfl

/-- The form that makes the depths: PLAN AUTO's without a list of the host, else PLAN PASSES'. -/
def planForm (given : Option (List Int)) (cut : CutTable) (t : Int) : Except Code (List Int) :=
  match given with
  | none =>
    match autoDepths t cut.qRough cut.qFinish with
    | some l => .ok l
    | none => .error .removalTooDeep
  | some l => if depthsMatch t l then .ok l else .error .planMismatch

section
variable {cut : CutTable} {t : Int}

theorem planForm_auto_of_le (h : t ≤ cut.qFinish) : planForm none cut t = .ok [t] := by
  simp only [planForm, autoDepths_of_le h]

theorem planForm_auto_of_rough (n : Nat) (ht : cut.qFinish < t) (hrough : 0 < cut.qRough)
    (hbelow : n * cut.qRough < t - cut.qFinish) (habove : t - cut.qFinish ≤ (n + 1 : Int) * cut.qRough) :
    planForm none cut t =
      if n + 2 ≤ 16 then .ok (List.replicate n cut.qRough ++ [t - cut.qFinish - n * cut.qRough, cut.qFinish])
      else .error .removalTooDeep := by
  rw [planForm, autoDepths_of_rough n ht hrough hbelow habove]
  by_cases h : n + 2 ≤ 16
  · rw [if_pos h, if_pos h]
  · rw [if_neg h, if_neg h]

theorem planForm_host (l : List Int) : planForm (some l) cut t =
    if (∀ d ∈ l, 10 ≤ d ∧ d ≤ 5000) ∧ l.sum = t then .ok l else .error .planMismatch :=
  if_congr (depthsMatch_iff t l) rfl rfl

end

/-! ### The checks PLAN AUTO and PLAN PASSES share (R149) -/

/-- The measurement record of the slot bound to a station. -/
def State.boundMeasurement (s : State) (st : Station) : Option Measurement :=
  (s.boundSlot st).bind fun i => (s.slot i).measurement

/-- The checks the two forms share, in their order, each with its reply (R149). -/
def State.planChecks (s : State) (st : Station) : List (Bool × Code) :=
  [((s.probe st).calMode, .calibrationMode), (decide (s.setup.pit = none ∨ s.setup.cut = none), .notConfigured),
    (decide (s.boundSlot st = none), .wrongState), ((s.plan st).any fun p => p.inExecution, .wrongState),
    (!((s.boundMeasurement st).any fun m => s.measurementCurrent st m), .noMeasurement),
    (!((s.boundMeasurement st).any fun m => m.verdict.permits), .verdictForbids)]

theorem Verdict.permits_eq (v : Verdict) : v.permits = decide (v = .withinLimits ∨ v = .reprofile) := by
  cases v <;> rfl

/-- The refusal of the first check that applies, else another answer. -/
def State.refusedOr (s : State) (checks : List (Bool × Code)) (x : Option Answered) : Option Answered :=
  ((firstOf checks).map s.refuse).or x

section
variable (s : State) (x : Option Answered)

theorem State.refusedOr_nil : s.refusedOr [] x = x := rfl

theorem State.refusedOr_cons (b : Bool) (c : Code) (l : List (Bool × Code)) :
    s.refusedOr ((b, c) :: l) x = if b = true then some (s.refuse c) else s.refusedOr l x := by
  cases b <;> rfl

end

/-- Past the shared checks the form decides: it refuses, or its depths become the station's plan and the reply gives it
(R149, R153). -/
def State.planMade (source : PlanSource) (st : Station) (form : CutTable → Int → Except Code (List Int))
    (cut : CutTable) (i : Ix) (m : Measurement) (s : State) : Answered :=
  match form cut (m.removal.getD 0) with
  | .error c => s.refuse c
  | .ok depths =>
    let p := newPlan source ((s.slot i).serial.getD 0) m (s.boundProfile i) cut.feed depths
    ⟨(s.putPlan st (some p)).touchSlot i, .ok, .plan p⟩

section
variable {s : State} {source : PlanSource} {st : Station} {form : CutTable → Int → Except Code (List Int)}

/-- The shared checks decide in their order, and leave the form a CUT table, a bound slot and its measurement. -/
theorem State.makePlan_eq : some (s.makePlan source st form) =
    s.refusedOr (s.planChecks st) (s.setup.cut.bind fun cut => (s.boundSlot st).bind fun i =>
      (s.slot i).measurement.map fun m => s.planMade source st form cut i m) := by
  simp only [State.makePlan, State.planChecks, State.boundMeasurement, State.refusedOr_cons, State.refusedOr_nil,
    apply_ite some]
  refine if_congr Iff.rfl rfl ?_
  cases hpit : s.setup.pit with
  | none => simp
  | some pit =>
  cases hcut : s.setup.cut with
  | none => simp
  | some cut =>
  cases hi : s.boundSlot st with
  | none => simp
  | some i =>
  cases hm : (s.slot i).measurement with
  | none => simp [hm, apply_ite some]
  | some m =>
  cases hcurrent : s.measurementCurrent st m with
  | false => simp [hm, Option.filter_some, hcurrent, apply_ite some]
  | true =>
    simp [hm, Option.filter_some, hcurrent, apply_ite some]
    rfl

theorem State.makePlan_of_refused {c : Code} (h : firstOf (s.planChecks st) = some c) :
    s.makePlan source st form = s.refuse c := by
  have heq := s.makePlan_eq (source := source) (st := st) (form := form)
  rw [State.refusedOr, h] at heq
  exact Option.some_inj.1 heq

theorem State.makePlan_of_passed (h : firstOf (s.planChecks st) = none) {i : Ix} (hi : s.boundSlot st = some i)
    {m : Measurement} (hm : (s.slot i).measurement = some m) {cut : CutTable} (hcut : s.setup.cut = some cut) :
    s.makePlan source st form = s.planMade source st form cut i m := by
  have heq := s.makePlan_eq (source := source) (st := st) (form := form)
  rw [State.refusedOr, h, hcut, Option.bind_some, hi, Option.bind_some, hm] at heq
  exact Option.some_inj.1 heq

end

/-! ### The commands as the host sends them -/

/-- Who made the depths: the part without a list of the host, else the host. -/
def planSource (given : Option (List Int)) : PlanSource := if given = none then .auto else .host

theorem exec_plan_handed {c : Instr} {kind tag : Byte} {payload : List Byte} {st : Station} {given : Option (List Int)}
    {s s1 : State}
    (hc : c = .planAuto tag payload ∧ kind = 0x58 ∧ stationParam payload = .ok st ∧ given = none ∨
      c = .planPasses tag payload ∧ kind = 0x59 ∧ ∃ l, planPassesParams payload = .ok (st, l) ∧ given = some l)
    (hs : s.handed kind tag payload = some s1) :
    exec c s = .next ((s1.makePlan (planSource given) st (planForm given)).sent kind tag) := by
  obtain ⟨rfl, rfl, hp, rfl⟩ | ⟨rfl, rfl, l, hp, rfl⟩ := hc
  · exact State.plainCommand_next hp hs
  · exact State.plainCommand_next hp hs

/-! ### The obligation -/

/-- Settles O49: past the checks the two forms share, the form's depths become the plan of the measurement, with the
radii and the revolutions that the depths and the zone give. -/
theorem plansCoverTheRemoval : Obligations.PlansCoverTheRemoval := by
  intro c kind tag payload st given s s1 hc hs refused measured checks
  have hexec := exec_plan_handed hc hs
  have hchecks : checks = s1.planChecks st := by
    simp only [State.planChecks, Verdict.permits_eq]
    rfl
  rw [hchecks]
  refine ⟨fun code hcode => exec_of_refuse hexec (State.makePlan_of_refused hcode), ?_⟩
  intro hpass i hi m hm rec hrec cut hcut total htotal target htarget zone made
  have hplan := State.makePlan_of_passed (source := planSource given) (form := planForm given) hpass hi hm hcut
  rw [State.planMade, htotal, Option.getD_some] at hplan
  have hrefused {code : Code} (h : planForm given cut total = .error code) : refused code := by
    rw [h] at hplan
    exact exec_of_refuse hexec hplan
  have hmade {depths : List Int} (h : planForm given cut total = .ok depths) : made depths := by
    rw [h] at hplan
    rw [hplan] at hexec
    refine ⟨passesFrom (target + total) depths, passRevolutions zone.zoneFirst zone.zoneLast cut.feed,
      passesFrom_depths _ _, fun k p => passesFrom_radius, passRevolutions_bounds, ?_⟩
    have hzone : s1.boundProfile i = zone := by simp only [State.boundProfile, hrec]; rfl
    rw [hzone] at hexec
    simp only [newPlan, htotal, htarget, Option.getD_some] at hexec
    exact hexec
  have hdecided {q : Prop} [Decidable q] {depths : List Int} {code : Code}
      (h : planForm given cut total = if q then .ok depths else .error code) :
      if q then made depths else refused code := by
    by_cases hq : q
    · rw [if_pos hq] at h ⊢
      exact hmade h
    · rw [if_neg hq] at h ⊢
      exact hrefused h
  refine ⟨fun hgiven hle => hmade ?_, fun n hgiven hlt hrough hbelow habove => hdecided ?_,
    fun l hgiven => hdecided ?_⟩
  · rw [hgiven, planForm_auto_of_le hle]
  · rw [hgiven, planForm_auto_of_rough n hlt hrough hbelow habove]
  · rw [hgiven, planForm_host]

end Sys2Proof.Machine
end

section
/-! PROOFS. Chapter 11: the start and the end of a break on RXD (R180), by what they make of the link and of the notice
table. -/

namespace Sys2Proof.Machine

/-! ### A notice source that takes an event (R185, R186) -/

theorem SourceState.event_eq (x : SourceState) :
    x.event = if x.masked then { x with missed := true } else { x with pending := true } := rfl

/-! ### The edge of a break (R180) -/

section
variable (s : State) (on : Bool)

theorem State.breakEdge_link : (s.breakEdge on).link =
    { s.link with assembler := .hunting, queue := [], holding := none, breakOn := on, flags.brk := true } := rfl

/-- An edge of a break is an event of LINK, and the notice table changes in no other way. -/
theorem State.breakEdge_notices : (s.breakEdge on).notices = (s.notify .link).notices := rfl

end

/-- BREAK START and BREAK END are the two edges of a break. -/
theorem exec_breakEdge {c : Instr} {on : Bool} (s : State)
    (hc : c = .breakStart ∧ on = true ∨ c = .breakEnd ∧ on = false) : exec c s = .next (s.breakEdge on) := by
  obtain ⟨rfl, rfl⟩ | ⟨rfl, rfl⟩ := hc
  · rfl
  · rfl

/-! ### The obligation -/

/-- Settles O6: either command is an edge of a break, which writes the link and hands LINK one event. -/
theorem lineBreakEmptiesReceiver : Obligations.LineBreakEmptiesReceiver := by
  intro s c on hc
  refine ⟨s.breakEdge on, exec_breakEdge s hc, s.breakEdge_link on, ?_, fun src hsrc => ?_, s.breakEdge_only on⟩
  · rw [State.breakEdge_notices, State.notify_get_self, SourceState.event_eq]
  · rw [State.breakEdge_notices, State.notify_get_of_ne s hsrc]

end Sys2Proof.Machine
end

section
/-! PROOFS. Chapter 12: SET PIT and SET CUT by the pit they find, by the values they settle (R190) and by what an
accepted SET CUT makes of the measurement records and the plans. -/

namespace Sys2Proof.Machine

/-! ### The checks on a write of a table (R190, checks 1 to 4) -/

theorem State.tablesWritable_eq (s : State) : s.tablesWritable =
    (decide (s.lift.state = .down ∨ s.lift.state = .hold ∨ s.lift.state = .fault ∨ s.lift.state = .parked) &&
      ((s.cut .a).state = .idle || (s.cut .a).state = .stopped) &&
      ((s.cut .b).state = .idle || (s.cut .b).state = .stopped) &&
      !(s.sweepOf .a).state.inMotion && !(s.sweepOf .b).state.inMotion && s.engine.run.isNone) := by
  unfold State.tablesWritable
  cases s.lift.state <;> rfl

theorem State.tablesWritable_iff (s : State) : s.tablesWritable = true ↔ s.pitRests := by
  simp only [State.tablesWritable_eq, Bool.and_eq_true, Bool.or_eq_true, Bool.not_eq_true', decide_eq_true_eq,
    SweepState.inMotion_eq_false_iff, Option.isNone_iff_eq_none]
  constructor
  · rintro ⟨⟨⟨⟨⟨hlift, ha⟩, hb⟩, hwa⟩, hwb⟩, hrun⟩
    refine ⟨hlift, ?_, hrun⟩
    rintro (_ | _)
    · exact ⟨ha, hwa⟩
    · exact ⟨hb, hwb⟩
  · rintro ⟨hlift, hst, hrun⟩
    exact ⟨⟨⟨⟨⟨hlift, (hst .a).1⟩, (hst .b).1⟩, (hst .a).2⟩, (hst .b).2⟩, hrun⟩

/-! ### The values settled (R190, steps 1 to 4) -/

theorem clampInt_eq_max_min {lo hi : Int} (h : lo ≤ hi) (x : Int) : clampInt lo hi x = max lo (min hi x) := by
  unfold clampInt
  split
  · omega
  · split <;> omega

theorem settleLength_eq {lo hi : Int} (h : lo ≤ hi) (x : Int) :
    settleLength lo hi x = max lo (min hi x) / 10 * 10 := by
  rw [settleLength, clampInt_eq_max_min h, roundDown10]

theorem settleLength_emod (lo hi x : Int) : settleLength lo hi x % 10 = 0 := roundDown10_emod _

theorem Pit.settle_tripBand (x : Pit) :
    x.settle.tripBand = max (settleLength 2000 10000 x.tripBand) (x.settle.syncBand + 500) :=
  (max_def_lt _ _).symm

/-- Both depths are multiples of 10, so a finishing depth below the roughing depth is 10 µm below it at least. -/
theorem CutTable.settle_qFinish (x : CutTable) :
    x.settle.qFinish = min (settleLength 100 1000 x.qFinish) (x.settle.qRough - 10) := by
  have hrough := settleLength_emod 500 5000 x.qRough
  have hfinish := settleLength_emod 100 1000 x.qFinish
  simp only [CutTable.settle]
  split <;> omega

/-! ### Plans not in execution removed at both stations (R156) -/

section
variable (s : State)

theorem State.removeIdlePlan_plans (st : Station) :
    (s.removeIdlePlan st).plans = s.plans.set st ((s.plan st).filter fun p => p.inExecution) := by
  have hself : s.plans.set st (s.plan st) = s.plans := Two.set_get_self ..
  unfold State.removeIdlePlan
  split
  case h_1 p hp =>
    cases hin : p.inExecution with
    | true => rw [if_pos rfl, hp, Option.filter_some_pos hin, ← hp, hself]
    | false => rw [if_neg Bool.false_ne_true, hp, Option.filter_some_neg (by simp [hin]), State.putPlan_plans]
  case h_2 hp => rw [hp, Option.filter_none, ← hp, hself]

theorem State.removeIdlePlan_both_plans : ((s.removeIdlePlan .a).removeIdlePlan .b).plans =
    s.plans.map fun x => x.filter fun p => p.inExecution := by
  rw [State.removeIdlePlan_plans, State.plan, State.removeIdlePlan_plans]
  rfl

theorem State.removeIdlePlan_both_only :
    Only [.plans, .notices] s ((s.removeIdlePlan .a).removeIdlePlan .b) :=
  (s.removeIdlePlan_only .a).trans (State.removeIdlePlan_only _ .b)

end

/-! ### The answers of the owner -/

/-- The state as an accepted SET PIT leaves it. -/
def State.pitWritten (s : State) (p : Pit) : State := { s with setup := { s.setup with pit := some p } }

/-- The state as an accepted SET CUT leaves it: the table written, every measurement record stale and every plan not in
execution removed. -/
def State.cutWritten (s : State) (p : CutTable) : State :=
  let written : State := { s with setup := { s.setup with cut := some p } }
  (written.staleMeasurements.removeIdlePlan .a).removeIdlePlan .b

section
variable {s : State}

theorem adjustedIf_ne {α : Type} [DecidableEq α] (p x : α) :
    adjustedIf (p ≠ x) = if p = x then .ok else .adjusted :=
  adjustedIf_eq (by simp)

theorem State.setPit_of_rests (h : s.pitRests) (x : Pit) :
    s.setPit x = ⟨s.pitWritten x.settle, if x.settle = x then .ok else .adjusted, .pit x.settle⟩ := by
  rw [State.setPit, if_pos (s.tablesWritable_iff.2 h), adjustedIf_ne]
  rfl

theorem State.setPit_of_not_rests (h : ¬s.pitRests) (x : Pit) : s.setPit x = s.refuse .wrongState :=
  if_neg (mt s.tablesWritable_iff.1 h)

theorem State.setCut_of_rests (h : s.pitRests) (x : CutTable) :
    s.setCut x = ⟨s.cutWritten x.settle, if x.settle = x then .ok else .adjusted, .cut x.settle⟩ := by
  rw [State.setCut, if_pos (s.tablesWritable_iff.2 h), adjustedIf_ne]
  rfl

theorem State.setCut_of_not_rests (h : ¬s.pitRests) (x : CutTable) : s.setCut x = s.refuse .wrongState :=
  if_neg (mt s.tablesWritable_iff.1 h)

end

/-! ### What an accepted SET CUT leaves -/

section
variable (s : State) (p : CutTable)

theorem State.cutWritten_setup : (s.cutWritten p).setup = { s.setup with cut := some p } :=
  (State.removeIdlePlan_both_only _).2 .setup (by decide)

theorem State.cutWritten_link : (s.cutWritten p).link = s.link :=
  (State.removeIdlePlan_both_only _).2 .link (by decide)

theorem State.cutWritten_context : (s.cutWritten p).context = s.staleMeasurements.context :=
  (State.removeIdlePlan_both_only _).2 .context (by decide)

theorem State.cutWritten_results : (s.cutWritten p).context.results = s.context.results := by
  rw [State.cutWritten_context]
  rfl

theorem State.cutWritten_resultsLost : (s.cutWritten p).context.resultsLost = s.context.resultsLost := by
  rw [State.cutWritten_context]
  rfl

theorem State.cutWritten_slot (i : Ix) : (s.cutWritten p).slot i =
    { s.slot i with measurement := (s.slot i).measurement.map fun m => { m with stale := true } } := by
  rw [State.slot, State.cutWritten_context]
  exact Four.get_map ..

theorem State.cutWritten_plan (st : Station) :
    (s.cutWritten p).plan st = (s.plan st).filter fun x => x.inExecution := by
  rw [State.plan, State.cutWritten, State.removeIdlePlan_both_plans, Two.get_map]
  rfl

end

/-! ### The commands as the host sends them -/

section
variable {tag : Byte} {payload : List Byte} {s s1 : State}

theorem exec_setPit_handed {x : Pit} (hp : setPitParams payload = .ok x) (hs : s.handed 0x10 tag payload = some s1) :
    exec (.setPit tag payload) s = .next ((s1.setPit x).sent 0x10 tag) := State.plainCommand_next hp hs

theorem exec_setCut_handed {x : CutTable} (hp : setCutParams payload = .ok x)
    (hs : s.handed 0x11 tag payload = some s1) :
    exec (.setCut tag payload) s = .next ((s1.setCut x).sent 0x11 tag) := State.plainCommand_next hp hs

end

/-! ### The obligation -/

/-- Settles O15: with the pit at rest the owner writes the settled table, and otherwise it refuses; each settled field
is the one R190 gives. -/
theorem tablesAreSettledOnEntry : Obligations.TablesAreSettledOnEntry := by
  refine ⟨?pit, ?cut⟩
  case pit =>
    intro tag payload x s s1 hx hs fit
    have hexec := exec_setPit_handed hx hs
    refine ⟨fun hrests => ?_, fun hnot => exec_of_refuse hexec (State.setPit_of_not_rests hnot x)⟩
    have honly := s1.setPit_only x
    have htrip : x.settle.tripBand = max (fit 2000 10000 x.tripBand) (x.settle.syncBand + 500) := by
      rw [Pit.settle_tripBand, settleLength_eq (by decide)]
    have hradii (r : Two Int) (st : Station) : (r.map (settleLength Config.radiusMin Config.radiusMax)).get st =
        fit 300000 700000 (r.get st) := by
      rw [Two.get_map]
      exact settleLength_eq (by decide) _
    rw [State.setPit_of_rests hrests] at hexec honly
    exact ⟨_, x.settle, hexec, Answered.sent_answers rfl _ _, rfl, settleLength_eq (by decide) _,
      settleLength_eq (by decide) _, htrip, clampNat_eq_max_min (by decide) _, settleLength_eq (by decide) _,
      clampNat_eq_max_min (by decide) _, clampNat_eq_max_min (by decide) _, clampNat_eq_max_min (by decide) _,
      fun st => ⟨hradii _ st, hradii _ st⟩, (only_replied _ _ _ _ _ _ _ (by decide)).2 (honly.mono (by decide))⟩
  case cut =>
    intro tag payload x s s1 hx hs fit
    have hexec := exec_setCut_handed hx hs
    refine ⟨fun hrests => ?_, fun hnot => exec_of_refuse hexec (State.setCut_of_not_rests hnot x)⟩
    have honly := s1.setCut_only x
    have hfinish : x.settle.qFinish = min (fit 100 1000 x.qFinish) (x.settle.qRough - 10) := by
      rw [CutTable.settle_qFinish, settleLength_eq (by decide)]
    rw [State.setCut_of_rests hrests] at hexec honly
    exact ⟨_, x.settle, hexec, Answered.sent_answers (s1.cutWritten_link _) _ _, s1.cutWritten_setup _,
      settleLength_eq (by decide) _, settleLength_eq (by decide) _, settleLength_eq (by decide) _,
      settleLength_eq (by decide) _, settleLength_eq (by decide) _, settleLength_eq (by decide) _,
      settleLength_eq (by decide) _, settleLength_eq (by decide) _, hfinish, settleLength_eq (by decide) _,
      s1.cutWritten_results _, s1.cutWritten_resultsLost _, s1.cutWritten_slot _, s1.cutWritten_plan _,
      (only_replied _ _ _ _ _ _ _ (by decide)).2 (honly.mono (by decide))⟩

end Sys2Proof.Machine
end

section
/-! PROOFS. What a command can change at all: the blocks of each row of the table, so that every row answers a next
state, and a condition on some blocks passes over the rows that leave them alone. -/

namespace Sys2Proof.Machine

/-! ### The operations behind the rows that have no frame yet -/

theorem State.command_only {α : Type} {l : List Block} {kind tag : Byte} {payload : List Byte}
    {params : Except Code α} {keep : α → Option Ix} {owner : α → State → Answered} (s : State)
    (howner : ∀ x s1, Only l s1 (owner x s1).state) :
    Only ([.link, .setup] ++ l) s (s.command kind tag payload params keep owner) := by
  cases htake : s.takeFrame ⟨kind, tag, payload⟩ with
  | none => rw [command_waits htake]; exact (s.acceptFrame_only _).mono (by simp)
  | some s1 =>
    have hlink : Only ([.link, .setup] ++ l) s s1 := (takeFrame_only htake).mono (by simp)
    cases params with
    | error c => rw [command_refused htake]; exact hlink.trans ((s1.putReply_only _).mono (by simp))
    | ok x =>
      rw [command_taken htake]
      have hbroken : Only ([.link, .setup] ++ l) s1 (s1.breakLoad (keep x)) :=
        (s1.breakLoad_only _).mono (by simp)
      have hasked := (howner x (s1.breakLoad (keep x))).mono (List.subset_append_right [.link, .setup] l)
      exact ((hlink.trans hbroken).trans hasked).trans ((State.putReply_only _ _).mono (by simp))

theorem State.measure_only (s : State) : Only [.engine, .store, .context, .notices] s s.measure.state := by
  unfold State.measure
  split
  · exact Only.refl _ s
  · simp only [only_notify, only_enqueue, List.cons_subset, List.nil_subset, List.mem_cons, true_or, or_true,
      and_self]
    exact ⟨rfl, fun b hb => by cases b <;> first | rfl | exact absurd (by decide) hb⟩

theorem State.deliver_only (s : State) (x : RunEntry × Measurement) :
    Only [.context, .engine] s (s.deliver x) := by
  unfold State.deliver
  split
  · exact ⟨rfl, fun b hb => by cases b <;> first | rfl | exact absurd (by decide) hb⟩
  · exact Only.refl _ s

theorem foldl_only {α : Type} {l : List Block} {f : State → α → State} (hf : ∀ s x, Only l s (f s x)) (s : State)
    (xs : List α) : Only l s (xs.foldl f s) := by
  induction xs generalizing s with
  | nil => exact Only.refl l s
  | cons x xs ih => exact (hf s x).trans (ih (f s x))

theorem State.withRun_only (s : State) (r : Option Run) :
    Only [.engine] s { s with engine := { s.engine with run := r } } :=
  ⟨rfl, fun b hb => by cases b <;> first | rfl | exact absurd (by decide) hb⟩

theorem State.deliverRun_only (s : State) (r : Run) (items : List SiblingItem) :
    Only [.context, .engine, .plans, .notices] s (s.deliverRun r items) := by
  unfold State.deliverRun
  exact (((((foldl_only State.deliver_only s _).mono (by decide)).trans
    ((State.removeIdlePlan_only _ .a).mono (by decide))).trans ((State.removeIdlePlan_only _ .b).mono (by decide))).trans
    ((State.withRun_only _ none).mono (by decide))).trans ((State.notify_only _ _).mono (by decide))

theorem State.completeSearch_only (s : State) (units bound : List Nat) :
    Only [.store, .context, .engine, .plans, .notices] s (s.completeSearch units bound) := by
  unfold State.completeSearch
  have hmarked := (s.mapStore_only Store.markFailing).mono
    (show [.store] ⊆ [Block.store, .context, .engine, .plans, .notices] by decide)
  split
  · exact hmarked
  · refine hmarked.trans (Only.trans ?_ ((State.deliverRun_only _ _ _).mono (by decide)))
    exact ⟨rfl, fun b hb => by cases b <;> first | rfl | exact absurd (by decide) hb⟩

theorem State.unknownFrame_only (s : State) (kind tag : Byte) (payload : List Byte) :
    Only [.link] s (s.unknownFrame kind tag payload) := by
  unfold State.unknownFrame
  split
  · exact s.acceptFrame_only _
  · next htake => exact (takeFrame_only htake).trans (State.putReply_only _ _)

theorem State.hostReady_only (s : State) (b : Bool) :
    Only [.link] s { s with link := { s.link with hostReady := b } } :=
  ⟨rfl, fun c hc => by cases c <;> first | rfl | exact absurd (by decide) hc⟩

/-! ### The blocks of each row -/

/-- What any command of the host may change: the link, and a load it breaks. -/
def hostBlocks : List Block := [.link, .setup]

/-- What a change of the Lift Group's state may change. -/
def moveBlocks : List Block := [.lift, .level, .stations, .axes, .capture, .context, .engine, .notices]

/-- Every block. -/
def allBlocks : List Block :=
  [.store, .context, .lift, .level, .inputs, .probes, .capture, .engine, .plans, .stations, .axes, .setup, .link,
    .notices]

theorem mem_allBlocks (b : Block) : b ∈ allBlocks := by cases b <;> decide

/-- The blocks outside which a row of the table leaves everything as it was. -/
def blocksOf : Instr → List Block
  | .status _ _ => hostBlocks
  | .setLink _ _ => hostBlocks ++ [.link, .notices]
  | .setPit _ _ => hostBlocks ++ [.setup]
  | .setCut _ _ => hostBlocks ++ [.setup, .context, .plans, .notices]
  | .profileBegin _ _ => hostBlocks ++ [.setup]
  | .profileData _ _ => hostBlocks ++ [.setup]
  | .profileResume _ _ => hostBlocks ++ [.setup]
  | .enrol _ _ => hostBlocks ++ [.store, .context]
  | .amend _ _ => hostBlocks ++ [.store, .context]
  | .retire _ _ => hostBlocks ++ [.store, .context]
  | .readRecord _ _ => hostBlocks ++ [.store, .context]
  | .openRecord _ _ => hostBlocks ++ [.store, .context]
  | .closeRecord _ _ => hostBlocks ++ [.store, .context]
  | .bind _ _ => hostBlocks ++ [.context, .capture, .engine, .notices]
  | .unbind _ _ => hostBlocks ++ [.context, .plans, .notices]
  | .logMeasurement _ _ => hostBlocks ++ [.context]
  | .raise _ _ => hostBlocks ++ moveBlocks
  | .lower _ _ => hostBlocks ++ moveBlocks
  | .liftStop _ _ => hostBlocks ++ moveBlocks
  | .liftResume _ _ => hostBlocks ++ moveBlocks
  | .faultClear _ _ => hostBlocks ++ [.lift, .level, .notices]
  | .park _ _ => hostBlocks ++ moveBlocks
  | .unpark _ _ => hostBlocks ++ [.lift, .level, .stations, .axes, .capture, .notices]
  | .probeReference _ _ => hostBlocks ++ [.probes, .axes, .context, .notices]
  | .calibrateOn _ _ => hostBlocks ++ [.probes, .context, .notices]
  | .calibrateMeasure _ _ => hostBlocks ++ [.probes, .axes, .context, .notices]
  | .calibrateOff _ _ => hostBlocks ++ [.probes, .axes, .context, .notices]
  | .sweep _ _ => hostBlocks ++ [.capture, .axes, .context, .notices]
  | .sweepContinue _ _ => hostBlocks ++ [.capture, .axes, .context, .notices]
  | .sweepStop _ _ => hostBlocks ++ [.lift, .level, .stations, .axes, .capture, .notices, .context]
  | .readProfile _ _ => hostBlocks ++ [.context]
  | .measure _ _ => hostBlocks ++ [.engine, .store, .context, .notices]
  | .readMeasurement _ _ => hostBlocks ++ [.context]
  | .planAuto _ _ => hostBlocks ++ [.plans, .context, .notices]
  | .planPasses _ _ => hostBlocks ++ [.plans, .context, .notices]
  | .cutStart _ _ => hostBlocks ++ [.plans, .stations, .context, .store, .axes, .notices]
  | .feedHold _ _ => hostBlocks ++ [.stations, .axes, .context, .notices]
  | .resume _ _ => hostBlocks ++ [.stations, .axes, .context, .notices]
  | .cutAbort _ _ => hostBlocks ++ [.lift, .level, .stations, .axes, .context, .store, .plans, .notices]
  | .unknownKind _ _ _ => [.link]
  | .frameAccepted _ => [.link]
  | .receiveGap => [.link]
  | .breakStart => [.link, .notices]
  | .breakEnd => [.link, .notices]
  | .silenceExpiry => moveBlocks ++ [.link]
  | .hostReadyChange _ => [.link]
  | .replyFrameStart => [.link]
  | .noticeFrameStart => [.inputs, .context, .store, .link, .notices]
  | .frameEnd => [.link]
  | .headerScanComplete => [.store, .context]
  | .loadComplete => [.store, .context, .capture, .engine, .notices]
  | .writeComplete => [.store, .context, .notices]
  | .readComplete => [.store, .context, .notices]
  | .enrolComplete => [.store, .context, .notices]
  | .amendComplete => [.store, .context, .notices]
  | .retireComplete => [.store, .context, .notices]
  | .searchComplete => [.store, .context, .engine, .plans, .notices]
  | .liftPositionReport _ _ => moveBlocks
  | .liftInPosition _ => moveBlocks
  | .moveTimeout => moveBlocks
  | .intervalExpiry => [.lift, .level, .stations, .axes, .capture, .notices]
  | .dwellExpiry => [.lift, .level, .stations, .axes, .capture, .notices]
  | .inputChange _ _ => [.inputs]
  | .debounceExpiry _ => moveBlocks ++ [.store, .plans, .inputs]
  | .probePadInPosition _ => [.probes, .notices]
  | .referenceReading _ _ _ => [.probes, .axes, .notices]
  | .settleExpiry _ => [.probes, .notices]
  | .ringInPosition _ => [.probes, .notices]
  | .calibrationReading _ _ _ => [.probes, .axes, .notices]
  | .rollerAngleReport _ _ => [.capture]
  | .rollerInPosition _ _ => [.capture, .axes]
  | .sweepCarriageInPosition _ => [.capture]
  | .sampleAnswer _ _ _ => [.lift, .level, .stations, .axes, .capture, .notices]
  | .toolPositionReport _ _ _ => [.stations, .notices]
  | .toolApproachArrival _ => [.stations, .axes, .notices]
  | .toolBackoffArrival _ => [.lift, .level, .stations, .axes, .notices]
  | .revolutionPulse _ => [.lift, .level, .stations, .axes, .context, .store, .plans, .notices]
  | .reset _ => allBlocks

/-- The completion of the request in service, where that request is of the completion's kind. -/
theorem completion_only {l : List Block} {s t : State} (h : Only l s t) (hl : [.context, .store] ⊆ l) :
    Only l s t.endService := h.trans ((State.endService_only t).mono hl)

theorem exec_only (c : Instr) (s : State) : ∃ t, exec c s = .next t ∧ Only (blocksOf c) s t := by
  cases c with
  | status _ _ => exact ⟨_, rfl, s.command_only fun x s1 => s1.status_only x⟩
  | setLink _ _ => exact ⟨_, rfl, s.command_only fun x s1 => s1.setLink_only x⟩
  | setPit _ _ => exact ⟨_, rfl, s.command_only fun x s1 => s1.setPit_only x⟩
  | setCut _ _ => exact ⟨_, rfl, s.command_only fun x s1 => s1.setCut_only x⟩
  | profileBegin _ _ => exact ⟨_, rfl, s.command_only fun x s1 => s1.profileBegin_only x⟩
  | profileData _ _ => exact ⟨_, rfl, s.command_only fun x s1 => s1.profileData_only x⟩
  | profileResume _ _ => exact ⟨_, rfl, s.command_only fun x s1 => s1.profileResume_only x⟩
  | enrol tag _ => exact ⟨_, rfl, s.command_only fun x s1 => s1.enrol_only tag x⟩
  | amend tag _ => exact ⟨_, rfl, s.command_only fun x s1 => s1.amend_only tag x⟩
  | retire tag _ => exact ⟨_, rfl, s.command_only fun x s1 => s1.retire_only tag x⟩
  | readRecord tag _ => exact ⟨_, rfl, s.command_only fun x s1 => s1.readRecord_only tag x⟩
  | openRecord _ _ => exact ⟨_, rfl, s.command_only fun x s1 => s1.openRecord_only x⟩
  | closeRecord _ _ => exact ⟨_, rfl, s.command_only fun x s1 => s1.closeRecord_only x⟩
  | bind _ _ => exact ⟨_, rfl, s.command_only fun x s1 => s1.bindStation_only x⟩
  | unbind _ _ => exact ⟨_, rfl, s.command_only fun x s1 => s1.unbindStation_only x⟩
  | logMeasurement _ _ => exact ⟨_, rfl, s.command_only fun x s1 => s1.logMeasurement_only x⟩
  | raise _ _ => exact ⟨_, rfl, s.command_only fun x s1 => s1.raiseLift_only x⟩
  | lower _ _ => exact ⟨_, rfl, s.command_only fun _ s1 => s1.lowerLift_only⟩
  | liftStop _ _ => exact ⟨_, rfl, s.command_only fun _ s1 => s1.stopLift_only⟩
  | liftResume _ _ => exact ⟨_, rfl, s.command_only fun _ s1 => s1.resumeLift_only⟩
  | faultClear _ _ => exact ⟨_, rfl, s.command_only fun _ s1 => s1.clearFault_only⟩
  | park _ _ => exact ⟨_, rfl, s.command_only fun _ s1 => s1.park_only⟩
  | unpark _ _ => exact ⟨_, rfl, s.command_only fun _ s1 => s1.unpark_only⟩
  | probeReference _ _ => exact ⟨_, rfl, s.command_only fun x s1 => s1.probeReference_only x⟩
  | calibrateOn _ _ => exact ⟨_, rfl, s.command_only fun x s1 => s1.calibrateOn_only x⟩
  | calibrateMeasure _ _ => exact ⟨_, rfl, s.command_only fun x s1 => s1.calibrateMeasure_only x⟩
  | calibrateOff _ _ => exact ⟨_, rfl, s.command_only fun x s1 => s1.calibrateOff_only x⟩
  | sweep _ _ => exact ⟨_, rfl, s.command_only fun x s1 => s1.sweep_only x⟩
  | sweepContinue _ _ => exact ⟨_, rfl, s.command_only fun x s1 => s1.sweepContinue_only x⟩
  | sweepStop _ _ => exact ⟨_, rfl, s.command_only fun x s1 => s1.sweepStop_only x⟩
  | readProfile _ _ => exact ⟨_, rfl, s.command_only fun x s1 => s1.readProfile_only x⟩
  | measure _ _ => exact ⟨_, rfl, s.command_only fun _ s1 => s1.measure_only⟩
  | readMeasurement _ _ => exact ⟨_, rfl, s.command_only fun x s1 => s1.readMeasurement_only x⟩
  | planAuto _ _ => exact ⟨_, rfl, s.command_only fun x s1 => s1.planAuto_only x⟩
  | planPasses _ _ => exact ⟨_, rfl, s.command_only fun x s1 => s1.planPasses_only x⟩
  | cutStart _ _ => exact ⟨_, rfl, s.command_only fun x s1 => s1.cutStart_only x⟩
  | feedHold _ _ => exact ⟨_, rfl, s.command_only fun x s1 => s1.feedHold_only x⟩
  | resume _ _ => exact ⟨_, rfl, s.command_only fun x s1 => s1.resumeCut_only x⟩
  | cutAbort _ _ => exact ⟨_, rfl, s.command_only fun x s1 => s1.cutAbort_only x⟩
  | unknownKind k tag p => exact ⟨_, rfl, (Only.refl _ s).ite (s.unknownFrame_only k tag p)⟩
  | frameAccepted l => exact ⟨_, rfl, foldl_only State.receiveByte_only s l⟩
  | receiveGap => exact ⟨_, rfl, s.receiveGapOf_only⟩
  | breakStart => exact ⟨_, rfl, s.breakEdge_only true⟩
  | breakEnd => exact ⟨_, rfl, s.breakEdge_only false⟩
  | silenceExpiry => exact ⟨_, rfl, s.silenceExpires_only⟩
  | hostReadyChange b => exact ⟨_, rfl, s.hostReady_only b⟩
  | replyFrameStart => exact ⟨_, rfl, s.startReply_only⟩
  | noticeFrameStart => exact ⟨_, rfl, s.startNotice_only⟩
  | frameEnd => exact ⟨_, rfl, s.endFrame_only⟩
  | headerScanComplete =>
    refine ⟨_, rfl, ?_⟩
    split
    · exact Only.refl _ s
    · exact ((s.mapStore_only _).mono (by decide)).trans ((State.serve_only _).mono (by decide))
  | loadComplete =>
    refine ⟨_, rfl, ?_⟩
    split
    · exact completion_only (s.completeLoad_only _ _) (by decide)
    · exact Only.refl _ s
  | writeComplete =>
    refine ⟨_, rfl, ?_⟩
    split
    · exact completion_only (s.completeWrite_only _ _ _) (by decide)
    · exact Only.refl _ s
  | readComplete =>
    refine ⟨_, rfl, ?_⟩
    split
    · exact completion_only ((s.completeRead_only _ _).mono (by decide)) (by decide)
    · exact Only.refl _ s
  | enrolComplete =>
    refine ⟨_, rfl, ?_⟩
    split
    · exact completion_only ((s.completeEnrol_only _ _ _ _).mono (by decide)) (by decide)
    · exact Only.refl _ s
  | amendComplete =>
    refine ⟨_, rfl, ?_⟩
    split
    · exact completion_only ((s.completeAmend_only _ _ _).mono (by decide)) (by decide)
    · exact Only.refl _ s
  | retireComplete =>
    refine ⟨_, rfl, ?_⟩
    split
    · exact completion_only ((s.completeRetire_only _ _).mono (by decide)) (by decide)
    · exact Only.refl _ s
  | searchComplete =>
    refine ⟨_, rfl, ?_⟩
    split
    · exact completion_only (s.completeSearch_only _ _) (by decide)
    · exact Only.refl _ s
  | liftPositionReport w h => exact ⟨_, rfl, s.reportLift_only w h⟩
  | liftInPosition w => exact ⟨_, rfl, s.liftArrives_only w⟩
  | moveTimeout => exact ⟨_, rfl, s.moveTimesOut_only⟩
  | intervalExpiry => exact ⟨_, rfl, s.intervalExpires_only⟩
  | dwellExpiry => exact ⟨_, rfl, s.dwellExpires_only⟩
  | inputChange i b => exact ⟨_, rfl, s.putInput_only i _⟩
  | debounceExpiry i => exact ⟨_, rfl, s.debounceExpires_only i⟩
  | probePadInPosition st => exact ⟨_, rfl, s.padReached_only st⟩
  | referenceReading st l r => exact ⟨_, rfl, s.padReading_only st l r⟩
  | settleExpiry st => exact ⟨_, rfl, s.settles_only st⟩
  | ringInPosition st => exact ⟨_, rfl, s.ringReached_only st⟩
  | calibrationReading st l r => exact ⟨_, rfl, s.calibrationReading_only st l r⟩
  | rollerAngleReport st a => exact ⟨_, rfl, s.putAngle_only st a⟩
  | rollerInPosition st a => exact ⟨_, rfl, s.rollerArrives_only st a⟩
  | sweepCarriageInPosition st => exact ⟨_, rfl, s.carriageArrives_only st⟩
  | sampleAnswer st l r => exact ⟨_, rfl, s.sampleAnswer_only st l r⟩
  | toolPositionReport st k r => exact ⟨_, rfl, s.reportTool_only st k r⟩
  | toolApproachArrival st => exact ⟨_, rfl, s.approachArrives_only st⟩
  | toolBackoffArrival st => exact ⟨_, rfl, s.backoffArrives_only st⟩
  | revolutionPulse st => exact ⟨_, rfl, s.pulse_only st⟩
  | reset p => exact ⟨_, rfl, rfl, fun b hb => absurd (mem_allBlocks b) hb⟩

theorem only_of_exec {c : Instr} {s t : State} (h : exec c s = .next t) : Only (blocksOf c) s t := by
  obtain ⟨u, hu, honly⟩ := exec_only c s
  rw [h] at hu
  cases hu
  exact honly

/-- Settles O2: every row has a frame, which holds the queue of waiting commands fast. -/
theorem everyCommandAnswersNext : Obligations.EveryCommandAnswersNext := by
  unfold Obligations.EveryCommandAnswersNext
  intro c s
  obtain ⟨t, hexec, hpending, -⟩ := exec_only c s
  exact ⟨t, hexec, hpending⟩

/-! ### One step -/

theorem step_of_pending {c : Instr} {rest : List Instr} {s : State} (h : s.pending = c :: rest) :
    step s = exec c { s with pending := rest } := by
  unfold step
  rw [h]

theorem step_of_idle {s : State} (h : s.pending = []) : step s = .next s := by
  unfold step
  rw [h]

/-- Settles O1: the two branches of the step. -/
theorem stepCarriesOutFrontCommand : Obligations.StepCarriesOutFrontCommand :=
  ⟨fun _ _ _ h => step_of_pending h, fun _ h => step_of_idle h⟩

/-- A condition that does not read the queue of waiting commands and that every row keeps is kept by every step. -/
theorem step_keeps {P : State → Prop} (hpending : ∀ s rest, P s → P { s with pending := rest })
    (hexec : ∀ c s t, exec c s = .next t → P s → P t) {s t : State} (hs : P s) (hstep : step s = .next t) : P t := by
  cases hp : s.pending with
  | nil => rw [step_of_idle hp] at hstep; cases hstep; exact hs
  | cons c rest => rw [step_of_pending hp] at hstep; exact hexec c _ t hstep (hpending s rest hs)

/-! ### Conditions on some blocks -/

/-- A condition that reads nothing but the blocks of `l`. -/
def ReadsOnly (l : List Block) (P : State → Prop) : Prop := ∀ s t, (∀ b ∈ l, b.same s t) → P s → P t

theorem ReadsOnly.keeps {l m : List Block} {P : State → Prop} {s t : State} (hP : ReadsOnly l P)
    (h : Only m s t) (hlm : ∀ b ∈ l, b ∉ m) (hs : P s) : P t := hP s t (fun b hb => h.2 b (hlm b hb)) hs

/-- Whether a row may change a block of `l`. -/
def reaches (c : Instr) (l : List Block) : Bool := l.any fun b => decide (b ∈ blocksOf c)

theorem ReadsOnly.keeps_exec {l : List Block} {P : State → Prop} {c : Instr} {s t : State} (hP : ReadsOnly l P)
    (h : exec c s = .next t) (hc : reaches c l = false) (hs : P s) : P t := by
  refine hP.keeps (only_of_exec h) (fun b hb hmem => ?_) hs
  have hreach : reaches c l = true := List.any_eq_true.mpr ⟨b, hb, decide_eq_true hmem⟩
  simp [hc] at hreach

/-- A condition that the handling of a frame keeps: its acceptance, its taking, the breaking of a load and the
reply. -/
structure KeptByLink (P : State → Prop) : Prop where
  accept : ∀ s f, P s → P (s.acceptFrame f)
  take : ∀ s s1 f, s.takeFrame f = some s1 → P s → P s1
  breakLoad : ∀ s k, P s → P (s.breakLoad k)
  reply : ∀ s r, P s → P (s.putReply r)

theorem ReadsOnly.keptByLink {l : List Block} {P : State → Prop} (hP : ReadsOnly l P)
    (hl : ∀ b ∈ l, b ∉ hostBlocks) : KeptByLink P where
  accept s f := hP.keeps ((s.acceptFrame_only f).mono (by decide)) hl
  take _ _ _ h := hP.keeps ((State.takeFrame_only h).mono (by decide)) hl
  breakLoad s k := hP.keeps ((s.breakLoad_only k).mono (by decide)) hl
  reply s r := hP.keeps ((s.putReply_only r).mono (by decide)) hl

theorem KeptByLink.command {P : State → Prop} (hP : KeptByLink P) {α : Type} {kind tag : Byte}
    {payload : List Byte} {params : Except Code α} {keep : α → Option Ix} {owner : α → State → Answered} {s : State}
    (hs : P s) (howner : ∀ x s1, P s1 → P (owner x s1).state) :
    P (s.command kind tag payload params keep owner) := by
  cases htake : s.takeFrame ⟨kind, tag, payload⟩ with
  | none => rw [State.command_waits htake]; exact hP.accept s _ hs
  | some s1 =>
    have h1 : P s1 := hP.take s s1 _ htake hs
    cases params with
    | error c => rw [State.command_refused htake]; exact hP.reply s1 _ h1
    | ok x => rw [State.command_taken htake]; exact hP.reply _ _ (howner x _ (hP.breakLoad s1 _ h1))

/-! ### The reset state -/

theorem forall_ix {P : Ix → Prop} (h0 : P .i0) (h1 : P .i1) (h2 : P .i2) (h3 : P .i3) (i : Ix) : P i := by
  cases i <;> assumption

theorem forall_station {P : Station → Prop} (ha : P .a) (hb : P .b) (st : Station) : P st := by
  cases st <;> assumption

theorem reset_slotsServed : State.reset.slotsServed :=
  forall_ix (by decide) (by decide) (by decide) (by decide)

/-- Settles O60: each condition is checked on the reset state, index by index and station by station. -/
theorem resetMeetsEveryCondition : Obligations.ResetMeetsEveryCondition := by
  have hstations : State.reset.stationsInForm :=
    forall_station (by unfold CutStation.inForm; decide) (by unfold CutStation.inForm; decide)
  have hsafe : ∀ st, State.reset.stationSafe st :=
    forall_station (by unfold State.stationSafe; decide) (by unfold State.stationSafe; decide)
  refine ⟨by decide, by unfold State.listsBounded; decide, by unfold State.oneLoad; decide, fun _ _ => rfl, ?_,
    by unfold State.slotsDistinct; decide, reset_slotsServed, ?_, reset_slotsServed, hstations, hsafe⟩
  · intro c hc x hx
    have hareas : State.reset.capture.areas.toList = [[], [], [], []] := rfl
    have hempty : c = [] := by simpa [hareas] using hc
    simp [hempty] at hx
  · exact ⟨by unfold Lift.inForm; decide, by unfold Level.inForm; decide, by decide⟩

end Sys2Proof.Machine
end

section
/-! PROOFS. Conditions on the records, the FIFO, the context slots and the capture areas: the few operations through
which a command that opens, closes, binds or completes nothing reaches them, and the commands and events that therefore
keep every condition these operations keep. -/

namespace Sys2Proof.Machine

/-- A request that is the LOAD of a slot. -/
def Request.isLoad : Request → Bool
  | .load _ _ => true
  | _ => false

/-- A sample is UNSET, INVALID or a radius from 300,000 to 700,000 µm (R107). -/
def Sample.inRange : Sample → Prop
  | .unset => True
  | .invalid => True
  | .radius r => 300000 ≤ r ∧ r ≤ 700000

/-- A condition on the History Store, the Context Table and Capture Memory that survives the ordinary use of the three:
a request other than a LOAD joins the FIFO, the read window is spoiled, a slot's working copy is rewritten, a slot is
used, the measurement records become stale; a sweep goes on, its areas are cleared, and a pair of samples is written. -/
structure KeptByUse (P : State → Prop) : Prop where
  reads : ReadsOnly [.store, .context, .capture] P
  enqueue : ∀ s r, r.isLoad = false → P s → P (s.enqueue r)
  spoil : ∀ s n, P s → P (s.spoilWindow n)
  rewrite : ∀ s i w d, P s → P (s.setSlot i { s.slot i with working := w, dirty := d })
  touch : ∀ s i, P s → P (s.touchSlot i)
  stale : ∀ s, P s → P s.staleMeasurements
  putSweep : ∀ s st w, P s → P (s.putSweep st w)
  putRequest : ∀ s st r, P s → P (s.putRequest st r)
  putAngle : ∀ s st a, P s → P (s.putAngle st a)
  unset : ∀ s st, P s → P (s.mapAreas st fun _ => [])
  window : ∀ s st first last, P s → P (s.mapAreas st fun c => c.clearWindow first last)
  sample : ∀ s st a k (x : Pair Sample), x.l.inRange → x.r.inRange → P s → P (s.writePair st a k x)

namespace KeptByUse

variable {P : State → Prop} (hP : KeptByUse P)
include hP

/-! ### Operations that reach none of the three -/

theorem frame {m : List Block} {s t : State} (h : Only m s t) (hs : P s)
    (hm : ∀ b ∈ [Block.store, .context, .capture], b ∉ m) : P t := hP.reads.keeps h hm hs

omit hP in
/-- A condition that does not read Capture Memory need only survive the use of the store and the slots. -/
theorem of_records (reads : ReadsOnly [.store, .context] P)
    (enqueue : ∀ s r, r.isLoad = false → P s → P (s.enqueue r)) (spoil : ∀ s n, P s → P (s.spoilWindow n))
    (rewrite : ∀ s i w d, P s → P (s.setSlot i { s.slot i with working := w, dirty := d }))
    (touch : ∀ s i, P s → P (s.touchSlot i)) (stale : ∀ s, P s → P s.staleMeasurements) : KeptByUse P where
  reads := fun s t h => reads s t fun b hb =>
    h b ((show [Block.store, .context] ⊆ [.store, .context, .capture] by decide) hb)
  enqueue := enqueue
  spoil := spoil
  rewrite := rewrite
  touch := touch
  stale := stale
  putSweep s st w := reads.keeps (s.putSweep_only st w) (by decide)
  putRequest s st r := reads.keeps (s.putRequest_only st r) (by decide)
  putAngle s st a := reads.keeps (s.putAngle_only st a) (by decide)
  unset s st := reads.keeps (s.mapAreas_only st _) (by decide)
  window s st f l := reads.keeps (s.mapAreas_only st _) (by decide)
  sample s st a k x _ _ := reads.keeps (s.writePair_only st a k x) (by decide)

omit hP in
/-- A condition that reads Capture Memory alone need only survive the use of its areas. -/
theorem of_capture (reads : ReadsOnly [.capture] P)
    (putSweep : ∀ s st w, P s → P (s.putSweep st w)) (putRequest : ∀ s st r, P s → P (s.putRequest st r))
    (putAngle : ∀ s st a, P s → P (s.putAngle st a)) (unset : ∀ s st, P s → P (s.mapAreas st fun _ => []))
    (window : ∀ s st first last, P s → P (s.mapAreas st fun c => c.clearWindow first last))
    (sample : ∀ s st a k (x : Pair Sample), x.l.inRange → x.r.inRange → P s → P (s.writePair st a k x)) :
    KeptByUse P where
  reads := fun s t h => reads s t fun b hb => h b ((show [Block.capture] ⊆ [.store, .context, .capture] by decide) hb)
  enqueue s r _ := reads.keeps (s.enqueue_only r) (by decide)
  spoil s n := reads.keeps (s.spoilWindow_only n) (by decide)
  rewrite s i _ _ := reads.keeps (s.setSlot_only i _) (by decide)
  touch s i := reads.keeps (s.touchSlot_only i) (by decide)
  stale s := reads.keeps s.staleMeasurements_only (by decide)
  putSweep := putSweep
  putRequest := putRequest
  putAngle := putAngle
  unset := unset
  window := window
  sample := sample

theorem keptByLink : KeptByLink P := hP.reads.keptByLink (by decide)

variable {s : State} (hs : P s)
include hs

theorem putLift (l : Lift) (v : Level) : P (s.putLift l v) := hP.frame (s.putLift_only l v) hs (by decide)
theorem putCut (st : Station) (x : CutStation) : P (s.putCut st x) := hP.frame (s.putCut_only st x) hs (by decide)
theorem testStart : P s.testStart := hP.frame s.testStart_only hs (by decide)
theorem giveCause (c : CutCause) (st : Station) : P (s.giveCause c st) :=
  hP.frame (s.giveCause_only c st) hs (by decide)
theorem arriveAtRail : P s.arriveAtRail := hP.frame s.arriveAtRail_only hs (by decide)
theorem removePlan (st : Station) : P (s.removePlan st) := hP.frame (s.removePlan_only st) hs (by decide)
theorem driveApproach (st : Station) : P (s.driveApproach st) := hP.frame (s.driveApproach_only st) hs (by decide)
theorem driveTool (st : Station) (d : ToolDemand) : P (s.driveTool st d) :=
  hP.frame (s.driveTool_only st d) hs (by decide)
theorem driveRoller (st : Station) (d : RollerDemand) : P (s.driveRoller st d) :=
  hP.frame (s.driveRoller_only st d) hs (by decide)
theorem driveProbe (st : Station) (d : ProbeDemand) : P (s.driveProbe st d) :=
  hP.frame (s.driveProbe_only st d) hs (by decide)
theorem notify (src : Source) : P (s.notify src) := hP.frame (s.notify_only src) hs (by decide)
theorem sendHome (st : Station) : P (s.sendHome st) := hP.frame (s.sendHome_only st) hs (by decide)

/-! ### The store and the slots in use -/

theorem queueWrite (n : Nat) (i : Ix) : P (s.queueWrite n i) := by
  unfold State.queueWrite
  dsimp only
  split
  · exact hP.spoil s n hs
  · exact hP.enqueue _ _ rfl (hP.spoil s n hs)

theorem enqueueChange (n : Nat) {r : Request} (hr : r.isLoad = false) : P (s.enqueueChange n r) :=
  hP.enqueue _ r hr (hP.spoil s n hs)

theorem touchStation (st : Station) : P (s.touchStation st) := by
  unfold State.touchStation
  split
  · exact hP.touch s _ hs
  · exact hs

theorem rewriteBound (st : Station) (f : Record → Record) : P (s.rewriteBound st f) := by
  unfold State.rewriteBound
  split
  · exact hs
  · have hset := hP.rewrite s ‹Ix› ((s.slot ‹Ix›).working.map f) true hs
    dsimp only
    split
    · exact hP.queueWrite hset _ _
    · exact hset

/-! ### Sweeps -/

theorem stopSweepAxes (st : Station) : P (s.stopSweepAxes st) :=
  hP.driveProbe (hP.driveRoller (hP.putRequest s st _ hs) st _) st _

theorem pauseSweep (c : PauseCause) (st : Station) : P (s.pauseSweep c st) := by
  unfold State.pauseSweep
  split
  · exact hP.notify (hP.putSweep _ st _ (hP.stopSweepAxes hs st)) _
  · exact hs

theorem abandonSweep (st : Station) : P (s.abandonSweep st) := by
  unfold State.abandonSweep
  split
  · exact hP.notify (hP.putSweep _ st _ (hP.stopSweepAxes hs st)) _
  · exact hs

theorem abandonPaused (st : Station) : P (s.abandonPaused st) := by
  unfold State.abandonPaused
  split
  · exact hP.abandonSweep hs st
  · exact hs

theorem beginIndexing (st : Station) (w : Sweep) : P (s.beginIndexing st w) :=
  hP.driveRoller (hP.putSweep s st _ hs) st _

theorem setUpSweep (st : Station) (first last : Nat) (mode : SweepMode) : P (s.setUpSweep st first last mode) := by
  unfold State.setUpSweep
  refine hP.notify (hP.beginIndexing ?_ st _) _
  cases mode with
  | fresh => exact hP.unset s st hs
  | merge => exact hP.window s st first last hs

theorem sweep (x : SweepParams) : P (s.sweep x).state := by
  unfold State.sweep
  dsimp only
  split
  · exact hs
  · exact hP.touchStation (hP.setUpSweep (hP.abandonPaused hs _) _ _ _ _) _

theorem sweepContinue (st : Station) : P (s.sweepContinue st).state := by
  unfold State.sweepContinue
  split
  · exact hs
  · split
    · exact hP.touchStation (hP.notify (hP.beginIndexing hs st _) _) st
    · exact hP.touchStation (hP.setUpSweep hs st _ _ _) st

theorem sweepStop (st : Station) : P (s.sweepStop st).state := by
  unfold State.sweepStop
  split
  · exact hP.touchStation (hP.testStart (hP.pauseSweep hs _ st)) st
  · split
    · exact hP.touchStation (hP.abandonSweep hs st) st
    · exact hs

theorem awaitPosition (st : Station) (w : Sweep) : P (s.awaitPosition st w) :=
  hP.driveProbe (hP.putSweep s st _ hs) st _

theorem rollerArrives (st : Station) (angle : Nat) : P (s.rollerArrives st angle) := by
  unfold State.rollerArrives
  dsimp only
  split
  · exact hP.awaitPosition (hP.putAngle s st angle hs) st _
  · exact hP.putAngle s st angle hs

theorem carriageArrives (st : Station) : P (s.carriageArrives st) := by
  unfold State.carriageArrives
  dsimp only
  split
  · exact hP.putRequest _ st _ (hP.putSweep s st _ hs)
  · exact hs

omit hP hs in
theorem composeSample_inRange (base : Option Int) (correction : Int) (d : Reading) :
    (composeSample base correction d).inRange := by
  unfold composeSample
  split
  · dsimp only
    split
    · trivial
    · next hin => simp only [Config.radiusMin, Config.radiusMax, not_or, not_lt] at hin; exact hin
  · trivial

theorem advance (st : Station) (w : Sweep) (r : SweepRun) : P (s.advance st w r) := by
  unfold State.advance
  dsimp only
  split
  · exact hP.awaitPosition hs st _
  · split
    · exact hP.beginIndexing hs st _
    · exact hP.testStart (hP.notify (hP.driveProbe (hP.putSweep s st _ hs) st _) _)

theorem takeSample (st : Station) (l r : Reading) : P (s.takeSample st l r) := by
  unfold State.takeSample
  dsimp only
  split
  · exact hP.advance (hP.sample _ st _ _ _ (composeSample_inRange _ _ l) (composeSample_inRange _ _ r)
      (hP.putRequest s st _ hs)) st _ _
  · exact hP.putRequest s st _ hs

theorem sampleAnswer (st : Station) (l r : Reading) : P (s.sampleAnswer st l r) := by
  unfold State.sampleAnswer
  split
  · exact hs
  · exact hP.putRequest s st _ hs
  · split
    · exact hP.takeSample hs st l r
    · exact hP.putRequest s st _ hs

/-! ### Level maintenance -/

theorem testUrgent : P s.testUrgent := by
  unfold State.testUrgent
  split
  · exact hP.pauseSweep (hP.pauseSweep (hP.giveCause (hP.giveCause (hP.putLift hs _ _) _ .a) _ .b) _ .a) _ .b
  · exact hs

theorem enterRaised : P s.enterRaised := hP.testStart (hP.testUrgent (hP.putLift hs _ _))

theorem testRelease : P s.testRelease := by
  unfold State.testRelease
  split
  · exact hP.enterRaised (hP.putLift hs _ _)
  · exact hs

theorem testPressure : P s.testPressure := by
  unfold State.testPressure
  split
  · exact hP.testRelease (hP.putLift hs _ _)
  · exact hs

theorem beginUnparking : P s.beginUnparking := hP.testPressure (hP.putLift hs _ _)

theorem unpark : P s.unpark.state := by
  unfold State.unpark
  repeat' split
  all_goals first
    | exact hs
    | exact hP.putLift hs _ _
    | exact hP.beginUnparking hs

theorem intervalExpires : P s.intervalExpires := by
  unfold State.intervalExpires
  split
  · dsimp only
    split
    · exact hP.testStart (hP.testUrgent (hP.putLift hs _ _))
    · exact hP.putLift hs _ _
  · exact hs

theorem dwellExpires : P s.dwellExpires := by
  unfold State.dwellExpires
  dsimp only
  split
  · split
    · exact hP.beginUnparking (hP.putLift hs _ _)
    · exact hP.putLift hs _ _
  · exact hs

theorem guardFalls : P s.guardFalls :=
  hP.testStart (hP.pauseSweep (hP.pauseSweep (hP.giveCause (hP.giveCause hs _ .a) _ .b) _ .a) _ .b)

/-! ### Cutting -/

theorem treatCut (st : Station) : P (s.treatCut st) := hP.removePlan (hP.rewriteBound hs st _) st

theorem completeAbort (st : Station) : P (s.completeAbort st) := by
  unfold State.completeAbort
  refine hP.putCut ?_ st _
  split
  · exact hP.treatCut hs st
  · exact hs

theorem completeCut (st : Station) : P (s.completeCut st) :=
  hP.putCut (hP.removePlan (hP.rewriteBound hs st _) st) st _

theorem testHome (st : Station) : P (s.testHome st) := by
  unfold State.testHome
  split
  · split
    · exact hP.completeCut hs st
    · exact hP.completeAbort hs st
    · exact hs
  · exact hs

theorem enterAborting (k : AbortKind) (st : Station) : P (s.enterAborting k st) := by
  unfold State.enterAborting
  have hput := hP.putCut hs st { s.cut st with state := .aborting, abortKind := k, holds := CutCauses.empty }
  refine hP.testHome ?_ st
  split
  · exact hP.sendHome hput st
  · exact hP.driveTool hput st _

theorem stopStation (st : Station) : P (s.stopStation st) := by
  unfold State.stopStation
  dsimp only
  split
  · exact hs
  · refine hP.driveRoller (hP.driveTool (hP.putCut ?_ st _) st _) st _
    split
    · exact hP.treatCut hs st
    · exact hs

theorem startCut (st : Station) (i : Ix) (p : Plan) : P (s.startCut st i p) := by
  unfold State.startCut
  have hplan := hP.frame (s.putPlan_only st (some { p with inExecution := true, passIndex := 1 })) hs (by decide)
  exact hP.touchStation (hP.driveApproach (hP.putCut (hP.driveRoller (hP.rewriteBound (hP.putCut hplan st _) st _)
    st _) st _) st) st

theorem cutStart (x : Station × Bool) : P (s.cutStart x).state := by
  unfold State.cutStart
  split
  · exact hs
  · exact hs
  · split
    · exact hs
    · exact hP.startCut hs _ _ _

theorem feedHold (st : Station) : P (s.feedHold st).state := by
  unfold State.feedHold
  split
  · exact hP.touchStation (hP.giveCause hs _ st) st
  · exact hs

theorem resumeCut (st : Station) : P (s.resumeCut st).state := by
  unfold State.resumeCut
  dsimp only
  repeat' split
  all_goals first
    | exact hs
    | exact hP.touchStation (hP.frame (State.leaveHeld_only _ st) (hP.putCut hs st _) (by decide)) st

theorem cutAbort (st : Station) : P (s.cutAbort st).state := by
  unfold State.cutAbort
  have hleft : P (s.enterAborting .cut st) := hP.enterAborting hs .cut st
  split
  · exact hP.touchStation (hP.testStart hleft) st
  · exact hP.touchStation (hP.testStart hleft) st
  · exact hP.touchStation (hP.testStart hleft) st
  · exact hP.touchStation hleft st
  · exact hP.touchStation hs st
  · split
    · exact hP.touchStation (hP.enterAborting hs .recovery st) st
    · exact hs
  · exact hs
  · exact hs

theorem endPass (st : Station) : P (s.endPass st) := by
  have hlast (x : CutStation) : P (((((s.putCut st x).sendHome st).testHome st).testStart)) :=
    hP.testStart (hP.testHome (hP.sendHome (hP.putCut hs st x) st) st)
  unfold State.endPass
  dsimp only
  split
  · split
    · exact hP.driveApproach (hP.putCut (hP.frame (s.putPlan_only st _) hs (by decide)) st _) st
    · exact hlast _
  · exact hlast _

theorem pulse (st : Station) : P (s.pulse st) := by
  unfold State.pulse
  dsimp only
  split
  · split
    · exact hP.endPass hs st
    · exact hP.putCut hs st _
  · exact hs

/-! ### The lift -/

theorem departRaised : P s.departRaised :=
  hP.pauseSweep (hP.pauseSweep (hP.frame (State.markDeparted_only _) (hP.stale _
    (hP.giveCause (hP.giveCause (hP.putLift hs _ _) .lift .a) .lift .b)) (by decide)) .lift .a) .lift .b

theorem enterLeg (m : Move) : P (s.enterLeg m) := by
  unfold State.enterLeg
  split
  · exact hs
  · refine hP.arriveAtRail ?_
    split
    · exact hP.departRaised (hP.putLift hs _ _)
    · exact hP.putLift hs _ _

theorem moveStart (target : Int) (raise : Bool) : P (s.moveStart target raise) := by
  unfold State.moveStart
  split
  · exact hs
  · exact hP.enterLeg hs _

theorem testBridges : P s.testBridges := by
  unfold State.testBridges
  split
  · split
    · exact hP.enterLeg hs _
    · exact hs
  · split
    · exact hP.enterLeg hs _
    · exact hs
  · exact hs

theorem endLeg : P s.endLeg := by
  unfold State.endLeg
  split
  · exact hs
  · dsimp only
    split
    · exact hP.testBridges (hP.putLift hs _ _)
    · split
      · exact hP.enterRaised (hP.putLift hs _ _)
      · exact hP.arriveAtRail hs

theorem enterHold (c : LiftCause) : P (s.enterHold c) := by
  unfold State.enterHold
  dsimp only
  split
  · exact hP.departRaised (hP.putLift hs _ _)
  · exact hP.putLift hs _ _

theorem enterFault (c : FaultCause) : P (s.enterFault c) := by
  unfold State.enterFault
  dsimp only
  split
  · exact hP.departRaised (hP.putLift hs _ _)
  · exact hP.putLift hs _ _

theorem giveLiftCause (c : LiftCause) : P (s.giveLiftCause c) := by
  have hadd : P (s.addLiftCause c) := hP.putLift hs _ _
  have hhold : P (s.enterHold c) := hP.enterHold hs c
  have hcancel : P s.cancelUnpark := hP.putLift hs _ _
  unfold State.giveLiftCause
  split
  all_goals first
    | assumption
    | (split <;> assumption)

theorem raiseEffect (h : Int) : P (s.raiseEffect h) := by
  unfold State.raiseEffect
  split
  · exact hP.putLift hs _ _
  · exact hP.enterLeg hs _
  · exact hP.moveStart hs h true

theorem raiseLift (h : Int) : P (s.raiseLift h).state := by
  unfold State.raiseLift
  dsimp only
  split
  · exact hs
  · exact hP.raiseEffect hs _

theorem lowerEffect : P s.lowerEffect := by
  unfold State.lowerEffect
  split
  · exact hs
  · exact hP.enterLeg hs _
  · exact hP.moveStart hs 0 false

theorem lowerLift : P s.lowerLift.state := by
  unfold State.lowerLift
  split
  · exact hs
  · split
    · exact hs
    · exact hP.lowerEffect hs

theorem stopLift : P s.stopLift.state := by
  unfold State.stopLift
  split
  · exact hs
  · exact hP.giveLiftCause hs .host

theorem resumeLift : P s.resumeLift.state := by
  unfold State.resumeLift
  split
  · exact hs
  · split
    · exact hs
    · split
      · repeat' split
        all_goals first
          | exact hs
          | exact hP.enterLeg hs _
      · split
        · exact hP.enterRaised (hP.putLift hs _ _)
        · exact hs

theorem reportLift (w : Wheel) (h : Nat) : P (s.reportLift w h) := by
  unfold State.reportLift
  dsimp only
  split
  · split
    · exact hP.enterFault (hP.putLift hs _ _) .trip
    · exact hP.arriveAtRail (hP.putLift hs _ _)
  · exact hP.putLift hs _ _

theorem arrival : P s.arrival := by
  unfold State.arrival
  split
  · split
    · exact hP.endLeg hs
    · exact hs
  · split
    · exact hP.endLeg hs
    · exact hs
  · split
    · exact hP.testStart (hP.frame (s.completeRelevel_only true) hs (by decide))
    · exact hs
  · exact hs

theorem liftArrives (w : Wheel) : P (s.liftArrives w) := by
  unfold State.liftArrives
  dsimp only
  split
  · exact hs
  · exact hP.arrival (hP.putLift hs _ _)

theorem moveTimesOut : P s.moveTimesOut := by
  unfold State.moveTimesOut
  split
  · exact hs
  · exact hP.enterFault hs .timeout

theorem park : P s.park.state := by
  unfold State.park
  repeat' split
  all_goals first
    | exact hs
    | exact hP.frame (State.testEngage_only _) (hP.departRaised (hP.putLift hs _ _)) (by decide)

/-! ### The inputs and the silence supervisor -/

theorem estopFalls : P s.estopFalls :=
  hP.testStart (hP.abandonSweep (hP.abandonSweep (hP.stopStation (hP.stopStation (hP.giveLiftCause hs .estop) .a) .b)
    .a) .b)

theorem holddownFalls (st : Station) : P (s.holddownFalls st) := by
  have haborted : P (s.enterAborting .cut st) := hP.enterAborting hs .cut st
  unfold State.holddownFalls
  split
  all_goals first
    | exact hP.testStart haborted
    | exact haborted
    | exact hs

theorem locksFall : P s.locksFall := by
  unfold State.locksFall
  split
  · exact hP.enterFault hs .lockLost
  · split
    · exact hP.enterFault hs .lockLost
    · exact hP.testRelease hs
  · exact hs

theorem handOut (i : Input) (rise : Bool) : P (s.handOut i rise) := by
  unfold State.handOut
  split
  all_goals first
    | exact hs
    | exact hP.estopFalls hs
    | exact hP.giveLiftCause hs _
    | exact hP.testPressure hs
    | exact hP.guardFalls hs
    | exact hP.testBridges hs
    | exact hP.holddownFalls hs _
    | exact hP.testHome hs _
    | exact hP.locksFall hs
    | exact hP.frame s.testEngage_only hs (by decide)

theorem debounceExpires (i : Input) : P (s.debounceExpires i) := by
  unfold State.debounceExpires
  split
  · exact hs
  · exact hP.handOut (hP.frame (s.acceptLevel_only i) hs (by decide)) i _

theorem silenceExpires : P s.silenceExpires := by
  unfold State.silenceExpires
  split
  · refine hP.testStart (hP.pauseSweep (hP.pauseSweep (hP.giveCause (hP.giveCause (hP.giveLiftCause ?_ .silence) _ .a)
      _ .b) _ .a) _ .b)
    exact hP.reads _ _ (fun b hb => by cases b <;> first | rfl | exact absurd hb (by decide)) hs
  · exact hs

/-! ### Commands that use a slot -/

theorem probeReference (st : Station) : P (s.probeReference st).state := by
  unfold State.probeReference
  dsimp only
  split
  · exact hs
  split
  · exact hs
  split
  · exact hs
  split
  · exact hs
  split
  · exact hs
  · exact hP.touchStation (hP.driveProbe (hP.frame (s.putProbe_only st _) hs (by decide)) st _) st

theorem calibrateOn (st : Station) : P (s.calibrateOn st).state := by
  unfold State.calibrateOn
  dsimp only
  split
  · exact hP.touchStation hs st
  split
  · exact hs
  split
  · exact hs
  · exact hP.touchStation (hP.frame (s.putProbe_only st _) hs (by decide)) st

theorem calibrateMeasure (st : Station) : P (s.calibrateMeasure st).state := by
  unfold State.calibrateMeasure
  dsimp only
  split
  · exact hs
  split
  · exact hs
  split
  · exact hs
  split
  · exact hs
  · exact hP.touchStation (hP.driveProbe (hP.notify (hP.frame (s.putProbe_only st _) hs (by decide)) _) st _) st

theorem calibrateOff (st : Station) : P (s.calibrateOff st).state := by
  unfold State.calibrateOff
  dsimp only
  split
  · exact hP.touchStation hs st
  split
  · exact hP.touchStation (hP.frame (s.putProbe_only st _) hs (by decide)) st
  · exact hP.touchStation (hP.driveProbe (hP.notify (hP.frame (s.putProbe_only st _) hs (by decide)) _) st _) st

theorem readProfile (x : ReadProfileParams) : P (s.readProfile x).state := hP.touchStation hs _

theorem makePlan (source : PlanSource) (st : Station) (form : CutTable → Int → Except Code (List Int)) :
    P (s.makePlan source st form).state := by
  unfold State.makePlan
  repeat' split
  all_goals first
    | exact hs
    | exact hP.touch _ _ (hP.frame (s.putPlan_only st _) hs (by decide))

theorem readMeasurement (st : Station) : P (s.readMeasurement st).state := by
  unfold State.readMeasurement
  repeat' split
  all_goals first
    | exact hs
    | exact hP.touch s _ hs

theorem logMeasurement (st : Station) : P (s.logMeasurement st).state := by
  unfold State.logMeasurement
  dsimp only
  repeat' split
  all_goals first
    | exact hs
    | exact hP.touch _ _ (hP.rewrite s _ _ true hs)

theorem setCut (x : CutTable) : P (s.setCut x).state := by
  unfold State.setCut
  split
  · refine hP.frame (State.removeIdlePlan_only _ .b) (hP.frame (State.removeIdlePlan_only _ .a) (hP.stale _ ?_)
      (by decide)) (by decide)
    exact hP.reads _ _ (fun b hb => by cases b <;> first | rfl | exact absurd hb (by decide)) hs
  · exact hs

/-! ### Commands that queue a request -/

theorem enrol (tag : Byte) (x : EnrolParams) : P (s.enrol tag x).state := by
  unfold State.enrol
  repeat' split
  all_goals first
    | exact hs
    | exact hP.enqueueChange hs _ rfl

theorem amend (tag : Byte) (x : AmendParams) : P (s.amend tag x).state := by
  unfold State.amend
  dsimp only
  repeat' split
  all_goals first
    | exact hs
    | exact hP.enqueueChange hs _ rfl
    | exact hP.touch _ _ (hP.rewrite s _ _ true hs)

theorem retire (tag : Byte) (n : Nat) : P (s.retire tag n).state := by
  unfold State.retire
  repeat' split
  all_goals first
    | exact hs
    | exact hP.enqueueChange hs _ rfl

theorem readRecord (tag : Byte) (x : Nat × RecordPart) : P (s.readRecord tag x).state := by
  unfold State.readRecord
  dsimp only
  repeat' split
  all_goals first
    | exact hs
    | exact hP.touch s _ hs
    | exact hP.enqueue s _ rfl hs

theorem measure : P s.measure.state := by
  unfold State.measure
  split
  · exact hs
  · refine hP.notify (hP.enqueue _ _ rfl ?_) _
    exact hP.reads _ _ (fun b hb => by cases b <;> first | rfl | exact absurd hb (by decide)) hs

end KeptByUse

/-! ### The rows -/

/-- The rows that do more with the store or the slots than use them: they open, close, bind or complete, empty a
result list, or reset. -/
def changesRecords : Instr → Bool
  | .openRecord _ _ => true
  | .closeRecord _ _ => true
  | .bind _ _ => true
  | .unbind _ _ => true
  | .headerScanComplete => true
  | .loadComplete => true
  | .writeComplete => true
  | .readComplete => true
  | .enrolComplete => true
  | .amendComplete => true
  | .retireComplete => true
  | .searchComplete => true
  | .noticeFrameStart => true
  | .reset _ => true
  | _ => false

/-- Every row but those keeps a condition that survives the use of the store and the slots. -/
theorem KeptByUse.exec {P : State → Prop} (hP : KeptByUse P) {c : Instr} {s t : State}
    (hc : changesRecords c = false) (h : exec c s = .next t) (hs : P s) : P t := by
  cases c with
  | setCut _ _ => cases h; exact hP.keptByLink.command hs fun x _ h1 => hP.setCut h1 x
  | raise _ _ => cases h; exact hP.keptByLink.command hs fun x _ h1 => hP.raiseLift h1 x
  | probeReference _ _ => cases h; exact hP.keptByLink.command hs fun x _ h1 => hP.probeReference h1 x
  | calibrateOn _ _ => cases h; exact hP.keptByLink.command hs fun x _ h1 => hP.calibrateOn h1 x
  | calibrateMeasure _ _ => cases h; exact hP.keptByLink.command hs fun x _ h1 => hP.calibrateMeasure h1 x
  | calibrateOff _ _ => cases h; exact hP.keptByLink.command hs fun x _ h1 => hP.calibrateOff h1 x
  | sweep _ _ => cases h; exact hP.keptByLink.command hs fun x _ h1 => hP.sweep h1 x
  | sweepContinue _ _ => cases h; exact hP.keptByLink.command hs fun x _ h1 => hP.sweepContinue h1 x
  | sweepStop _ _ => cases h; exact hP.keptByLink.command hs fun x _ h1 => hP.sweepStop h1 x
  | readProfile _ _ => cases h; exact hP.keptByLink.command hs fun x _ h1 => hP.readProfile h1 x
  | readMeasurement _ _ => cases h; exact hP.keptByLink.command hs fun x _ h1 => hP.readMeasurement h1 x
  | logMeasurement _ _ => cases h; exact hP.keptByLink.command hs fun x _ h1 => hP.logMeasurement h1 x
  | cutStart _ _ => cases h; exact hP.keptByLink.command hs fun x _ h1 => hP.cutStart h1 x
  | feedHold _ _ => cases h; exact hP.keptByLink.command hs fun x _ h1 => hP.feedHold h1 x
  | resume _ _ => cases h; exact hP.keptByLink.command hs fun x _ h1 => hP.resumeCut h1 x
  | cutAbort _ _ => cases h; exact hP.keptByLink.command hs fun x _ h1 => hP.cutAbort h1 x
  | lower _ _ => cases h; exact hP.keptByLink.command hs fun _ _ h1 => hP.lowerLift h1
  | liftStop _ _ => cases h; exact hP.keptByLink.command hs fun _ _ h1 => hP.stopLift h1
  | liftResume _ _ => cases h; exact hP.keptByLink.command hs fun _ _ h1 => hP.resumeLift h1
  | park _ _ => cases h; exact hP.keptByLink.command hs fun _ _ h1 => hP.park h1
  | measure _ _ => cases h; exact hP.keptByLink.command hs fun _ _ h1 => hP.measure h1
  | enrol tag _ => cases h; exact hP.keptByLink.command hs fun x _ h1 => hP.enrol h1 tag x
  | amend tag _ => cases h; exact hP.keptByLink.command hs fun x _ h1 => hP.amend h1 tag x
  | retire tag _ => cases h; exact hP.keptByLink.command hs fun x _ h1 => hP.retire h1 tag x
  | readRecord tag _ => cases h; exact hP.keptByLink.command hs fun x _ h1 => hP.readRecord h1 tag x
  | planAuto _ _ => cases h; exact hP.keptByLink.command hs fun _ _ h1 => hP.makePlan h1 _ _ _
  | planPasses _ _ => cases h; exact hP.keptByLink.command hs fun _ _ h1 => hP.makePlan h1 _ _ _
  | liftPositionReport w h => cases h; exact hP.reportLift hs w h
  | liftInPosition w => cases h; exact hP.liftArrives hs w
  | moveTimeout => cases h; exact hP.moveTimesOut hs
  | unpark _ _ => cases h; exact hP.keptByLink.command hs fun _ _ h1 => hP.unpark h1
  | intervalExpiry => cases h; exact hP.intervalExpires hs
  | dwellExpiry => cases h; exact hP.dwellExpires hs
  | rollerAngleReport st a => cases h; exact hP.putAngle s st a hs
  | rollerInPosition st a => cases h; exact hP.rollerArrives hs st a
  | sweepCarriageInPosition st => cases h; exact hP.carriageArrives hs st
  | sampleAnswer st l r => cases h; exact hP.sampleAnswer hs st l r
  | debounceExpiry i => cases h; exact hP.debounceExpires hs i
  | silenceExpiry => cases h; exact hP.silenceExpires hs
  | revolutionPulse st => cases h; exact hP.pulse hs st
  | _ =>
    first
    | exact hP.reads.keeps_exec h rfl hs
    | exact nomatch hc
end Sys2Proof.Machine
end

section
/-! PROOFS. Every step keeps the addressed lists canonical, the lists of bounded length bounded, the FIFO served, one
load at most and the samples in range. -/

namespace Sys2Proof.Machine

/-! ### Values held four times over -/

theorem Four.forall_toList {α : Type} (f : Four α) (Q : α → Prop) :
    (∀ x ∈ f.toList, Q x) ↔ ∀ i, Q (f.get i) := by
  simp only [Four.toList, List.forall_mem_cons, List.not_mem_nil, false_implies, implies_true, and_true]
  exact ⟨fun ⟨h0, h1, h2, h3⟩ => forall_ix h0 h1 h2 h3, fun h => ⟨h .i0, h .i1, h .i2, h .i3⟩⟩

theorem Four.forall_get_set {α : Type} {f : Four α} {Q : α → Prop} (hf : ∀ i, Q (f.get i)) (i : Ix) {v : α}
    (hv : Q v) (j : Ix) : Q ((f.set i v).get j) := by
  by_cases hj : j = i
  · rw [hj, Four.get_set_same]; exact hv
  · rw [Four.get_set_other f v hj]; exact hf j

/-! ### Commands of the host through the link -/

/-- Whether the owner of a command of the host may change a block of `l`: the blocks of its row but the link and the
load that the taking of the frame may change. -/
def ownerReaches (c : Instr) (l : List Block) : Bool := l.any fun b => decide (b ∈ (blocksOf c).drop hostBlocks.length)

/-- A command of the host keeps a condition that the handling of its frame keeps and its owner does not reach. -/
theorem KeptByLink.exec_command {l : List Block} {P : State → Prop} (hP : KeptByLink P) (reads : ReadsOnly l P)
    {c : Instr} {s t : State} (h : exec c s = .next t) (hframe : c.frame.isSome = true)
    (hc : ownerReaches c l = false) (hs : P s) : P t := by
  have hcommand {α : Type} {m : List Block} {kind tag : Byte} {payload : List Byte} {params : Except Code α}
      {keep : α → Option Ix} {owner : α → State → Answered}
      (hm : (l.any fun b => decide (b ∈ m)) = false) (howner : ∀ x s1, Only m s1 (owner x s1).state) :
      P (s.command kind tag payload params keep owner) := by
    refine hP.command hs fun x s1 h1 => reads.keeps (howner x s1) (fun b hb hmem => ?_) h1
    have hany : (l.any fun b => decide (b ∈ m)) = true := List.any_eq_true.mpr ⟨b, hb, decide_eq_true hmem⟩
    simp [hm] at hany
  cases c with
  | status _ _ => cases h; exact hcommand hc fun x s1 => s1.status_only x
  | setLink _ _ => cases h; exact hcommand hc fun x s1 => s1.setLink_only x
  | enrol tag _ => cases h; exact hcommand hc fun x s1 => s1.enrol_only tag x
  | amend tag _ => cases h; exact hcommand hc fun x s1 => s1.amend_only tag x
  | retire tag _ => cases h; exact hcommand hc fun x s1 => s1.retire_only tag x
  | readRecord tag _ => cases h; exact hcommand hc fun x s1 => s1.readRecord_only tag x
  | openRecord _ _ => cases h; exact hcommand hc fun x s1 => s1.openRecord_only x
  | closeRecord _ _ => cases h; exact hcommand hc fun x s1 => s1.closeRecord_only x
  | bind _ _ => cases h; exact hcommand hc fun x s1 => s1.bindStation_only x
  | unbind _ _ => cases h; exact hcommand hc fun x s1 => s1.unbindStation_only x
  | logMeasurement _ _ => cases h; exact hcommand hc fun x s1 => s1.logMeasurement_only x
  | raise _ _ => cases h; exact hcommand hc fun x s1 => s1.raiseLift_only x
  | lower _ _ => cases h; exact hcommand hc fun _ s1 => s1.lowerLift_only
  | liftStop _ _ => cases h; exact hcommand hc fun _ s1 => s1.stopLift_only
  | liftResume _ _ => cases h; exact hcommand hc fun _ s1 => s1.resumeLift_only
  | faultClear _ _ => cases h; exact hcommand hc fun _ s1 => s1.clearFault_only
  | park _ _ => cases h; exact hcommand hc fun _ s1 => s1.park_only
  | unpark _ _ => cases h; exact hcommand hc fun _ s1 => s1.unpark_only
  | probeReference _ _ => cases h; exact hcommand hc fun x s1 => s1.probeReference_only x
  | calibrateOn _ _ => cases h; exact hcommand hc fun x s1 => s1.calibrateOn_only x
  | calibrateMeasure _ _ => cases h; exact hcommand hc fun x s1 => s1.calibrateMeasure_only x
  | calibrateOff _ _ => cases h; exact hcommand hc fun x s1 => s1.calibrateOff_only x
  | sweep _ _ => cases h; exact hcommand hc fun x s1 => s1.sweep_only x
  | sweepContinue _ _ => cases h; exact hcommand hc fun x s1 => s1.sweepContinue_only x
  | sweepStop _ _ => cases h; exact hcommand hc fun x s1 => s1.sweepStop_only x
  | readProfile _ _ => cases h; exact hcommand hc fun x s1 => s1.readProfile_only x
  | measure _ _ => cases h; exact hcommand hc fun _ s1 => s1.measure_only
  | readMeasurement _ _ => cases h; exact hcommand hc fun x s1 => s1.readMeasurement_only x
  | planAuto _ _ => cases h; exact hcommand hc fun x s1 => s1.planAuto_only x
  | planPasses _ _ => cases h; exact hcommand hc fun x s1 => s1.planPasses_only x
  | cutStart _ _ => cases h; exact hcommand hc fun x s1 => s1.cutStart_only x
  | feedHold _ _ => cases h; exact hcommand hc fun x s1 => s1.feedHold_only x
  | resume _ _ => cases h; exact hcommand hc fun x s1 => s1.resumeCut_only x
  | cutAbort _ _ => cases h; exact hcommand hc fun x s1 => s1.cutAbort_only x
  | setPit _ _ => cases h; exact hcommand hc fun x s1 => s1.setPit_only x
  | setCut _ _ => cases h; exact hcommand hc fun x s1 => s1.setCut_only x
  | profileBegin _ _ => cases h; exact hcommand hc fun x s1 => s1.profileBegin_only x
  | profileData _ _ => cases h; exact hcommand hc fun x s1 => s1.profileData_only x
  | profileResume _ _ => cases h; exact hcommand hc fun x s1 => s1.profileResume_only x
  | unknownKind kind tag payload =>
    cases h
    split
    · exact hs
    · unfold State.unknownFrame
      split
      · exact hP.accept s _ hs
      · next htake => exact hP.reply _ _ (hP.take s _ _ htake hs)
  | _ => exact nomatch hframe

/-! ### Conditions on the History Store alone -/

/-- A condition on the History Store that survives every operation on it. -/
structure KeptByStore (Q : Store → Prop) : Prop where
  enqueue : ∀ s r, Q s.store → Q (State.enqueue r s).store
  spoil : ∀ s n, Q s.store → Q (State.spoilWindow n s).store
  endService : ∀ s : State, Q s.store → Q s.endService.store
  scan : ∀ s : State, Q s.store → Q (s.mapStore fun st => { st with scanned := true, table := st.scanTable }).serve.store
  setPlace : ∀ st k p, Q st → Q (st.setPlace k p)
  setItem : ∀ st k x, Q st → Q (st.setItem k x)
  setWindow : ∀ st w, Q st → Q { st with window := w }
  mark : ∀ st, Q st → Q st.markFailing
  addResult : ∀ st r b, Q st → Q { st with results := addResult st.results r, resultsLost := b }
  noResults : ∀ st, Q st → Q { st with results := [], resultsLost := false }
  reset : ∀ st b, Q st → Q (Store.reset (st.placesAfterReset b))

namespace KeptByStore

variable {Q : Store → Prop} (hQ : KeptByStore Q)

theorem reads : ReadsOnly [.store] fun s => Q s.store := fun s t h hs => by
  have hstore : t.store = s.store := h .store (by decide)
  show Q t.store
  rw [hstore]
  exact hs

include hQ

theorem keptByUse : KeptByUse fun s => Q s.store :=
  KeptByUse.of_records
    (fun s t h => reads s t fun b hb => h b ((show [Block.store] ⊆ [.store, .context] by decide) hb))
    (fun s r _ => hQ.enqueue s r) hQ.spoil (fun s i _ _ h => reads.keeps (s.setSlot_only i _) (by decide) h)
    (fun s i h => reads.keeps (s.touchSlot_only i) (by decide) h)
    (fun s h => reads.keeps s.staleMeasurements_only (by decide) h)

/-! #### OPEN and CLOSE -/

variable {s : State} (hs : Q s.store)
include hs

theorem openInto (x : OpenParams) (code : Code) : Q (s.openInto x code).state.store := by
  have hload (i : Ix) : Q (s.beginLoad i x).store := hQ.enqueue _ _ hs
  have hevict (i : Ix) (n : Nat) : Q (s.beginEviction i n x).store := by
    refine hQ.enqueue _ _ (hQ.keptByUse.queueWrite ?_ n i)
    exact hs
  unfold State.openInto
  dsimp only
  repeat' split
  all_goals first
    | exact hs
    | exact hload _
    | exact hevict _ _

theorem openRecord (x : OpenParams) : Q (s.openRecord x).state.store := by
  unfold State.openRecord
  dsimp only
  repeat' split
  all_goals first
    | exact hs
    | exact hQ.openInto hs _ _

theorem closeRecord (n : Nat) : Q (s.closeRecord n).state.store := by
  unfold State.closeRecord
  dsimp only
  repeat' split
  all_goals first
    | exact hs
    | (refine hQ.keptByUse.queueWrite ?_ n _; exact hs)

/-! #### Completions -/

theorem addStoreResult (r : StoreResult) : Q (s.addStoreResult r).store := hQ.addResult s.store r _ hs

theorem completeRead (n : Nat) (tag : Byte) : Q (s.completeRead n tag).store := by
  unfold State.completeRead
  split
  · exact hQ.addStoreResult (by exact hQ.setWindow s.store _ hs) _
  · exact hQ.addStoreResult (by exact hQ.setItem s.store _ _ hs) _
  · exact hQ.addStoreResult hs _

theorem completeEnrol (n : Nat) (r : Record) (k : Nat) (tag : Byte) : Q (s.completeEnrol n r k tag).store :=
  hQ.addStoreResult (by exact hQ.setItem _ k _ (hQ.setPlace s.store k _ hs)) _

theorem rewrite (k : Nat) (r : Record) : Q (s.store.rewrite k r) := hQ.setItem _ k _ (hQ.setPlace s.store k _ hs)

theorem completeAmend (n : Nat) (c : Changes) (tag : Byte) : Q (s.completeAmend n c tag).store := by
  unfold State.completeAmend
  split
  · exact hQ.addStoreResult (by exact hQ.rewrite hs _ _) _
  · exact hQ.addStoreResult (by exact hQ.setItem s.store _ _ hs) _
  · exact hQ.addStoreResult hs _

theorem completeRetire (n : Nat) (tag : Byte) : Q (s.completeRetire n tag).store := by
  unfold State.completeRetire
  split
  · exact hQ.addStoreResult (by exact hQ.setItem _ _ _ (hQ.setPlace s.store _ _ hs)) _
  · exact hQ.addStoreResult hs _

theorem completeLoad (n : Nat) (i : Ix) : Q (s.completeLoad n i).store := by
  unfold State.completeLoad
  split
  · unfold State.loaded
    dsimp only
    split
    · exact hs
    · exact hs
  · exact hQ.setItem s.store _ _ hs
  · exact hs

theorem completeWrite (n : Nat) (i : Ix) (content : Option Record) : Q (s.completeWrite n i content).store := by
  have hbody : Q (s.store.writeBody n content) := by
    unfold Store.writeBody
    split
    · exact hQ.rewrite hs _ _
    · exact hs
  unfold State.completeWrite
  dsimp only
  split
  · unfold State.endWriteBack
    dsimp only
    split
    · exact hbody
    · exact hbody
  · exact hbody

theorem completeSearch (units bound : List Nat) : Q (s.completeSearch units bound).store := by
  have hmarked : Q (s.mapStore Store.markFailing).store := hQ.mark s.store hs
  unfold State.completeSearch
  dsimp only
  split
  · exact hmarked
  · exact reads.keeps (State.deliverRun_only _ _ _) (by decide) hmarked

theorem startNotice : Q s.startNotice.store := by
  unfold State.startNotice
  split
  · exact hs
  · next src _ =>
    have htaken : Q (s.snapshotTaken src).store := by
      cases src with
      | context => exact hQ.noResults s.store hs
      | _ => exact hs
    exact htaken

/-- Every row keeps a condition on the History Store that survives every operation on it. -/
theorem exec {c : Instr} {t : State} (h : exec c s = .next t) : Q t.store := by
  have hlink : KeptByLink fun s => Q s.store := hQ.keptByUse.keptByLink
  cases c with
  | openRecord _ _ => cases h; exact hlink.command hs fun x _ h1 => hQ.openRecord h1 x
  | closeRecord _ _ => cases h; exact hlink.command hs fun x _ h1 => hQ.closeRecord h1 x
  | bind _ _ => exact reads.keeps_exec h rfl hs
  | unbind _ _ => exact reads.keeps_exec h rfl hs
  | headerScanComplete =>
    cases h
    split
    · exact hs
    · exact hQ.scan s hs
  | loadComplete =>
    cases h
    split
    · exact hQ.endService _ (hQ.completeLoad hs _ _)
    · exact hs
  | writeComplete =>
    cases h
    split
    · exact hQ.endService _ (hQ.completeWrite hs _ _ _)
    · exact hs
  | readComplete =>
    cases h
    split
    · exact hQ.endService _ (hQ.completeRead hs _ _)
    · exact hs
  | enrolComplete =>
    cases h
    split
    · exact hQ.endService _ (hQ.completeEnrol hs _ _ _ _)
    · exact hs
  | amendComplete =>
    cases h
    split
    · exact hQ.endService _ (hQ.completeAmend hs _ _ _)
    · exact hs
  | retireComplete =>
    cases h
    split
    · exact hQ.endService _ (hQ.completeRetire hs _ _)
    · exact hs
  | searchComplete =>
    cases h
    split
    · exact hQ.endService _ (hQ.completeSearch hs _ _)
    · exact hs
  | noticeFrameStart => cases h; exact hQ.startNotice hs
  | reset pins => cases h; exact hQ.reset s.store pins.writeMade hs
  | _ => exact hQ.keptByUse.exec rfl h hs

end KeptByStore

/-- What a condition on the places, the table and the results makes of the operations on the FIFO. -/
theorem keptByStore_of_sameRecords {Q : Store → Prop} (same : ∀ st u, st.sameRecords u → Q st → Q u)
    (table : ∀ st, Q st → Q { st with scanned := true, table := st.scanTable })
    (setPlace : ∀ st k p, Q st → Q (st.setPlace k p)) (setItem : ∀ st k x, Q st → Q (st.setItem k x))
    (mark : ∀ st, Q st → Q st.markFailing)
    (addResult : ∀ st r b, Q st → Q { st with results := addResult st.results r, resultsLost := b })
    (noResults : ∀ st, Q st → Q { st with results := [], resultsLost := false })
    (reset : ∀ st b, Q st → Q (Store.reset (st.placesAfterReset b))) : KeptByStore Q where
  enqueue _ r := same _ _ (State.enqueue_sameRecords r)
  spoil s n := same _ _ (s.spoilWindow_sameRecords n)
  endService s := same _ _ (State.serve_sameRecords { s with store := { s.store with service := none } })
  scan s h := same _ _ (State.serve_sameRecords _) (table s.store h)
  setPlace := setPlace
  setItem := setItem
  setWindow _ _ := same _ _ ⟨rfl, rfl, rfl, rfl, rfl⟩
  mark := mark
  addResult := addResult
  noResults := noResults
  reset := reset

/-! ### The record places and the place table stay canonical -/

/-- The record places and the place table have the canonical form. -/
def Store.wf (st : Store) : Prop := Cells.wf Place.blank st.places ∧ Cells.wf TableItem.blank st.table

theorem Store.wf_setPlace {st : Store} (h : st.wf) (k : Nat) (p : Place) : (st.setPlace k p).wf :=
  ⟨Cells.wf_write st.places k p h.1, h.2⟩

theorem Store.wf_scanned {st : Store} (h : st.wf) : ({ st with scanned := true, table := st.scanTable } : Store).wf := by
  refine ⟨h.1, Cells.wf_filterMap _ st.places h.1 fun x _ y hy => ?_⟩
  obtain ⟨n, -, rfl⟩ : ∃ n, x.2.header = some n ∧ (x.1, (⟨some n, false⟩ : TableItem)) = y := by simpa using hy
  exact ⟨rfl, by simp [TableItem.blank]⟩

theorem Store.wf_markFailing {st : Store} (h : st.wf) : st.markFailing.wf := by
  refine ⟨h.1, ?_⟩
  unfold Store.markFailing
  rw [← List.filterMap_eq_map]
  refine Cells.wf_filterMap _ st.table h.2 fun x hx y hy => ?_
  simp only [Function.comp_apply, Option.some.injEq] at hy
  subst hy
  split
  · next hfails =>
    refine ⟨rfl, fun hblank => ?_⟩
    have hserial : x.2.serial = none := congrArg TableItem.serial hblank
    simp [hserial] at hfails
  · exact ⟨rfl, h.2.2 x hx⟩

theorem Store.wf_placesAfterReset {st : Store} (h : st.wf) (b : Bool) :
    Cells.wf Place.blank (st.placesAfterReset b) := by
  unfold Store.placesAfterReset Store.endByReset Store.cutShort Store.emptyHeader Store.tearPlace
  repeat' split
  all_goals first
    | exact h.1
    | exact (Store.wf_setPlace h _ _).1

theorem Store.wf_keptByStore : KeptByStore Store.wf :=
  keptByStore_of_sameRecords (fun st u ⟨hplaces, htable, _⟩ h => by rw [Store.wf, hplaces, htable]; exact h)
    (fun _ => wf_scanned) (fun _ k p h => wf_setPlace h k p)
    (fun st k x h => ⟨h.1, Cells.wf_write st.table k x h.2⟩) (fun _ => wf_markFailing) (fun _ _ _ h => h) (fun _ h => h)
    (fun _ b h => ⟨wf_placesAfterReset h b, Cells.wf_nil⟩)

/-! ### Conditions on every capture area -/

/-- A condition on an area that survives its clearing, that of a window, and the writing of a sample in range. -/
structure KeptByArea (Q : Area → Prop) : Prop where
  unset : Q []
  window : ∀ c first last, Q c → Q (c.clearWindow first last)
  put : ∀ c a k v, v.inRange → Q c → Q (c.put a k v)

namespace KeptByArea

variable {Q : Area → Prop} (hQ : KeptByArea Q)

/-- Every capture area meets a condition. -/
def ForAreas (Q : Area → Prop) (s : State) : Prop := ∀ i, Q (s.capture.areas.get i)

theorem reads : ReadsOnly [.capture] (ForAreas Q) := fun s t h hs => by
  have hcapture : t.capture = s.capture := h .capture (by decide)
  unfold ForAreas
  rwa [hcapture]

include hQ

theorem keptByUse : KeptByUse (ForAreas Q) :=
  KeptByUse.of_capture reads (fun _ _ _ h => h) (fun _ _ _ h => h) (fun _ _ _ h => h)
    (fun _ _ h => Four.forall_get_set (Four.forall_get_set h _ hQ.unset) _ hQ.unset)
    (fun _ _ _ _ h => Four.forall_get_set (Four.forall_get_set h _ (hQ.window _ _ _ (h _))) _ (hQ.window _ _ _ (h _)))
    (fun _ _ _ _ _ hl hr h =>
      Four.forall_get_set (Four.forall_get_set h _ (hQ.put _ _ _ _ hl (h _))) _ (hQ.put _ _ _ _ hr (h _)))

variable {s : State} (hs : ForAreas Q s)
include hs

theorem makeBinding (i : Ix) (st : Station) : ForAreas Q (s.makeBinding i st) :=
  hQ.keptByUse.unset _ st (reads.keeps (s.setSlot_only i _) (by decide) hs)

theorem bindStation (x : Nat × Station) : ForAreas Q (s.bindStation x).state := by
  unfold State.bindStation
  dsimp only
  repeat' split
  all_goals first
    | exact hs
    | exact hQ.makeBinding hs _ _

theorem completeLoad (n : Nat) (i : Ix) : ForAreas Q (s.completeLoad n i) := by
  unfold State.completeLoad
  split
  · unfold State.loaded
    dsimp only
    split
    · exact hQ.makeBinding (s := s.setSlot i _) hs i _
    · exact hs
  · exact hs
  · exact hs

theorem exec {c : Instr} {t : State} (h : exec c s = .next t) : ForAreas Q t := by
  have hlink : KeptByLink (ForAreas Q) := hQ.keptByUse.keptByLink
  cases c with
  | bind _ _ => cases h; exact hlink.command hs fun x _ h1 => hQ.bindStation h1 x
  | loadComplete =>
    cases h
    split
    · exact reads.keeps (State.endService_only _) (by decide) (hQ.completeLoad hs _ _)
    · exact hs
  | reset pins => cases h; exact forall_ix hQ.unset hQ.unset hQ.unset hQ.unset
  | openRecord _ _ => exact reads.keeps_exec h rfl hs
  | closeRecord _ _ => exact reads.keeps_exec h rfl hs
  | unbind _ _ => exact reads.keeps_exec h rfl hs
  | headerScanComplete => exact reads.keeps_exec h rfl hs
  | writeComplete => exact reads.keeps_exec h rfl hs
  | readComplete => exact reads.keeps_exec h rfl hs
  | enrolComplete => exact reads.keeps_exec h rfl hs
  | amendComplete => exact reads.keeps_exec h rfl hs
  | retireComplete => exact reads.keeps_exec h rfl hs
  | searchComplete => exact reads.keeps_exec h rfl hs
  | noticeFrameStart => exact reads.keeps_exec h rfl hs
  | _ => exact hQ.keptByUse.exec rfl h hs

end KeptByArea

theorem Area.wf_keptByArea : KeptByArea (Cells.wf Sample.unset) where
  unset := Cells.wf_nil
  window c _ _ := Cells.wf_clear _ c
  put c _ _ v _ := Cells.wf_write c _ v

theorem Area.inRange_keptByArea : KeptByArea fun c => ∀ x ∈ c, x.2.inRange where
  unset := by simp
  window _ _ _ h x hx := h x (List.mem_of_mem_filter hx)
  put c a k v hv h x hx := by
    obtain rfl | hold := Cells.mem_write c _ v x hx
    · exact hv
    · exact h x hold

/-! ### The profile entries -/

/-- The offsets of every profile entry have the canonical form. -/
def State.profilesWf (s : State) : Prop := ∀ i, Cells.wf 0 (s.profile i).offsets

theorem State.profilesWf_reads : ReadsOnly [.setup] State.profilesWf := fun s t h hs => by
  have hsetup : t.setup = s.setup := h .setup (by decide)
  unfold State.profilesWf State.profile
  rw [hsetup]
  exact hs

theorem State.breakLoad_profile (s : State) (keep : Option Ix) (i : Ix) :
    (s.breakLoad keep).profile i =
      if (s.profile i).state = .loading ∧ keep ≠ some i then { s.profile i with state := .broken } else s.profile i := by
  cases i <;> rfl

theorem State.profilesWf_putProfile {s : State} (h : s.profilesWf) (i : Ix) {p : Profile}
    (hp : Cells.wf 0 p.offsets) : (s.putProfile i p).profilesWf :=
  Four.forall_get_set (Q := fun q : Profile => Cells.wf 0 q.offsets) h i hp

theorem Profile.store_offsets_wf (acc : Profile × Bool) (x : Int) (h : Cells.wf 0 acc.1.offsets) :
    Cells.wf 0 (Profile.store acc x).1.offsets := by
  unfold Profile.store
  dsimp only
  split
  · exact Cells.wf_write _ _ _ h
  · exact h

theorem Profile.foldl_store_offsets_wf (l : List Int) (acc : Profile × Bool) (h : Cells.wf 0 acc.1.offsets) :
    Cells.wf 0 (l.foldl Profile.store acc).1.offsets := by
  induction l generalizing acc with
  | nil => exact h
  | cons x l ih => exact ih _ (store_offsets_wf acc x h)

section
variable {s : State} (hs : s.profilesWf)
include hs

theorem State.profilesWf_profileBegin (x : ProfileParams) : (s.profileBegin x).state.profilesWf := by
  unfold State.profileBegin
  split
  · exact hs
  · split
    · exact profilesWf_putProfile hs _ Cells.wf_nil
    · exact hs

theorem State.profilesWf_profileData (x : Nat × List Int) : (s.profileData x).state.profilesWf := by
  unfold State.profileData
  split
  · exact hs
  · split
    · exact profilesWf_putProfile hs _ (Profile.foldl_store_offsets_wf _ _ (hs _))
    · exact hs

theorem State.profilesWf_profileResume (n : Nat) : (s.profileResume n).state.profilesWf := by
  unfold State.profileResume
  split
  · exact hs
  · split
    · exact profilesWf_putProfile hs _ (hs _)
    · exact hs

end

/-- A condition on the Setup Tables that survives the breaking of a load and the commands of chapter 12. PROFILE BEGIN
and PROFILE RESUME meet a state with no entry LOADING. -/
structure KeptBySetup (P : State → Prop) : Prop where
  reads : ReadsOnly [.setup] P
  breakLoad : ∀ s k, P s → P (s.breakLoad k)
  profileBegin : ∀ s x, (∀ i, (s.profile i).state ≠ .loading) → P s → P (s.profileBegin x).state
  profileResume : ∀ s n, (∀ i, (s.profile i).state ≠ .loading) → P s → P (s.profileResume n).state
  profileData : ∀ s x, P s → P (s.profileData x).state
  tables : ∀ (s : State) pit cut, P s → P { s with setup := { s.setup with pit := pit, cut := cut } }
  reset : ∀ pins l p, P (stateAfterReset pins l p)

namespace KeptBySetup

variable {P : State → Prop} (hP : KeptBySetup P)
include hP

theorem keptByLink : KeptByLink P where
  accept s f := hP.reads.keeps (s.acceptFrame_only f) (by decide)
  take _ _ _ h := hP.reads.keeps (State.takeFrame_only h) (by decide)
  breakLoad := hP.breakLoad
  reply s r := hP.reads.keeps (s.putReply_only r) (by decide)

/-- A command that keeps no LOADING entry hands its owner a state without one. -/
theorem plainCommand {α : Type} {kind tag : Byte} {payload : List Byte} {params : Except Code α}
    {owner : α → State → Answered} {s : State} (hs : P s)
    (howner : ∀ x s1, (∀ i, (s1.profile i).state ≠ .loading) → P s1 → P (owner x s1).state) :
    P (s.plainCommand kind tag payload params owner) := by
  cases htake : s.takeFrame ⟨kind, tag, payload⟩ with
  | none => rw [State.plainCommand_waits htake]; exact hP.keptByLink.accept s _ hs
  | some s1 =>
    have h1 : P s1 := hP.keptByLink.take s s1 _ htake hs
    cases params with
    | error c => rw [State.plainCommand_refused htake]; exact hP.keptByLink.reply s1 _ h1
    | ok x =>
      rw [State.plainCommand, State.command_taken htake]
      refine hP.keptByLink.reply _ _ (howner x _ (fun i => ?_) (hP.breakLoad s1 none h1))
      rw [State.breakLoad_profile]
      split
      · simp
      · next hload => simpa using hload

theorem exec {c : Instr} {s t : State} (h : exec c s = .next t) (hs : P s) : P t := by
  cases c with
  | setPit _ _ =>
    cases h
    refine hP.keptByLink.command hs fun x s1 h1 => ?_
    unfold State.setPit
    split
    · exact hP.tables s1 _ s1.setup.cut h1
    · exact h1
  | setCut _ _ =>
    cases h
    refine hP.keptByLink.command hs fun x s1 h1 => ?_
    unfold State.setCut
    split
    · refine hP.reads.keeps (State.removeIdlePlan_only _ .b) (by decide) ?_
      refine hP.reads.keeps (State.removeIdlePlan_only _ .a) (by decide) ?_
      exact hP.reads.keeps (State.staleMeasurements_only _) (by decide) (hP.tables s1 s1.setup.pit _ h1)
    · exact h1
  | profileBegin _ _ => cases h; exact hP.plainCommand hs fun x s1 => hP.profileBegin s1 x
  | profileResume _ _ => cases h; exact hP.plainCommand hs fun n s1 => hP.profileResume s1 n
  | profileData _ _ => cases h; exact hP.keptByLink.command hs fun x s1 => hP.profileData s1 x
  | reset pins => cases h; exact hP.reset pins _ _
  | _ =>
    first
    | exact hP.keptByLink.exec_command hP.reads h rfl rfl hs
    | exact hP.reads.keeps_exec h rfl hs

end KeptBySetup

theorem State.profilesWf_keptBySetup : KeptBySetup State.profilesWf where
  reads := profilesWf_reads
  breakLoad s k h i := by
    rw [breakLoad_profile]
    split
    · exact h i
    · exact h i
  profileBegin _ x _ h := profilesWf_profileBegin h x
  profileResume _ n _ h := profilesWf_profileResume h n
  profileData _ x h := profilesWf_profileData h x
  tables _ _ _ h := h
  reset _ _ _ := forall_ix Cells.wf_nil Cells.wf_nil Cells.wf_nil Cells.wf_nil

/-! ### The canonical form (O55) -/

theorem Memory.wf_iff (s : State) :
    Memory.wf s ↔ s.store.wf ∧ KeptByArea.ForAreas (Cells.wf Sample.unset) s ∧ s.profilesWf := by
  rw [Memory.wf, Four.forall_toList, Four.forall_toList]
  exact ⟨fun ⟨hp, ht, ha, ho⟩ => ⟨⟨hp, ht⟩, ha, ho⟩, fun ⟨⟨hp, ht⟩, ha, ho⟩ => ⟨hp, ht, ha, ho⟩⟩

/-- Settles O55: the store, the capture areas and the profile entries each by the operations that reach them. -/
theorem everyStepKeepsAddressedLists : Obligations.EveryStepKeepsAddressedLists := by
  unfold Obligations.EveryStepKeepsAddressedLists
  intro s t hs hstep
  refine step_keeps (P := Memory.wf) (fun _ _ h => h) (fun c s t hexec hwf => ?_) hs hstep
  rw [Memory.wf_iff] at hwf ⊢
  obtain ⟨hstore, hareas, hprofiles⟩ := hwf
  exact ⟨Store.wf_keptByStore.exec hstore hexec, Area.wf_keptByArea.exec hareas hexec,
    State.profilesWf_keptBySetup.exec hexec hprofiles⟩

/-! ### The lists of bounded length (R17, R36, R179) -/

theorem length_addResult_le {α : Type} {l : List α} (h : l.length ≤ 8) (x : α) : (addResult l x).length ≤ 8 := by
  by_cases hfull : l.length < 8
  · simp [addResult, Config.resultSlots, hfull]
  · simp only [addResult, Config.resultSlots, hfull, if_false, List.length_append, List.length_drop,
      List.length_singleton]
    omega

theorem Store.results_keptByStore : KeptByStore fun st => st.results.length ≤ 8 :=
  keptByStore_of_sameRecords (fun _ _ ⟨_, _, _, hresults, _⟩ h => by rw [hresults]; exact h) (fun _ h => h)
    (fun _ _ _ h => h) (fun _ _ _ h => h) (fun _ h => h) (fun _ _ _ h => length_addResult_le h _)
    (fun _ _ => Nat.zero_le 8) (fun _ _ _ => Nat.zero_le 8)

/-- The context result list keeps its capacity (R36). -/
def State.contextBounded (s : State) : Prop := s.context.results.length ≤ 8

theorem State.contextBounded_reads : ReadsOnly [.context] State.contextBounded := fun s t h hs => by
  have hcontext : t.context = s.context := h .context (by decide)
  unfold contextBounded
  rw [hcontext]
  exact hs

theorem State.serve_contextResults (s : State) : s.serve.context.results = s.context.results := by
  unfold State.serve
  split <;> rfl

theorem State.contextBounded_serve {s : State} (h : s.contextBounded) : s.serve.contextBounded := by
  unfold contextBounded
  rw [serve_contextResults]
  exact h

theorem State.contextBounded_enqueue {s : State} (h : s.contextBounded) (r : Request) :
    (s.enqueue r).contextBounded := contextBounded_serve (s := { s with store := _ }) h

theorem State.contextBounded_keptByUse : KeptByUse State.contextBounded :=
  KeptByUse.of_records
    (fun s t h => contextBounded_reads s t fun b hb => h b ((show [Block.context] ⊆ [.store, .context] by decide) hb))
    (fun _ r _ h => contextBounded_enqueue h r)
    (fun s n h => contextBounded_reads.keeps (s.spoilWindow_only n) (by decide) h)
    (fun _ _ _ _ h => h) (fun _ _ h => h) (fun _ h => h)

theorem State.contextBounded_addContextResult {s : State} (h : s.contextBounded) (i : Ix) (n : Nat)
    (o : ContextOutcome) : (s.addContextResult i n o).contextBounded := length_addResult_le h _

section
variable {s : State} (hs : s.contextBounded)
include hs

theorem State.contextBounded_openRecord (x : OpenParams) : (s.openRecord x).state.contextBounded := by
  have hload (i : Ix) (y : OpenParams) : (s.beginLoad i y).contextBounded := by
    refine contextBounded_enqueue ?_ _
    exact hs
  have hevict (i : Ix) (n : Nat) (y : OpenParams) : (s.beginEviction i n y).contextBounded := by
    refine contextBounded_enqueue (contextBounded_keptByUse.queueWrite ?_ n i) _
    exact hs
  unfold State.openRecord State.openInto
  dsimp only
  repeat' split
  all_goals first
    | exact hs
    | exact hload _ _
    | exact hevict _ _ _

theorem State.contextBounded_closeRecord (n : Nat) : (s.closeRecord n).state.contextBounded := by
  unfold State.closeRecord
  dsimp only
  repeat' split
  all_goals first
    | exact hs
    | (refine contextBounded_keptByUse.queueWrite ?_ n _; exact hs)

theorem State.contextBounded_bindStation (x : Nat × Station) : (s.bindStation x).state.contextBounded := by
  unfold State.bindStation
  dsimp only
  repeat' split
  all_goals exact hs

theorem State.contextBounded_unbindStation (st : Station) : (s.unbindStation st).state.contextBounded := by
  unfold State.unbindStation
  repeat' split
  all_goals first
    | exact hs
    | (refine contextBounded_reads.keeps (State.removePlan_only _ st) (by decide) ?_; exact hs)

theorem State.contextBounded_completeLoad (n : Nat) (i : Ix) : (s.completeLoad n i).contextBounded := by
  unfold State.completeLoad State.loaded
  dsimp only
  repeat' split
  all_goals exact contextBounded_addContextResult (by exact hs) i n _

theorem State.contextBounded_completeWrite (n : Nat) (i : Ix) (content : Option Record) :
    (s.completeWrite n i content).contextBounded := by
  unfold State.completeWrite State.endWriteBack
  dsimp only
  repeat' split
  all_goals first
    | exact hs
    | exact contextBounded_addContextResult (by exact hs) i n _

theorem State.contextBounded_deliver (x : RunEntry × Measurement) : (s.deliver x).contextBounded := by
  unfold State.deliver
  split
  · exact hs
  · exact hs

omit hs in
theorem foldl_keeps {α : Type} {P : State → Prop} {f : State → α → State} (hf : ∀ s x, P s → P (f s x)) {s : State}
    (hs : P s) (xs : List α) : P (xs.foldl f s) := by
  induction xs generalizing s with
  | nil => exact hs
  | cons x xs ih => exact ih (hf s x hs)

omit hs in
/-- A condition that the marks of a search and the delivery of results keep is kept by the completion of a search. -/
theorem completeSearch_keeps {l : List Block} {P : State → Prop} (reads : ReadsOnly l P)
    (hl : ∀ b ∈ l, b ∉ [Block.engine, .plans, .notices]) (hmark : ∀ s : State, P s → P (s.mapStore Store.markFailing))
    (hdeliver : ∀ s x, P s → P (State.deliver s x)) {s : State} (hs : P s) (units bound : List Nat) :
    P (s.completeSearch units bound) := by
  have hkeep {m : List Block} {s t : State} (h : Only m s t) (hm : m ⊆ [Block.engine, .plans, .notices]) (h1 : P s) :
      P t := reads.keeps h (fun b hb hmem => hl b hb (hm hmem)) h1
  unfold State.completeSearch
  dsimp only
  split
  · exact hmark s hs
  · next r _ =>
    unfold State.deliverRun
    refine hkeep (State.notify_only _ _) (by decide) (hkeep (State.withRun_only _ none) (by decide) ?_)
    refine hkeep (State.removeIdlePlan_only _ .b) (by decide) (hkeep (State.removeIdlePlan_only _ .a) (by decide) ?_)
    refine foldl_keeps hdeliver (hkeep (m := [.engine]) ?_ (by decide) (hmark s hs)) _
    exact ⟨rfl, fun b hb => by cases b <;> first | rfl | exact absurd (by decide) hb⟩

theorem State.contextBounded_completeSearch (units bound : List Nat) :
    (s.completeSearch units bound).contextBounded :=
  completeSearch_keeps contextBounded_reads (by decide) (fun _ h => h) (fun _ x h => contextBounded_deliver h x) hs
    units bound

theorem State.contextBounded_startNotice : s.startNotice.contextBounded := by
  unfold State.startNotice
  split
  · exact hs
  · next src _ =>
    have htaken : (s.snapshotTaken src).contextBounded := by
      cases src with
      | context => exact Nat.zero_le 8
      | _ => exact hs
    exact htaken

theorem State.contextBounded_exec {c : Instr} {t : State} (h : exec c s = .next t) : t.contextBounded := by
  have hlink : KeptByLink State.contextBounded := contextBounded_keptByUse.keptByLink
  have hended {u : State} (hu : u.contextBounded) : u.endService.contextBounded :=
    contextBounded_serve (s := { u with store := _ }) hu
  have hcompletion {m : List Block} {u : State} (hu : Only m s u) (hm : Block.context ∉ m) :
      u.endService.contextBounded := hended (contextBounded_reads.keeps hu (by simpa using hm) hs)
  cases c with
  | openRecord _ _ => cases h; exact hlink.command hs fun x _ h1 => contextBounded_openRecord h1 x
  | closeRecord _ _ => cases h; exact hlink.command hs fun n _ h1 => contextBounded_closeRecord h1 n
  | bind _ _ => cases h; exact hlink.command hs fun x _ h1 => contextBounded_bindStation h1 x
  | unbind _ _ => cases h; exact hlink.command hs fun st _ h1 => contextBounded_unbindStation h1 st
  | headerScanComplete =>
    cases h
    split
    · exact hs
    · exact contextBounded_serve (s := s.mapStore _) hs
  | loadComplete =>
    cases h
    split
    · exact hended (contextBounded_completeLoad hs _ _)
    · exact hs
  | writeComplete =>
    cases h
    split
    · exact hended (contextBounded_completeWrite hs _ _ _)
    · exact hs
  | readComplete =>
    cases h
    split
    · exact hcompletion (s.completeRead_only _ _) (by decide)
    · exact hs
  | enrolComplete =>
    cases h
    split
    · exact hcompletion (s.completeEnrol_only _ _ _ _) (by decide)
    · exact hs
  | amendComplete =>
    cases h
    split
    · exact hcompletion (s.completeAmend_only _ _ _) (by decide)
    · exact hs
  | retireComplete =>
    cases h
    split
    · exact hcompletion (s.completeRetire_only _ _) (by decide)
    · exact hs
  | searchComplete =>
    cases h
    split
    · exact hended (contextBounded_completeSearch hs _ _)
    · exact hs
  | noticeFrameStart => cases h; exact contextBounded_startNotice hs
  | reset pins => cases h; exact Nat.zero_le 8
  | _ => exact contextBounded_keptByUse.exec rfl h hs

end

/-- The command queue keeps its capacity, and a frame waits in the holding slot only behind a full queue (R179). -/
def Link.bounded (l : Link) : Prop := l.queue.length ≤ 4 ∧ (l.holding.isSome = true → l.queue.length = 4)

theorem Link.bounded_place {l : Link} (h : l.bounded) (f : Frame) : (l.place f).bounded := by
  obtain ⟨hqueue, hholding⟩ := h
  unfold Link.place Link.bounded
  simp only [Config.queueSlots]
  by_cases hroom : l.queue.length < 4
  · have hnone : l.holding = none := by
      cases hl : l.holding with
      | none => rfl
      | some g => exact absurd (hholding (by simp [hl])) (by omega)
    simp [hroom, hnone]
  · have hfull : l.queue.length = 4 := by omega
    cases hl : l.holding <;> simp [hfull]

theorem Link.bounded_pop {l : Link} (h : l.bounded) : l.pop.bounded := by
  obtain ⟨hqueue, hholding⟩ := h
  refine ⟨?_, by simp [Link.pop]⟩
  cases hl : l.holding with
  | none => simp [Link.pop, hl]; omega
  | some f =>
    have hfull : l.queue.length = 4 := hholding (by simp [hl])
    simp [Link.pop, hl, hfull]

theorem Link.bounded_reads : ReadsOnly [.link] fun s => s.link.bounded := fun s t h hs => by
  have hlink : t.link = s.link := h .link (by decide)
  show t.link.bounded
  rw [hlink]
  exact hs

theorem Link.bounded_keptByLink : KeptByLink fun s => s.link.bounded where
  accept s f h := bounded_place (l := s.link.restart) h f
  take s s1 f htake h := by
    unfold State.takeFrame at htake
    split at htake
    · cases htake
    · split at htake
      · cases htake; exact h
      · split at htake
        · cases htake; exact bounded_pop h
        · cases htake
  breakLoad _ _ h := h
  reply _ _ h := h

theorem State.receiveByte_bounded {s : State} (h : s.link.bounded) (b : Byte) : (s.receiveByte b).link.bounded := by
  unfold State.receiveByte
  dsimp only
  split
  · exact Link.bounded_keptByLink.accept _ _ h
  · exact h

theorem Link.bounded_exec {c : Instr} {s t : State} (h : exec c s = .next t) (hs : s.link.bounded) :
    t.link.bounded := by
  have hempty : ({ s.link with queue := [], holding := none } : Link).bounded := by simp [Link.bounded]
  cases c with
  | setLink _ _ => cases h; exact bounded_keptByLink.command hs fun _ _ h1 => h1
  | frameAccepted l => cases h; exact foldl_keeps (P := fun s => s.link.bounded) (fun _ b h1 => State.receiveByte_bounded h1 b) hs l
  | receiveGap =>
    cases h
    unfold State.receiveGapOf
    split
    · exact hs
    · exact hs
  | breakStart => cases h; exact hempty
  | breakEnd => cases h; exact hempty
  | silenceExpiry =>
    cases h
    unfold State.silenceExpires
    split
    · exact bounded_reads.keeps (State.silenceEffects_only _) (by decide) (by exact hs)
    · exact hs
  | hostReadyChange _ => cases h; exact hs
  | replyFrameStart =>
    cases h
    unfold State.startReply
    split
    · exact hs
    · exact hs
  | noticeFrameStart =>
    cases h
    unfold State.startNotice
    split
    · exact hs
    · next src _ =>
      have htaken : (s.snapshotTaken src).link.bounded := by cases src <;> exact hs
      exact htaken
  | frameEnd =>
    cases h
    unfold State.endFrame
    split <;> exact hs
  | reset pins => cases h; simp [bounded, stateAfterReset, Link.reset]
  | _ =>
    first
    | exact bounded_keptByLink.exec_command bounded_reads h rfl rfl hs
    | exact bounded_reads.keeps_exec h rfl hs

theorem State.listsBounded_iff (s : State) :
    s.listsBounded ↔ s.link.bounded ∧ s.store.results.length ≤ 8 ∧ s.contextBounded :=
  ⟨fun ⟨hq, hh, hr, hc⟩ => ⟨⟨hq, hh⟩, hr, hc⟩, fun ⟨⟨hq, hh⟩, hr, hc⟩ => ⟨hq, hh, hr, hc⟩⟩

/-! ### The FIFO is served (R7) -/

theorem Store.fifoServed_keptByStore : KeptByStore Store.fifoServed where
  enqueue _ r _ := State.enqueue_fifoServed r
  spoil _ n h := State.spoilWindow_fifoServed h n
  endService _ _ := State.serve_fifoServed _
  scan _ _ := State.serve_fifoServed _
  setPlace _ _ _ h := h
  setItem _ _ _ h := h
  setWindow _ _ h := h
  mark _ h := h
  addResult _ _ _ h := h
  noResults _ h := h
  reset _ _ _ := by simp [Store.fifoServed, Store.reset]

/-! ### One load at most (R192) -/

theorem countP_four_le_one {α : Type} (f : Four α) (p : α → Bool) :
    f.toList.countP p ≤ 1 ↔ ∀ i j, p (f.get i) = true → p (f.get j) = true → i = j := by
  have hbools : ∀ b0 b1 b2 b3 : Bool, [b0, b1, b2, b3].countP id ≤ 1 ↔
      (b0 && b1 || b0 && b2 || b0 && b3 || b1 && b2 || b1 && b3 || b2 && b3) = false := by decide
  have hcount : f.toList.countP p = [p f.e0, p f.e1, p f.e2, p f.e3].countP id := by
    simp [Four.toList, List.countP_cons]
  rw [hcount, hbools]
  constructor
  · intro h i j hi hj
    cases i <;> cases j <;> simp_all [Four.get]
  · intro h
    have hne {i j : Ix} (hij : i ≠ j) : (p (f.get i) && p (f.get j)) = false := by
      by_contra hboth
      simp only [Bool.not_eq_false, Bool.and_eq_true] at hboth
      exact hij (h i j hboth.1 hboth.2)
    have h01 := hne (show Ix.i0 ≠ .i1 by decide)
    have h02 := hne (show Ix.i0 ≠ .i2 by decide)
    have h03 := hne (show Ix.i0 ≠ .i3 by decide)
    have h12 := hne (show Ix.i1 ≠ .i2 by decide)
    have h13 := hne (show Ix.i1 ≠ .i3 by decide)
    have h23 := hne (show Ix.i2 ≠ .i3 by decide)
    simp only [Four.get] at h01 h02 h03 h12 h13 h23
    simp [h01, h02, h03, h12, h13, h23]

/-- At most one profile entry is LOADING, by the entries one by one. -/
theorem State.oneLoad_iff (s : State) :
    s.oneLoad ↔ ∀ i j, (s.profile i).state = .loading → (s.profile j).state = .loading → i = j := by
  rw [State.oneLoad, countP_four_le_one]
  simp [State.profile]

theorem State.oneLoad_reads : ReadsOnly [.setup] State.oneLoad := fun s t h hs => by
  have hsetup : t.setup = s.setup := h .setup (by decide)
  unfold oneLoad
  rw [hsetup]
  exact hs

theorem State.putProfile_profile (s : State) (i j : Ix) (p : Profile) :
    (s.putProfile i p).profile j = if j = i then p else s.profile j := by
  by_cases hj : j = i
  · rw [if_pos hj, hj]; exact Four.get_set_same _ i p
  · rw [if_neg hj]; exact Four.get_set_other _ p hj

/-- An entry written leaves one load at most when it was LOADING already, or when no entry was. -/
theorem State.oneLoad_putProfile {s : State} (h : s.oneLoad) (i : Ix) (p : Profile)
    (hi : (s.profile i).state = .loading ∨ ∀ j, (s.profile j).state ≠ .loading) : (s.putProfile i p).oneLoad := by
  rw [oneLoad_iff] at h ⊢
  have honly {j : Ix} (hj : ((s.putProfile i p).profile j).state = .loading) : j = i := by
    by_contra hji
    rw [putProfile_profile, if_neg hji] at hj
    obtain hloading | hnone := hi
    · exact hji (h j i hj hloading)
    · exact hnone j hj
  intro j k hj hk
  rw [honly hj, honly hk]

theorem State.oneLoad_keptBySetup : KeptBySetup State.oneLoad where
  reads := oneLoad_reads
  breakLoad s k h := by
    rw [oneLoad_iff] at h ⊢
    have hwas {i : Ix} (hi : ((s.breakLoad k).profile i).state = .loading) : (s.profile i).state = .loading := by
      rw [breakLoad_profile] at hi
      split at hi
      · cases hi
      · exact hi
    exact fun i j hi hj => h i j (hwas hi) (hwas hj)
  profileBegin s x hnone h := by
    unfold State.profileBegin
    split
    · exact h
    · split
      · exact oneLoad_putProfile h _ _ (.inr hnone)
      · exact h
  profileResume s n hnone h := by
    unfold State.profileResume
    split
    · exact h
    · split
      · exact oneLoad_putProfile h _ _ (.inr hnone)
      · exact h
  profileData s x h := by
    unfold State.profileData
    split
    · exact h
    · split
      · next hloading => exact oneLoad_putProfile h _ _ (.inl hloading)
      · exact h
  tables _ _ _ h := h
  reset _ _ _ := by simp [oneLoad, stateAfterReset, Setup.reset, Four.const, Four.toList, Profile.reset]

/-! ### The samples (R107) and the obligation -/

theorem State.samplesInRange_iff (s : State) :
    s.samplesInRange ↔ KeptByArea.ForAreas (fun c => ∀ x ∈ c, x.2.inRange) s := by
  unfold KeptByArea.ForAreas State.samplesInRange
  rw [← Four.forall_toList s.capture.areas fun c => ∀ x ∈ c, x.2.inRange]
  constructor
  · rintro h c hc ⟨a, v⟩ hx
    have hv := h c hc _ hx
    cases v <;> exact hv
  · rintro h c hc ⟨a, v⟩ hx
    have hv := h c hc _ hx
    cases v <;> exact hv

/-- Settles O56: each condition by the operations that reach the block it reads. -/
theorem everyStepKeepsListsAndSamples : Obligations.EveryStepKeepsListsAndSamples := by
  unfold Obligations.EveryStepKeepsListsAndSamples
  intro s t hstep
  refine ⟨fun h => ?_, fun h => ?_, fun h => ?_, fun h => ?_⟩
  · refine step_keeps (P := State.listsBounded) (fun _ _ h => h) (fun c s t hexec hs => ?_) h hstep
    rw [State.listsBounded_iff] at hs ⊢
    obtain ⟨hlink, hresults, hcontext⟩ := hs
    exact ⟨Link.bounded_exec hexec hlink, Store.results_keptByStore.exec hresults hexec,
      State.contextBounded_exec hcontext hexec⟩
  · exact step_keeps (P := State.oneLoad) (fun _ _ h => h) (fun _ _ _ => State.oneLoad_keptBySetup.exec) h hstep
  · exact step_keeps (P := fun s => s.store.fifoServed) (fun _ _ h => h)
      (fun _ _ _ hexec hs => Store.fifoServed_keptByStore.exec hs hexec) h hstep
  · refine step_keeps (P := State.samplesInRange) (fun _ _ h => h) (fun c s t hexec hs => ?_) h hstep
    rw [State.samplesInRange_iff] at hs ⊢
    exact Area.inRange_keptByArea.exec hs hexec

end Sys2Proof.Machine
end

section
/-! PROOFS. Every step keeps the context slots distinct in their serials, their stations and their recency ranks, and
each slot that waits for a record served by its one LOAD. -/

namespace Sys2Proof.Machine

/-! ### What the slots hold -/

/-- What a slot holds beside its rank, its working copy and its measurement. -/
def Slot.key (sl : Slot) : SlotState × Option Nat × Option Incoming × Option Station × Option Station :=
  (sl.state, sl.serial, sl.incoming, sl.binding, sl.requested)

theorem Slot.key_eq_iff {a b : Slot} :
    a.key = b.key ↔ a.state = b.state ∧ a.serial = b.serial ∧ a.incoming = b.incoming ∧ a.binding = b.binding ∧
      a.requested = b.requested := by simp [Slot.key]

theorem Slot.serials_of_key {a b : Slot} (h : a.key = b.key) : a.serials = b.serials := by
  obtain ⟨-, hserial, hincoming, -, -⟩ := key_eq_iff.mp h
  rw [Slot.serials, Slot.serials, hserial, hincoming]

theorem Slot.claims_of_key {a b : Slot} (h : a.key = b.key) : a.claims = b.claims := by
  obtain ⟨-, -, hincoming, hbinding, hrequested⟩ := key_eq_iff.mp h
  rw [Slot.claims, Slot.claims, hincoming, hbinding, hrequested]

theorem Slot.awaitsLoad_of_key {a b : Slot} (h : a.key = b.key) : a.awaitsLoad = b.awaitsLoad := by
  obtain ⟨hstate, -, hincoming, -, -⟩ := key_eq_iff.mp h
  rw [Slot.awaitsLoad, Slot.awaitsLoad, hstate, hincoming]

theorem State.setSlot_slot (s : State) (i j : Ix) (sl : Slot) :
    (s.setSlot i sl).slot j = if j = i then sl else s.slot j := by
  split
  · next h => rw [h, setSlot_slot_self]
  · next h => exact s.setSlot_slot_of_ne sl h

theorem State.touchSlot_key (s : State) (i j : Ix) : ((s.touchSlot i).slot j).key = (s.slot j).key := by
  have h := congrArg Slot.key (Context.touch_get_but_rank s.context i j)
  exact h

theorem State.freeSlot_slot (s : State) (i j : Ix) :
    (s.freeSlot i).slot j =
      if j = i then Slot.free 3
      else if (s.slot i).rank < (s.slot j).rank then { s.slot j with rank := (s.slot j).rank - 1 } else s.slot j :=
  Context.release_get s.context i j

theorem State.freeSlot_key {s : State} {i j : Ix} (h : j ≠ i) : ((s.freeSlot i).slot j).key = (s.slot j).key := by
  rw [freeSlot_slot, if_neg h]
  split <;> rfl

/-- A slot is in `t` as in `s` but for what a request going into service, a measurement or a rewriting changes. -/
def State.sameSlots (s t : State) : Prop :=
  ∀ j, (t.slot j).key = (s.slot j).key ∧ (t.slot j).rank = (s.slot j).rank

theorem State.sameSlots.refl (s : State) : s.sameSlots s := fun _ => ⟨rfl, rfl⟩

theorem State.sameSlots.trans {s t u : State} (h : s.sameSlots t) (k : t.sameSlots u) : s.sameSlots u :=
  fun j => ⟨(k j).1.trans (h j).1, (k j).2.trans (h j).2⟩

theorem State.sameSlots_of_only {l : List Block} {s t : State} (h : Only l s t) (hl : Block.context ∉ l) :
    s.sameSlots t := fun j => by
  have hcontext : t.context = s.context := h.2 .context hl
  rw [State.slot, State.slot, hcontext]
  exact ⟨rfl, rfl⟩

theorem State.sameSlots_setSlot (s : State) (i : Ix) {sl : Slot} (hkey : sl.key = (s.slot i).key)
    (hrank : sl.rank = (s.slot i).rank) : s.sameSlots (s.setSlot i sl) := fun j => by
  rw [setSlot_slot]
  split
  · next h => rw [h]; exact ⟨hkey, hrank⟩
  · exact ⟨rfl, rfl⟩

theorem State.sameSlots_serve (s : State) : s.sameSlots s.serve := by
  unfold State.serve
  split
  · exact s.sameSlots_setSlot _ rfl rfl
  · exact sameSlots.refl s
  · exact sameSlots.refl s

theorem State.sameSlots_enqueue (s : State) (r : Request) : s.sameSlots (s.enqueue r) :=
  State.sameSlots_serve { s with store := _ }

theorem State.sameSlots_endService (s : State) : s.sameSlots s.endService :=
  State.sameSlots_serve { s with store := _ }

theorem State.sameSlots_queueWrite (s : State) (n : Nat) (i : Ix) : s.sameSlots (s.queueWrite n i) := by
  have hspoil : s.sameSlots (s.spoilWindow n) := sameSlots_of_only (s.spoilWindow_only n) (by decide)
  unfold State.queueWrite
  dsimp only
  split
  · exact hspoil
  · exact hspoil.trans (sameSlots_enqueue _ _)

theorem State.sameSlots_stale (s : State) : s.sameSlots s.staleMeasurements := fun j => by
  cases j <;> exact ⟨rfl, rfl⟩

theorem State.sameSlots_deliver (s : State) (x : RunEntry × Measurement) : s.sameSlots (s.deliver x) := by
  unfold State.deliver
  split
  · exact s.sameSlots_setSlot _ rfl rfl
  · exact sameSlots.refl s

theorem State.sameSlots_completeSearch (s : State) (units bound : List Nat) :
    s.sameSlots (s.completeSearch units bound) :=
  completeSearch_keeps (l := [.context]) (P := s.sameSlots)
    (fun t u h hs => hs.trans fun j => by
      have hcontext : u.context = t.context := h .context (by decide)
      rw [State.slot, State.slot, hcontext]
      exact ⟨rfl, rfl⟩)
    (by decide) (fun _ h => h) (fun t x h => h.trans (t.sameSlots_deliver x)) (sameSlots.refl s) units bound

/-! ### Distinct (R22, R23) -/

/-- No item stands in two lists of four, nor twice in one. -/
theorem Four.nodup_flatMap_iff {α β : Type} (f : Four α) (g : α → List β) :
    (f.toList.flatMap g).Nodup ↔
      (∀ i, (g (f.get i)).Nodup) ∧ ∀ i j, i ≠ j → List.Disjoint (g (f.get i)) (g (f.get j)) := by
  rw [List.nodup_flatMap, Four.forall_toList]
  refine and_congr_right fun _ => ?_
  simp only [Four.toList, List.pairwise_cons, List.mem_cons, List.not_mem_nil, or_false, forall_eq_or_imp, forall_eq,
    Function.onFun, false_implies, implies_true, List.Pairwise.nil, and_true]
  constructor
  · rintro ⟨⟨h01, h02, h03⟩, ⟨h12, h13⟩, h23⟩ i j hij
    cases i <;> cases j <;>
      first
      | exact absurd rfl hij
      | assumption
      | (apply List.Disjoint.symm; assumption)
  · intro h
    exact ⟨⟨h .i0 .i1 (by decide), h .i0 .i2 (by decide), h .i0 .i3 (by decide)⟩,
      ⟨h .i1 .i2 (by decide), h .i1 .i3 (by decide)⟩, h .i2 .i3 (by decide)⟩

/-- The slots are apart in what `g` reads of them. -/
def State.apart {β : Type} (g : Slot → List β) (s : State) : Prop :=
  (∀ i, (g (s.slot i)).Nodup) ∧ ∀ i j, i ≠ j → List.Disjoint (g (s.slot i)) (g (s.slot j))

/-- The recency ranks are 0 to 3, one each (R23). -/
def State.ranked (s : State) : Prop :=
  (∀ i, (s.slot i).rank < 4) ∧ ∀ i j, (s.slot i).rank = (s.slot j).rank → i = j

theorem State.ranks_perm_iff (s : State) :
    (s.context.slots.toList.map fun sl => sl.rank).Perm [0, 1, 2, 3] ↔ s.ranked := by
  have hlist : (s.context.slots.toList.map fun sl => sl.rank) =
      [(s.slot .i0).rank, (s.slot .i1).rank, (s.slot .i2).rank, (s.slot .i3).rank] := rfl
  have hnodup : (s.context.slots.toList.map fun sl => sl.rank).Nodup ↔
      ∀ i j, (s.slot i).rank = (s.slot j).rank → i = j := by
    rw [← List.flatMap_singleton' (s.context.slots.toList.map fun sl => sl.rank), List.flatMap_map,
      Four.nodup_flatMap_iff]
    simp only [List.nodup_singleton, implies_true, true_and, List.disjoint_singleton, List.mem_singleton]
    exact ⟨fun h i j heq => by_contra fun hij => h i j hij heq.symm, fun h i j hij heq => hij (h i j heq.symm)⟩
  constructor
  · intro h
    refine ⟨fun i => ?_, hnodup.mp (h.nodup_iff.mpr (by decide))⟩
    have hmem : (s.slot i).rank ∈ [0, 1, 2, 3] := h.subset (by rw [hlist]; cases i <;> simp)
    simp at hmem
    omega
  · rintro ⟨hlt, hinj⟩
    refine (List.subperm_of_subset (hnodup.mpr hinj) fun r hr => ?_).perm_of_length_le (by rw [hlist]; exact le_rfl)
    rw [hlist] at hr
    have h0 := hlt .i0; have h1 := hlt .i1; have h2 := hlt .i2; have h3 := hlt .i3
    simp only [List.mem_cons, List.not_mem_nil, or_false] at hr ⊢
    omega

theorem State.slotsDistinct_iff (s : State) :
    s.slotsDistinct ↔ s.apart Slot.serials ∧ s.apart Slot.claims ∧ s.ranked := by
  rw [State.slotsDistinct, Four.nodup_flatMap_iff, Four.nodup_flatMap_iff, ranks_perm_iff]
  rfl

section
variable {β : Type} {g : Slot → List β} {s t : State}

theorem State.apart.of_eq (h : s.apart g) (heq : ∀ j, g (t.slot j) = g (s.slot j)) : t.apart g := by
  unfold apart
  simp only [heq]
  exact h

/-- One slot changed leaves the slots apart, when what it comes to hold it held before or no slot held. -/
theorem State.apart.update (h : s.apart g) {i : Ix} (hother : ∀ j, j ≠ i → g (t.slot j) = g (s.slot j))
    (hnodup : (g (t.slot i)).Nodup) (hfresh : ∀ x ∈ g (t.slot i), x ∈ g (s.slot i) ∨ ∀ j, x ∉ g (s.slot j)) :
    t.apart g := by
  have hdisjoint {j : Ix} (hj : j ≠ i) : List.Disjoint (g (t.slot i)) (g (t.slot j)) := by
    intro x hxi hxj
    rw [hother j hj] at hxj
    obtain hold | hnew := hfresh x hxi
    · exact h.2 i j hj.symm hold hxj
    · exact hnew j hxj
  refine ⟨fun j => ?_, fun j k hjk => ?_⟩
  · by_cases hj : j = i
    · rw [hj]; exact hnodup
    · rw [hother j hj]; exact h.1 j
  · by_cases hj : j = i
    · subst hj; exact hdisjoint hjk.symm
    · by_cases hk : k = i
      · subst hk; exact (hdisjoint hjk).symm
      · rw [hother j hj, hother k hk]; exact h.2 j k hjk

theorem State.ranked.of_eq (h : s.ranked) (heq : ∀ j, (t.slot j).rank = (s.slot j).rank) : t.ranked := by
  unfold ranked
  simp only [heq]
  exact h

theorem State.ranked_touchSlot (h : s.ranked) (i : Ix) : (s.touchSlot i).ranked := by
  have hrank (j : Ix) : ((s.touchSlot i).slot j).rank =
      if j = i then 0
      else if (s.slot j).rank < (s.slot i).rank then (s.slot j).rank + 1 else (s.slot j).rank :=
    Context.touch_get_rank s.context i j
  obtain ⟨hlt, hinj⟩ := h
  refine ⟨fun j => ?_, fun j k hjk => ?_⟩
  · have := hlt i; have := hlt j
    rw [hrank]
    split_ifs
    all_goals omega
  · rw [hrank, hrank] at hjk
    by_contra hne
    have hj : j ≠ i → (s.slot j).rank ≠ (s.slot i).rank := fun hji heq => hji (hinj j i heq)
    have hk : k ≠ i → (s.slot k).rank ≠ (s.slot i).rank := fun hki heq => hki (hinj k i heq)
    have hranks : (s.slot j).rank ≠ (s.slot k).rank := fun heq => hne (hinj j k heq)
    by_cases hji : j = i
    · have hki : k ≠ i := fun hki => hne (hji.trans hki.symm)
      have := hk hki
      rw [if_pos hji, if_neg hki] at hjk
      split_ifs at hjk
      all_goals omega
    · have := hj hji
      rw [if_neg hji] at hjk
      by_cases hki : k = i
      · rw [if_pos hki] at hjk
        split_ifs at hjk
        all_goals omega
      · have := hk hki
        rw [if_neg hki] at hjk
        split_ifs at hjk
        all_goals omega

theorem State.ranked_freeSlot (h : s.ranked) (i : Ix) : (s.freeSlot i).ranked := by
  have hrank (j : Ix) : ((s.freeSlot i).slot j).rank =
      if j = i then 3
      else if (s.slot i).rank < (s.slot j).rank then (s.slot j).rank - 1 else (s.slot j).rank := by
    rw [freeSlot_slot]
    split_ifs <;> rfl
  obtain ⟨hlt, hinj⟩ := h
  refine ⟨fun j => ?_, fun j k hjk => ?_⟩
  · have := hlt j
    rw [hrank]
    split_ifs
    all_goals omega
  · rw [hrank, hrank] at hjk
    by_contra hne
    have := hlt i; have := hlt j; have := hlt k
    have hj : j ≠ i → (s.slot j).rank ≠ (s.slot i).rank := fun hji heq => hji (hinj j i heq)
    have hk : k ≠ i → (s.slot k).rank ≠ (s.slot i).rank := fun hki heq => hki (hinj k i heq)
    have hranks : (s.slot j).rank ≠ (s.slot k).rank := fun heq => hne (hinj j k heq)
    by_cases hji : j = i
    · have hki : k ≠ i := fun hki => hne (hji.trans hki.symm)
      have := hk hki
      rw [if_pos hji, if_neg hki] at hjk
      split_ifs at hjk
      all_goals omega
    · have := hj hji
      rw [if_neg hji] at hjk
      by_cases hki : k = i
      · rw [if_pos hki] at hjk
        split_ifs at hjk
        all_goals omega
      · have := hk hki
        rw [if_neg hki] at hjk
        split_ifs at hjk
        all_goals omega

theorem State.slotsDistinct.of_sameSlots (h : s.slotsDistinct) (heq : s.sameSlots t) : t.slotsDistinct := by
  rw [slotsDistinct_iff] at h ⊢
  obtain ⟨hserials, hclaims, hranked⟩ := h
  exact ⟨hserials.of_eq fun j => Slot.serials_of_key (heq j).1, hclaims.of_eq fun j => Slot.claims_of_key (heq j).1,
    hranked.of_eq fun j => (heq j).2⟩

theorem State.slotsDistinct.touchSlot (h : s.slotsDistinct) (i : Ix) : (s.touchSlot i).slotsDistinct := by
  rw [slotsDistinct_iff] at h ⊢
  obtain ⟨hserials, hclaims, hranked⟩ := h
  exact ⟨hserials.of_eq fun j => Slot.serials_of_key (s.touchSlot_key i j),
    hclaims.of_eq fun j => Slot.claims_of_key (s.touchSlot_key i j), ranked_touchSlot hranked i⟩

theorem State.slotsDistinct.freeSlot (h : s.slotsDistinct) (i : Ix) : (s.freeSlot i).slotsDistinct := by
  have hself : (s.freeSlot i).slot i = Slot.free 3 := by rw [freeSlot_slot, if_pos rfl]
  rw [slotsDistinct_iff] at h ⊢
  obtain ⟨hserials, hclaims, hranked⟩ := h
  exact ⟨hserials.update (fun j hj => Slot.serials_of_key (freeSlot_key hj)) (by rw [hself]; simp [Slot.free, Slot.serials])
      (by rw [hself]; simp [Slot.free, Slot.serials]),
    hclaims.update (fun j hj => Slot.claims_of_key (freeSlot_key hj)) (by rw [hself]; simp [Slot.free, Slot.claims])
      (by rw [hself]; simp [Slot.free, Slot.claims]), ranked_freeSlot hranked i⟩

/-- A slot replaced under its rank leaves the slots distinct, when the serials and stations it comes to hold it held
before or no slot held. -/
theorem State.slotsDistinct.setSlot (h : s.slotsDistinct) (i : Ix) {sl : Slot} (hrank : sl.rank = (s.slot i).rank)
    (hserials : sl.serials.Nodup ∧ ∀ n ∈ sl.serials, n ∈ (s.slot i).serials ∨ ∀ j, n ∉ (s.slot j).serials)
    (hclaims : sl.claims.Nodup ∧ ∀ st ∈ sl.claims, st ∈ (s.slot i).claims ∨ ∀ j, st ∉ (s.slot j).claims) :
    (s.setSlot i sl).slotsDistinct := by
  rw [slotsDistinct_iff] at h ⊢
  obtain ⟨hs, hc, hr⟩ := h
  refine ⟨hs.update (i := i) (fun j hj => by rw [setSlot_slot, if_neg hj]) ?_ ?_,
    hc.update (i := i) (fun j hj => by rw [setSlot_slot, if_neg hj]) ?_ ?_, hr.of_eq fun j => ?_⟩
  · rw [setSlot_slot_self]; exact hserials.1
  · rw [setSlot_slot_self]; exact hserials.2
  · rw [setSlot_slot_self]; exact hclaims.1
  · rw [setSlot_slot_self]; exact hclaims.2
  · rw [setSlot_slot]
    split
    · next hj => rw [hj]; exact hrank
    · rfl

/-- A slot that comes to hold part of what it held leaves the slots distinct. -/
theorem State.slotsDistinct.shrink (h : s.slotsDistinct) (i : Ix) {sl : Slot} (hrank : sl.rank = (s.slot i).rank)
    (hserials : sl.serials.Sublist (s.slot i).serials) (hclaims : sl.claims.Sublist (s.slot i).claims) :
    (s.setSlot i sl).slotsDistinct := by
  have hparts := (slotsDistinct_iff s).mp h
  exact h.setSlot i hrank ⟨(hparts.1.1 i).sublist hserials, fun n hn => .inl (hserials.subset hn)⟩
    ⟨(hparts.2.1.1 i).sublist hclaims, fun n hn => .inl (hclaims.subset hn)⟩

end

/-! ### What the queries on the slots say -/

theorem Slot.holds_iff (sl : Slot) (n : Nat) : sl.holds n = true ↔ n ∈ sl.serials := by
  simp only [Slot.holds, Slot.serials, Bool.or_eq_true, decide_eq_true_eq, List.mem_append, Option.mem_toList]

theorem State.mem_holder {s : State} {n : Nat} {i : Ix} (h : s.holder n = some i) : n ∈ (s.slot i).serials :=
  (Slot.holds_iff _ n).mp (by simpa using List.find?_some h)

theorem State.not_mem_serials_of_holder {s : State} {n : Nat} (h : s.holder n = none) (j : Ix) :
    n ∉ (s.slot j).serials := by
  rw [← Slot.holds_iff]
  simpa using List.find?_eq_none.mp h j (mem_ixAll j)

theorem State.boundSlot_binding {s : State} {st : Station} {i : Ix} (h : s.boundSlot st = some i) :
    (s.slot i).binding = some st := by simpa using List.find?_some h

theorem State.binding_ne_of_boundSlot {s : State} {st : Station} (h : s.boundSlot st = none) (j : Ix) :
    (s.slot j).binding ≠ some st := by simpa using List.find?_eq_none.mp h j (mem_ixAll j)

/-- A station neither bound nor asked for is claimed by no slot (R25, R31). -/
theorem State.not_mem_claims {s : State} {st : Station} (hbound : s.boundSlot st = none)
    (hrequested : s.stationRequested st = false) (j : Ix) : st ∉ (s.slot j).claims := by
  have hbinding := binding_ne_of_boundSlot hbound j
  have hask := List.any_eq_false.mp hrequested j (mem_ixAll j)
  simp only [Bool.or_eq_true, decide_eq_true_eq, not_or] at hask
  obtain ⟨hrequest, hincoming⟩ := hask
  simp only [Slot.claims, List.mem_append, Option.mem_toList, not_or]
  exact ⟨⟨hbinding, hrequest⟩, hincoming⟩

theorem State.freeSlotIx_state {s : State} {i : Ix} (h : s.freeSlotIx = some i) : (s.slot i).state = .free := by
  simpa using List.find?_some h

/-! ### The rows, for the slots' distinctness -/

/-- A slot that takes an incoming record holds its own serial and one that no slot held. -/
theorem Slot.evicted_serials {sl : Slot} {x : Incoming} {R : Nat → Prop} (hself : x.serial ∉ sl.serials)
    (hfresh : R x.serial) :
    ({ sl with state := .writing, incoming := some x } : Slot).serials.Nodup ∧
      ∀ n ∈ ({ sl with state := .writing, incoming := some x } : Slot).serials, n ∈ sl.serials ∨ R n := by
  cases hserial : sl.serial with
  | none => simp [Slot.serials, hserial, hfresh]
  | some m =>
    have hne : x.serial ≠ m := by
      rintro rfl
      exact hself (by simp [Slot.serials, hserial])
    simp [Slot.serials, hserial, hfresh, hne.symm]

/-- A slot that takes an incoming record claims its own stations and one that no slot claimed. -/
theorem Slot.evicted_claims {sl : Slot} {x : Incoming} {R : Station → Prop} (hnodup : sl.claims.Nodup)
    (hself : ∀ st, x.requested = some st → st ∉ sl.claims) (hfresh : ∀ st, x.requested = some st → R st) :
    ({ sl with state := .writing, incoming := some x } : Slot).claims.Nodup ∧
      ∀ st ∈ ({ sl with state := .writing, incoming := some x } : Slot).claims, st ∈ sl.claims ∨ R st := by
  have hown : (sl.binding.toList ++ sl.requested.toList).Nodup :=
    hnodup.sublist (List.sublist_append_left _ _)
  constructor
  · have hasked : x.requested.toList.Nodup := by cases x.requested <;> simp
    refine List.Nodup.append hown hasked fun st hmem hreq => ?_
    exact hself st (by simpa using hreq) (List.mem_append_left _ hmem)
  · intro st hst
    obtain hmem | hreq := List.mem_append.mp hst
    · exact .inl (List.mem_append_left _ hmem)
    · exact .inr (hfresh st (by simpa using hreq))

theorem State.slotsDistinct_reads : ReadsOnly [.context] State.slotsDistinct := fun s t h hs =>
  hs.of_sameSlots fun j => by
    have hcontext : t.context = s.context := h .context (by decide)
    rw [State.slot, State.slot, hcontext]
    exact ⟨rfl, rfl⟩

theorem State.slotsDistinct_keptByUse : KeptByUse State.slotsDistinct :=
  KeptByUse.of_records
    (fun s t h => slotsDistinct_reads s t fun b hb => h b ((show [Block.context] ⊆ [.store, .context] by decide) hb))
    (fun s r _ h => h.of_sameSlots (s.sameSlots_enqueue r))
    (fun s n h => slotsDistinct_reads.keeps (s.spoilWindow_only n) (by decide) h)
    (fun s i _ _ h => h.of_sameSlots (s.sameSlots_setSlot i rfl rfl)) (fun _ i h => h.touchSlot i)
    (fun s h => h.of_sameSlots s.sameSlots_stale)

section
variable {s : State} (hs : s.slotsDistinct)
include hs

/-- An OPEN's serial, held by no slot, and its station, claimed by none, come to stand in one slot. -/
theorem State.slotsDistinct.openInto {x : OpenParams} (code : Code) (hserial : ∀ j, x.serial ∉ (s.slot j).serials)
    (hstation : ∀ st, x.requested = some st → ∀ j, st ∉ (s.slot j).claims) :
    (s.openInto x code).state.slotsDistinct := by
  have hload (i : Ix) : (s.beginLoad i x).slotsDistinct := by
    unfold State.beginLoad
    refine slotsDistinct.of_sameSlots ?_ (sameSlots_enqueue _ _)
    refine slotsDistinct.touchSlot ?_ i
    refine hs.setSlot i rfl ⟨by simp [Slot.serials, Slot.free], fun n hn => .inr ?_⟩ ⟨?_, fun st hst => .inr ?_⟩
    · obtain rfl : n = x.serial := by simpa [Slot.serials, Slot.free] using hn
      exact hserial
    · cases hreq : x.requested <;> simp [Slot.claims, Slot.free]
    · exact hstation st (by simpa [Slot.claims, Slot.free] using hst)
  have hparts := (slotsDistinct_iff s).mp hs
  have hevict (i : Ix) (n : Nat) : (s.beginEviction i n x).slotsDistinct := by
    unfold State.beginEviction
    refine slotsDistinct.of_sameSlots ?_ (sameSlots_enqueue _ _)
    refine slotsDistinct.of_sameSlots ?_ (sameSlots_queueWrite _ _ _)
    refine slotsDistinct.touchSlot ?_ i
    refine hs.setSlot i rfl (Slot.evicted_serials (hserial i) hserial) ?_
    exact Slot.evicted_claims (hparts.2.1.1 i) (fun st hreq => hstation st hreq i) hstation
  unfold State.openInto
  split
  · split
    · exact hload _
    · exact hs
  split
  · exact hs
  split
  · dsimp only
    split
    · exact hevict _ _
    · exact hs
  split
  · exact hload _
  · exact hs

theorem State.slotsDistinct.openRecord (x : OpenParams) : (s.openRecord x).state.slotsDistinct := by
  unfold State.openRecord
  dsimp only
  split
  · exact hs
  split
  · split
    · exact hs
    · exact hs
  · next hholder =>
    split
    · exact hs
    · next htaken =>
      refine hs.openInto _ (not_mem_serials_of_holder hholder) fun st hst => ?_
      obtain ⟨hbound, hrequested⟩ := (stationTaken_eq_false_iff s x.requested).mp (by simpa using htaken) st hst
      exact not_mem_claims hbound hrequested

theorem State.slotsDistinct.closeRecord (n : Nat) : (s.closeRecord n).state.slotsDistinct := by
  have hwrite (i : Ix) : (State.queueWrite n i
      ((s.setSlot i { s.slot i with state := .writing, incoming := none }).touchSlot i)).slotsDistinct := by
    refine slotsDistinct.of_sameSlots ?_ (sameSlots_queueWrite _ _ _)
    refine slotsDistinct.touchSlot ?_ i
    refine hs.shrink i rfl ?_ ?_
    · simp [Slot.serials]
    · simp [Slot.claims]
  unfold State.closeRecord
  split
  · exact hs
  dsimp only
  split
  · exact hs
  split
  · exact hs
  split
  · split
    · exact hwrite _
    · exact hs
  · exact hs.freeSlot _

omit hs in
/-- The claims of a slot that is bound to a station no slot claimed. -/
theorem Slot.bound_claims {sl : Slot} {st : Station} (hnodup : sl.claims.Nodup) (hst : st ∉ sl.claims) :
    ({ sl with binding := some st, requested := none, measurement := none } : Slot).claims.Nodup ∧
      ∀ x ∈ ({ sl with binding := some st, requested := none, measurement := none } : Slot).claims,
        x ∈ sl.claims ∨ x = st := by
  have hincoming : (sl.incoming.bind fun x => x.requested).toList.Sublist sl.claims := List.sublist_append_right _ _
  have hclaims : ({ sl with binding := some st, requested := none, measurement := none } : Slot).claims =
      st :: (sl.incoming.bind fun x => x.requested).toList := rfl
  rw [hclaims]
  refine ⟨List.nodup_cons.mpr ⟨fun h => hst (hincoming.subset h), hnodup.sublist hincoming⟩, fun x hx => ?_⟩
  obtain rfl | hmem := List.mem_cons.mp hx
  · exact .inr rfl
  · exact .inl (hincoming.subset hmem)

/-- A binding to a station that no slot claimed leaves the slots distinct. -/
theorem State.slotsDistinct.makeBinding (i : Ix) {st : Station} (hst : ∀ j, st ∉ (s.slot j).claims) :
    (s.makeBinding i st).slotsDistinct := by
  have hparts := (slotsDistinct_iff s).mp hs
  have hclaims := Slot.bound_claims (hparts.2.1.1 i) (hst i)
  have hset :
      (s.setSlot i { s.slot i with binding := some st, requested := none, measurement := none }).slotsDistinct := by
    refine hs.setSlot i rfl ⟨hparts.1.1 i, fun n hn => .inl hn⟩ ⟨hclaims.1, fun x hx => ?_⟩
    obtain hold | rfl := hclaims.2 x hx
    · exact .inl hold
    · exact .inr hst
  exact slotsDistinct_reads _ _ (fun b hb => by cases b <;> first | rfl | exact absurd hb (by decide)) hset

theorem State.slotsDistinct.bindStation (x : Nat × Station) : (s.bindStation x).state.slotsDistinct := by
  unfold State.bindStation
  split
  · exact hs
  dsimp only
  split
  · exact hs
  split
  · exact hs
  split
  · exact hs
  · next hfree =>
    simp only [Bool.or_eq_true, not_or, Bool.not_eq_true, Option.isSome_eq_false_iff, Option.isNone_iff_eq_none] at hfree
    exact slotsDistinct.touchSlot (hs.makeBinding _ (not_mem_claims hfree.1 hfree.2)) _

theorem State.slotsDistinct.unbindStation (st : Station) : (s.unbindStation st).state.slotsDistinct := by
  unfold State.unbindStation
  split
  · exact hs
  split
  · next i _ _ =>
    refine slotsDistinct_reads.keeps (State.removePlan_only _ st) (by decide) (slotsDistinct.touchSlot ?_ i)
    refine hs.shrink i rfl (List.Sublist.refl _) ?_
    simp [Slot.claims]
  · exact hs

theorem State.slotsDistinct.addContextResult (i : Ix) (n : Nat) (o : ContextOutcome) :
    (s.addContextResult i n o).slotsDistinct := hs.of_sameSlots fun _ => ⟨rfl, rfl⟩

/-- A LOAD that ends well gives its slot the station it asked for, or none. -/
theorem State.slotsDistinct.loaded (n : Nat) (i : Ix) (r : Record) : (s.loaded n i r).slotsDistinct := by
  have hparts := (slotsDistinct_iff s).mp hs
  have hset : (s.setSlot i { s.slot i with
      state := .openSlot, working := some r, dirty := false, measurement := none, requested := none }).slotsDistinct := by
    refine hs.shrink i rfl (List.Sublist.refl _) ?_
    simp [Slot.claims]
  unfold State.loaded
  dsimp only
  split
  · next st hreq =>
    refine slotsDistinct.addContextResult (hset.makeBinding i fun j => ?_) i n _
    have hclaimed : st ∈ (s.slot i).claims := by simp [Slot.claims, hreq]
    rw [setSlot_slot]
    split
    · have hnodup := hparts.2.1.1 i
      simp only [Slot.claims, hreq, Option.toList_some, List.append_assoc, List.singleton_append] at hnodup
      simpa [Slot.claims, not_or] using List.nodup_middle.mp hnodup |> List.nodup_cons.mp |>.1
    · next hj => exact fun hmem => hparts.2.1.2 i j (Ne.symm hj) hclaimed hmem
  · exact hset.addContextResult i n _

theorem State.slotsDistinct.completeLoad (n : Nat) (i : Ix) : (s.completeLoad n i).slotsDistinct := by
  unfold State.completeLoad
  split
  · exact hs.loaded n i _
  · have hmarked : (s.mapStore fun st => st.setMark ‹Nat› true).slotsDistinct := hs.of_sameSlots fun _ => ⟨rfl, rfl⟩
    exact (hmarked.freeSlot i).addContextResult i n _
  · exact (hs.freeSlot i).addContextResult i n _

theorem State.slotsDistinct.completeWrite (n : Nat) (i : Ix) (content : Option Record) :
    (s.completeWrite n i content).slotsDistinct := by
  have hwritten : (s.mapStore fun st => st.writeBody n content).slotsDistinct := hs.of_sameSlots fun _ => ⟨rfl, rfl⟩
  unfold State.completeWrite
  dsimp only
  split
  · unfold State.endWriteBack
    dsimp only
    split
    · next x hincoming =>
      refine slotsDistinct.addContextResult ?_ i n _
      have hslot : (s.slot i).incoming = some x := hincoming
      refine hwritten.shrink i rfl ?_ ?_
      · show [x.serial].Sublist (s.slot i).serials
        simp [Slot.serials, hslot]
      · show (([] ++ x.requested.toList) ++ []).Sublist (s.slot i).claims
        simp [Slot.claims, hslot]
    · exact (hwritten.freeSlot i).addContextResult i n _
  · exact hwritten

theorem State.slotsDistinct.snapshotTaken (src : Source) : (s.snapshotTaken src).slotsDistinct := by
  cases src with
  | context => exact hs.of_sameSlots fun _ => ⟨rfl, rfl⟩
  | _ => exact hs

theorem State.slotsDistinct.exec {c : Instr} {t : State} (h : exec c s = .next t) : t.slotsDistinct := by
  have hlink : KeptByLink State.slotsDistinct := slotsDistinct_keptByUse.keptByLink
  have hended {u : State} (hu : u.slotsDistinct) : u.endService.slotsDistinct :=
    hu.of_sameSlots (sameSlots_endService u)
  have hcompletion {m : List Block} {u : State} (hu : Only m s u) (hm : Block.context ∉ m) :
      u.endService.slotsDistinct := hended (hs.of_sameSlots (sameSlots_of_only hu hm))
  cases c with
  | openRecord _ _ => cases h; exact hlink.command hs fun x _ h1 => h1.openRecord x
  | closeRecord _ _ => cases h; exact hlink.command hs fun n _ h1 => h1.closeRecord n
  | bind _ _ => cases h; exact hlink.command hs fun x _ h1 => h1.bindStation x
  | unbind _ _ => cases h; exact hlink.command hs fun st _ h1 => h1.unbindStation st
  | headerScanComplete =>
    cases h
    split
    · exact hs
    · exact hs.of_sameSlots (sameSlots_serve (s.mapStore _))
  | loadComplete =>
    cases h
    split
    · exact hended (hs.completeLoad _ _)
    · exact hs
  | writeComplete =>
    cases h
    split
    · exact hended (hs.completeWrite _ _ _)
    · exact hs
  | readComplete =>
    cases h
    split
    · exact hcompletion (s.completeRead_only _ _) (by decide)
    · exact hs
  | enrolComplete =>
    cases h
    split
    · exact hcompletion (s.completeEnrol_only _ _ _ _) (by decide)
    · exact hs
  | amendComplete =>
    cases h
    split
    · exact hcompletion (s.completeAmend_only _ _ _) (by decide)
    · exact hs
  | retireComplete =>
    cases h
    split
    · exact hcompletion (s.completeRetire_only _ _) (by decide)
    · exact hs
  | searchComplete =>
    cases h
    split
    · exact hended (hs.of_sameSlots (s.sameSlots_completeSearch _ _))
    · exact hs
  | noticeFrameStart =>
    cases h
    unfold State.startNotice
    split
    · exact hs
    · next src _ => exact (hs.snapshotTaken src).of_sameSlots fun _ => ⟨rfl, rfl⟩
  | reset pins =>
    cases h
    have hreset : State.reset.slotsDistinct := by unfold State.slotsDistinct; decide
    exact hreset.of_sameSlots fun _ => ⟨rfl, rfl⟩
  | _ => exact slotsDistinct_keptByUse.exec rfl h hs

end

/-! ### The FIFO through a completion -/

/-- The request in service and the requests behind it are the same. -/
def Store.sameFifo (st u : Store) : Prop := u.service = st.service ∧ u.waiting = st.waiting

theorem State.completeRead_sameFifo (s : State) (n : Nat) (tag : Byte) :
    s.store.sameFifo (s.completeRead n tag).store := by
  unfold State.completeRead
  split <;> exact ⟨rfl, rfl⟩

theorem State.completeEnrol_sameFifo (s : State) (n : Nat) (r : Record) (k : Nat) (tag : Byte) :
    s.store.sameFifo (s.completeEnrol n r k tag).store := ⟨rfl, rfl⟩

theorem State.completeAmend_sameFifo (s : State) (n : Nat) (c : Changes) (tag : Byte) :
    s.store.sameFifo (s.completeAmend n c tag).store := by
  unfold State.completeAmend
  split <;> exact ⟨rfl, rfl⟩

theorem State.completeRetire_sameFifo (s : State) (n : Nat) (tag : Byte) :
    s.store.sameFifo (s.completeRetire n tag).store := by
  unfold State.completeRetire
  split <;> exact ⟨rfl, rfl⟩

theorem State.completeLoad_sameFifo (s : State) (n : Nat) (i : Ix) :
    s.store.sameFifo (s.completeLoad n i).store := by
  unfold State.completeLoad
  split
  · have hstore : (s.loaded n i ‹Record›).store = s.store := (s.loaded_only n i _).2 .store (by decide)
    rw [hstore]
    exact ⟨rfl, rfl⟩
  · exact ⟨rfl, rfl⟩
  · exact ⟨rfl, rfl⟩

theorem Store.writeBody_sameFifo (st : Store) (n : Nat) (content : Option Record) :
    st.sameFifo (st.writeBody n content) := by
  unfold Store.writeBody
  split <;> exact ⟨rfl, rfl⟩

theorem State.completeWrite_sameFifo (s : State) (n : Nat) (i : Ix) (content : Option Record) :
    s.store.sameFifo (s.completeWrite n i content).store := by
  have hbody := s.store.writeBody_sameFifo n content
  unfold State.completeWrite
  dsimp only
  split
  · unfold State.endWriteBack
    dsimp only
    split <;> exact hbody
  · exact hbody

theorem State.completeSearch_sameFifo (s : State) (units bound : List Nat) :
    s.store.sameFifo (s.completeSearch units bound).store := by
  refine completeSearch_keeps (l := [.store]) (P := fun t => s.store.sameFifo t.store) (fun t u h hs => ?_) (by decide)
    (fun _ h => h) (fun t x h => ?_) ⟨rfl, rfl⟩ units bound
  · have hstore : u.store = t.store := h .store (by decide)
    show s.store.sameFifo u.store
    rw [hstore]
    exact hs
  · have hstore : (t.deliver x).store = t.store := (t.deliver_only x).2 .store (by decide)
    show s.store.sameFifo (t.deliver x).store
    rw [hstore]
    exact h

/-! ### Served (R26, R27, R30) -/

/-- A bound slot is OPEN, and the FIFO holds one LOAD for a slot that waits for one and none for another. -/
def State.servedAt (s : State) (i : Ix) : Prop :=
  ((s.slot i).binding.isSome = true → (s.slot i).state = .openSlot) ∧
    s.store.loadsFor i = if (s.slot i).awaitsLoad then 1 else 0

theorem State.servedAt_of_eq {s t : State} {i : Ix} (h : s.servedAt i) (hkey : (t.slot i).key = (s.slot i).key)
    (hloads : t.store.loadsFor i = s.store.loadsFor i) : t.servedAt i := by
  obtain ⟨hstate, -, -, hbinding, -⟩ := Slot.key_eq_iff.mp hkey
  unfold servedAt
  rw [hstate, hbinding, hloads, Slot.awaitsLoad_of_key hkey]
  exact h

/-- The one request of a list that is a LOAD for a slot, counted. -/
def Request.loadsFor (i : Ix) (r : Request) : Nat :=
  match r with
  | .load _ j => if j = i then 1 else 0
  | _ => 0

theorem Store.loadsFor_eq (st : Store) (i : Ix) :
    st.loadsFor i = ((st.service.map fun x => x.request.loadsFor i).getD 0) +
      (st.waiting.map (Request.loadsFor i)).sum := by
  have hcount (l : List Request) : (l.countP fun r => match r with
      | .load _ j => j = i
      | _ => false) = (l.map (Request.loadsFor i)).sum := by
    induction l with
    | nil => rfl
    | cons r l ih =>
      rw [List.countP_cons, ih, List.map_cons, List.sum_cons, Nat.add_comm]
      cases r <;> simp [Request.loadsFor]
  refine (hcount st.fifo).trans ?_
  rw [Store.fifo, List.map_append, List.sum_append]
  cases st.service <;> simp

theorem Store.loadsFor_of_fifo {st u : Store} (h : u.fifo = st.fifo) (i : Ix) : u.loadsFor i = st.loadsFor i := by
  rw [Store.loadsFor, Store.loadsFor, h]

theorem Request.loadsFor_of_not_load {r : Request} (h : r.isLoad = false) (i : Ix) : r.loadsFor i = 0 := by
  cases r <;> first | rfl | cases h

theorem State.enqueue_loadsFor (s : State) (r : Request) (i : Ix) :
    (s.enqueue r).store.loadsFor i = s.store.loadsFor i + r.loadsFor i := by
  rw [State.enqueue, Store.loadsFor_of_fifo (State.serve_fifo _), Store.loadsFor_eq, Store.loadsFor_eq]
  simp [Nat.add_assoc]

theorem State.queueWrite_loadsFor (s : State) (n : Nat) (i j : Ix) :
    (s.queueWrite n i).store.loadsFor j = s.store.loadsFor j := by
  unfold State.queueWrite
  dsimp only
  split
  · exact Store.loadsFor_of_fifo (s.spoilWindow_fifo n) j
  · rw [enqueue_loadsFor, Request.loadsFor_of_not_load rfl, Store.loadsFor_of_fifo (s.spoilWindow_fifo n) j]
    rfl

/-- The request in service ends: the FIFO holds its LOAD no more. -/
theorem State.endService_loadsFor {s : State} {x : Service} (h : s.store.service = some x) (i : Ix) :
    s.store.loadsFor i = s.endService.store.loadsFor i + x.request.loadsFor i := by
  rw [State.endService, Store.loadsFor_of_fifo (State.serve_fifo _), Store.loadsFor_eq, Store.loadsFor_eq, h]
  simp [Nat.add_comm]

section
variable {s t : State} (hs : s.slotsServed)
include hs

theorem State.slotsServed.of_eq (hkeys : ∀ j, (t.slot j).key = (s.slot j).key)
    (hloads : ∀ j, t.store.loadsFor j = s.store.loadsFor j) : t.slotsServed := fun j =>
  servedAt_of_eq (hs j) (hkeys j) (hloads j)

theorem State.slotsServed.of_sameSlots (hslots : s.sameSlots t)
    (hloads : ∀ j, t.store.loadsFor j = s.store.loadsFor j) : t.slotsServed :=
  hs.of_eq (fun j => (hslots j).1) hloads

/-- One slot changed leaves the slots served, when it is. -/
theorem State.slotsServed.update {i : Ix} (hkeys : ∀ j, j ≠ i → (t.slot j).key = (s.slot j).key)
    (hloads : ∀ j, j ≠ i → t.store.loadsFor j = s.store.loadsFor j) (hself : t.servedAt i) : t.slotsServed := fun j => by
  by_cases hj : j = i
  · rw [hj]; exact hself
  · exact servedAt_of_eq (hs j) (hkeys j hj) (hloads j hj)

theorem State.slotsServed.touchSlot (i : Ix) : (s.touchSlot i).slotsServed :=
  hs.of_eq (s.touchSlot_key i) fun _ => rfl

/-- A slot that waits for no LOAD and is not bound may become FREE. -/
theorem State.slotsServed.freeSlot {i : Ix} (h : s.store.loadsFor i = 0) : (s.freeSlot i).slotsServed := by
  refine hs.update (i := i) (fun j hj => freeSlot_key hj) (fun _ _ => rfl) ?_
  have hself : (s.freeSlot i).slot i = Slot.free 3 := by rw [freeSlot_slot, if_pos rfl]
  refine ⟨by rw [hself]; simp [Slot.free], ?_⟩
  rw [hself]
  exact h

/-- A slot replaced by one that is OPEN, or that is not bound and waits for a LOAD as before. -/
theorem State.slotsServed.setSlot (i : Ix) {sl : Slot} (hbound : sl.binding.isSome = true → sl.state = .openSlot)
    (hawaits : sl.awaitsLoad = (s.slot i).awaitsLoad) : (s.setSlot i sl).slotsServed := by
  refine hs.update (i := i) (fun j hj => by rw [setSlot_slot, if_neg hj]) (fun _ _ => rfl) ?_
  unfold servedAt
  rw [setSlot_slot_self, hawaits]
  exact ⟨hbound, (hs i).2⟩

end

theorem State.slotsServed_reads : ReadsOnly [.store, .context] State.slotsServed := fun s t h hs => by
  have hstore : t.store = s.store := h .store (by decide)
  have hcontext : t.context = s.context := h .context (by decide)
  exact hs.of_eq (fun j => by rw [State.slot, State.slot, hcontext]) fun j => by rw [hstore]

theorem State.slotsServed_keptByUse : KeptByUse State.slotsServed :=
  KeptByUse.of_records slotsServed_reads
    (fun s r hr h => h.of_sameSlots (s.sameSlots_enqueue r) fun j => by
      rw [enqueue_loadsFor, Request.loadsFor_of_not_load hr]; rfl)
    (fun s n h => h.of_sameSlots (sameSlots_of_only (s.spoilWindow_only n) (by decide)) fun j =>
      Store.loadsFor_of_fifo (s.spoilWindow_fifo n) j)
    (fun s i _ _ h => h.of_sameSlots (s.sameSlots_setSlot i rfl rfl) fun _ => rfl) (fun _ i h => h.touchSlot i)
    (fun s h => h.of_sameSlots s.sameSlots_stale fun _ => rfl)

section
variable {s : State} (hs : s.slotsServed)
include hs

/-- A slot that waits for no LOAD and is not bound turns to the record that an OPEN names, whose LOAD joins the
FIFO. -/
theorem State.slotsServed.enqueueLoad {i : Ix} (n : Nat) {t : State}
    (hkeys : ∀ j, j ≠ i → (t.slot j).key = (s.slot j).key) (hloads : ∀ j, t.store.loadsFor j = s.store.loadsFor j)
    (hunbound : (t.slot i).binding = none) (hwaits : (t.slot i).awaitsLoad = true)
    (hwaited : (s.slot i).awaitsLoad = false) : (t.enqueue (.load n i)).slotsServed := by
  have hkey (j : Ix) : ((t.enqueue (.load n i)).slot j).key = (t.slot j).key := (t.sameSlots_enqueue _ j).1
  refine hs.update (i := i) (fun j hj => (hkey j).trans (hkeys j hj)) (fun j hj => ?_) ⟨fun hbound => ?_, ?_⟩
  · rw [enqueue_loadsFor, hloads, Request.loadsFor, if_neg (Ne.symm hj)]
    rfl
  · obtain ⟨-, -, -, hbinding, -⟩ := Slot.key_eq_iff.mp (hkey i)
    rw [hbinding, hunbound] at hbound
    cases hbound
  · have hnone := (hs i).2
    rw [hwaited] at hnone
    rw [enqueue_loadsFor, hloads, hnone, Slot.awaitsLoad_of_key (hkey i), hwaits]
    simp [Request.loadsFor]

theorem State.slotsServed.unbound {i : Ix} (h : (s.slot i).state ≠ .openSlot) : (s.slot i).binding = none := by
  by_contra hbound
  exact h ((hs i).1 (by simpa [Option.isSome_iff_ne_none] using hbound))

theorem State.slotsServed.beginLoad {i : Ix} (x : OpenParams)
    (hslot : (s.slot i).state = .free ∨ (s.slot i).state = .openSlot) : (s.beginLoad i x).slotsServed := by
  unfold State.beginLoad
  refine hs.enqueueLoad (i := i) _ (fun j hj => ?_) (fun _ => rfl) ?_ ?_ ?_
  · rw [touchSlot_key, setSlot_slot, if_neg hj]
  · obtain ⟨-, -, -, hbinding, -⟩ := Slot.key_eq_iff.mp (touchSlot_key _ i i)
    rw [hbinding, setSlot_slot_self]
    rfl
  · rw [Slot.awaitsLoad_of_key (touchSlot_key _ i i), setSlot_slot_self]
    rfl
  · obtain h | h := hslot <;> simp [Slot.awaitsLoad, h]

theorem State.slotsServed.beginEviction {i : Ix} (n : Nat) (x : OpenParams) (hslot : s.evictable i) :
    (s.beginEviction i n x).slotsServed := by
  unfold State.beginEviction
  refine hs.enqueueLoad (i := i) _ (fun j hj => ?_) (fun j => ?_) ?_ ?_ ?_
  · rw [(sameSlots_queueWrite _ n i j).1, touchSlot_key, setSlot_slot, if_neg hj]
  · rw [queueWrite_loadsFor]
    rfl
  · obtain ⟨-, -, -, hbinding, -⟩ := Slot.key_eq_iff.mp ((sameSlots_queueWrite _ n i i).1.trans (touchSlot_key _ i i))
    rw [hbinding, setSlot_slot_self]
    exact hslot.2
  · rw [Slot.awaitsLoad_of_key ((sameSlots_queueWrite _ n i i).1.trans (touchSlot_key _ i i)), setSlot_slot_self]
    rfl
  · simp [Slot.awaitsLoad, hslot.1]

theorem State.slotsServed.openInto (x : OpenParams) (code : Code) : (s.openInto x code).state.slotsServed := by
  unfold State.openInto
  split
  · next i hfree =>
    split
    · exact hs.beginLoad x (.inl (freeSlotIx_state hfree))
    · exact hs
  split
  · exact hs
  next i hvictim =>
  split
  · dsimp only
    split
    · exact hs.beginEviction _ x (victim_evictable hvictim)
    · exact hs
  split
  · exact hs.beginLoad x (.inr (victim_evictable hvictim).1)
  · exact hs

theorem State.slotsServed.openRecord (x : OpenParams) : (s.openRecord x).state.slotsServed := by
  unfold State.openRecord
  dsimp only
  split
  · exact hs
  split
  · split
    · exact hs
    · exact hs
  split
  · exact hs
  · exact hs.openInto _ _

theorem State.slotsServed.closeRecord (n : Nat) : (s.closeRecord n).state.slotsServed := by
  unfold State.closeRecord
  split
  · exact hs
  next i _ =>
  dsimp only
  split
  · exact hs
  next hopen =>
  have hopen : (s.slot i).state = .openSlot := by simpa using hopen
  split
  · exact hs
  next hunbound =>
  split
  · split
    · refine slotsServed_keptByUse.queueWrite (slotsServed.touchSlot ?_ i) n i
      refine hs.setSlot i (fun h => absurd h (by simpa using hunbound)) ?_
      simp [Slot.awaitsLoad, hopen]
    · exact hs
  · refine hs.freeSlot ?_
    have hnone := (hs i).2
    simpa [Slot.awaitsLoad, hopen] using hnone

theorem State.slotsServed.makeBinding {i : Ix} (st : Station) (hopen : (s.slot i).state = .openSlot) :
    (s.makeBinding i st).slotsServed := by
  have hset := hs.setSlot i (sl := { s.slot i with binding := some st, requested := none, measurement := none })
    (fun _ => hopen) rfl
  exact slotsServed_reads _ _ (fun b hb => by cases b <;> first | rfl | exact absurd hb (by decide)) hset

theorem State.slotsServed.bindStation (x : Nat × Station) : (s.bindStation x).state.slotsServed := by
  unfold State.bindStation
  split
  · exact hs
  dsimp only
  split
  · exact hs
  next hopen =>
  split
  · exact hs
  split
  · exact hs
  · exact slotsServed.touchSlot (hs.makeBinding _ (by simpa using hopen)) _

theorem State.slotsServed.unbindStation (st : Station) : (s.unbindStation st).state.slotsServed := by
  unfold State.unbindStation
  split
  · exact hs
  split
  · next i _ _ =>
    refine slotsServed_reads.keeps (State.removePlan_only _ st) (by decide) (slotsServed.touchSlot ?_ i)
    exact hs.setSlot i (fun h => absurd h (by simp)) rfl
  · exact hs

theorem State.slotsServed.addContextResult (i : Ix) (n : Nat) (o : ContextOutcome) :
    (s.addContextResult i n o).slotsServed := hs.of_eq (fun _ => rfl) fun _ => rfl

omit hs in
/-- The request in service ends, and the slots are served by what is left, when they were but for it. -/
theorem State.slotsServed_endService {t : State} {x : Service} (hservice : t.store.service = some x)
    (ht : ∀ j, ((t.slot j).binding.isSome = true → (t.slot j).state = .openSlot) ∧
      t.store.loadsFor j = (if (t.slot j).awaitsLoad then 1 else 0) + x.request.loadsFor j) :
    t.endService.slotsServed := fun j => by
  have hkey := (t.sameSlots_endService j).1
  obtain ⟨hstate, -, -, hbinding, -⟩ := Slot.key_eq_iff.mp hkey
  obtain ⟨hbound, hloads⟩ := ht j
  rw [hstate, hbinding, Slot.awaitsLoad_of_key hkey]
  rw [endService_loadsFor hservice] at hloads
  exact ⟨hbound, by omega⟩

/-- The end of a request that is no LOAD. -/
theorem State.slotsServed.endService {x : Service} (hservice : s.store.service = some x)
    (hload : x.request.isLoad = false) : s.endService.slotsServed :=
  slotsServed_endService hservice fun j => by
    rw [Request.loadsFor_of_not_load hload, Nat.add_zero]
    exact hs j

/-- The LOAD of a slot has ended in `t`: the slot waits for it no more, and is bound only when OPEN. -/
theorem State.slotsServed.endLoad {n : Nat} {i : Ix} {content : Option Record}
    (hservice : s.store.service = some ⟨.load n i, content⟩) {t : State}
    (hserviceT : t.store.service = s.store.service) (hwaiting : t.store.waiting = s.store.waiting)
    (hkeys : ∀ j, j ≠ i → (t.slot j).key = (s.slot j).key)
    (hself : ((t.slot i).binding.isSome = true → (t.slot i).state = .openSlot) ∧ (t.slot i).awaitsLoad = false) :
    t.endService.slotsServed := by
  have hloads (j : Ix) : t.store.loadsFor j = s.store.loadsFor j := by
    rw [Store.loadsFor_eq, Store.loadsFor_eq, hserviceT, hwaiting]
  refine slotsServed_endService (hserviceT.trans hservice) fun j => ?_
  by_cases hj : j = i
  · subst hj
    have hone : s.store.loadsFor j = 1 := by
      have hsome : 1 ≤ s.store.loadsFor j := by
        rw [Store.loadsFor_eq, hservice]
        simp [Request.loadsFor]
      have heq := (hs j).2
      split at heq <;> omega
    refine ⟨hself.1, ?_⟩
    rw [hself.2, hloads, hone]
    simp [Request.loadsFor]
  · obtain ⟨hstate, -, -, hbinding, -⟩ := Slot.key_eq_iff.mp (hkeys j hj)
    rw [hstate, hbinding, Slot.awaitsLoad_of_key (hkeys j hj), hloads]
    simpa [Request.loadsFor, Ne.symm hj] using hs j

/-- The slot whose LOAD is in service is bound to no station. -/
theorem State.slotsServed.unbound_of_load {n : Nat} {i : Ix} {content : Option Record}
    (hservice : s.store.service = some ⟨.load n i, content⟩) : (s.slot i).binding = none := by
  refine hs.unbound fun hopen => ?_
  have hnone := (hs i).2
  rw [Store.loadsFor_eq, hservice] at hnone
  simp [Request.loadsFor, Slot.awaitsLoad, hopen] at hnone

omit hs in
theorem State.loaded_slot_of_ne (n : Nat) {i j : Ix} (r : Record) (hj : j ≠ i) :
    (s.loaded n i r).slot j = s.slot j := by
  unfold State.loaded
  dsimp only
  split
  · exact (((s.setSlot i _).setSlot_slot_of_ne _ hj)).trans (s.setSlot_slot_of_ne _ hj)
  · exact s.setSlot_slot_of_ne _ hj

omit hs in
theorem State.loaded_slot_self (n : Nat) (i : Ix) (r : Record) :
    (s.loaded n i r).slot i =
      { s.slot i with
        state := .openSlot, working := some r, dirty := false, measurement := none, requested := none
        binding := if (s.slot i).requested.isSome then (s.slot i).requested else (s.slot i).binding } := by
  unfold State.loaded
  dsimp only
  split
  · next st hreq =>
    refine ((s.setSlot i _).setSlot_slot_self i _).trans ?_
    rw [setSlot_slot_self, hreq]
    rfl
  · next hreq =>
    refine (s.setSlot_slot_self i _).trans ?_
    rw [hreq]
    rfl

theorem State.slotsServed.completeLoad {n : Nat} {i : Ix} {content : Option Record}
    (hservice : s.store.service = some ⟨.load n i, content⟩) : (s.completeLoad n i).endService.slotsServed := by
  have hfreed {t : State} (hslots : t.context = s.context) (hserviceT : t.store.service = s.store.service)
      (hwaiting : t.store.waiting = s.store.waiting) (o : ContextOutcome) :
      (State.addContextResult i n o (t.freeSlot i)).endService.slotsServed := by
    have hslot (j : Ix) : t.slot j = s.slot j := by rw [State.slot, State.slot, hslots]
    refine hs.endLoad hservice hserviceT hwaiting (fun j hj => ?_) ?_
    · exact (freeSlot_key hj).trans (by rw [hslot])
    · have hself : (State.addContextResult i n o (t.freeSlot i)).slot i = Slot.free 3 := by
        refine (?_ : (t.freeSlot i).slot i = Slot.free 3)
        rw [freeSlot_slot, if_pos rfl]
      rw [hself]
      exact ⟨fun h => absurd h (by simp [Slot.free]), rfl⟩
  unfold State.completeLoad
  split
  · next r _ =>
    have hstore : (s.loaded n i r).store = s.store := (s.loaded_only n i r).2 .store (by decide)
    refine hs.endLoad hservice (by rw [hstore]) (by rw [hstore]) (fun j hj => by rw [loaded_slot_of_ne n r hj]) ?_
    · rw [loaded_slot_self]
      exact ⟨fun _ => rfl, rfl⟩
  · next k _ => exact hfreed (t := s.mapStore fun st => st.setMark k true) rfl rfl rfl _
  · exact hfreed (t := s) rfl rfl rfl _

theorem State.slotsServed.completeWrite (n : Nat) (i : Ix) (content : Option Record) :
    (s.completeWrite n i content).slotsServed := by
  have hwritten : (s.mapStore fun st => st.writeBody n content).slotsServed := by
    refine hs.of_eq (fun _ => rfl) fun j => Store.loadsFor_of_fifo ?_ j
    show (s.store.writeBody n content).fifo = s.store.fifo
    unfold Store.writeBody
    split <;> rfl
  unfold State.completeWrite
  dsimp only
  split
  · next hwriting =>
    have hloads := (hwritten i).2
    unfold State.endWriteBack
    dsimp only
    split
    · next x hincoming =>
      refine slotsServed.addContextResult ?_ i n _
      have hslot : (s.slot i).incoming = some x := hincoming
      refine hwritten.setSlot i (fun h => absurd h (by simp [Slot.free])) ?_
      show true = (s.slot i).awaitsLoad
      simp [Slot.awaitsLoad, hwriting.1, hslot]
    · next hincoming =>
      have hslot : (s.slot i).incoming = none := hincoming
      refine slotsServed.addContextResult (hwritten.freeSlot ?_) i n _
      rw [hloads]
      show (if (s.slot i).awaitsLoad then 1 else 0) = 0
      simp [Slot.awaitsLoad, hwriting.1, hslot]
  · exact hwritten

theorem State.slotsServed.snapshotTaken (src : Source) : (s.snapshotTaken src).slotsServed := by
  cases src with
  | context => exact hs.of_eq (fun _ => rfl) fun _ => rfl
  | _ => exact hs

theorem State.slotsServed.exec {c : Instr} {t : State} (h : exec c s = .next t) : t.slotsServed := by
  have hlink : KeptByLink State.slotsServed := slotsServed_keptByUse.keptByLink
  have hcompletion {u : State} {x : Service} (hservice : s.store.service = some x) (hload : x.request.isLoad = false)
      (hkeys : ∀ j, (u.slot j).key = (s.slot j).key)
      (hfifo : s.store.sameFifo u.store) : u.endService.slotsServed := by
    refine slotsServed.endService (hs.of_eq hkeys fun j => ?_) (hfifo.1.trans hservice) hload
    rw [Store.loadsFor_eq, Store.loadsFor_eq, hfifo.1, hfifo.2]
  cases c with
  | openRecord _ _ => cases h; exact hlink.command hs fun x _ h1 => h1.openRecord x
  | closeRecord _ _ => cases h; exact hlink.command hs fun n _ h1 => h1.closeRecord n
  | bind _ _ => cases h; exact hlink.command hs fun x _ h1 => h1.bindStation x
  | unbind _ _ => cases h; exact hlink.command hs fun st _ h1 => h1.unbindStation st
  | headerScanComplete =>
    cases h
    split
    · exact hs
    · exact hs.of_sameSlots (sameSlots_serve (s.mapStore _)) fun j => Store.loadsFor_of_fifo (State.serve_fifo _) j
  | loadComplete =>
    cases h
    split
    · next hservice => exact hs.completeLoad hservice
    · exact hs
  | writeComplete =>
    cases h
    split
    · next n i content hservice =>
      exact (hs.completeWrite n i content).endService ((s.completeWrite_sameFifo n i content).1.trans hservice) rfl
    · exact hs
  | readComplete =>
    cases h
    split
    · next hservice =>
      exact hcompletion hservice rfl (fun j => (sameSlots_of_only (s.completeRead_only _ _) (by decide) j).1)
        (s.completeRead_sameFifo _ _)
    · exact hs
  | enrolComplete =>
    cases h
    split
    · next hservice =>
      exact hcompletion hservice rfl (fun j => (sameSlots_of_only (s.completeEnrol_only _ _ _ _) (by decide) j).1)
        (s.completeEnrol_sameFifo _ _ _ _)
    · exact hs
  | amendComplete =>
    cases h
    split
    · next hservice =>
      exact hcompletion hservice rfl (fun j => (sameSlots_of_only (s.completeAmend_only _ _ _) (by decide) j).1)
        (s.completeAmend_sameFifo _ _ _)
    · exact hs
  | retireComplete =>
    cases h
    split
    · next hservice =>
      exact hcompletion hservice rfl (fun j => (sameSlots_of_only (s.completeRetire_only _ _) (by decide) j).1)
        (s.completeRetire_sameFifo _ _)
    · exact hs
  | searchComplete =>
    cases h
    split
    · next units bound _ hservice =>
      exact hcompletion hservice rfl (fun j => (s.sameSlots_completeSearch units bound j).1)
        (s.completeSearch_sameFifo units bound)
    · exact hs
  | noticeFrameStart =>
    cases h
    unfold State.startNotice
    split
    · exact hs
    · next src _ => exact (hs.snapshotTaken src).of_eq (fun _ => rfl) fun _ => rfl
  | reset pins => cases h; exact reset_slotsServed.of_eq (fun _ => rfl) fun _ => rfl
  | _ => exact slotsServed_keptByUse.exec rfl h hs

end

/-- Settles O57: each condition by what a row makes of the slots and of the LOADs in the FIFO. -/
theorem everyStepKeepsSlotsDistinct : Obligations.EveryStepKeepsSlotsDistinct := by
  unfold Obligations.EveryStepKeepsSlotsDistinct
  intro s t hstep
  refine ⟨fun h => ?_, fun h => ?_⟩
  · exact step_keeps (P := State.slotsDistinct) (fun _ _ h => h) (fun _ _ _ hexec hs => hs.exec hexec) h hstep
  · exact step_keeps (P := State.slotsServed) (fun _ _ h => h) (fun _ _ _ hexec hs => hs.exec hexec) h hstep

end Sys2Proof.Machine
end

section
/-! PROOFS. Every step keeps the Lift Group and Level Maintenance in form: the valves are set with every write of the
two, so that what is left to show is said of the state, the causes, the backlog and the timer alone. -/

namespace Sys2Proof.Machine

theorem ite_keeps {P : State → Prop} {p : Prop} [Decidable p] {a b : State} (ha : P a) (hb : P b) :
    P (if p then a else b) := by
  split
  · exact ha
  · exact hb

/-! ### The form without the valves -/

/-- The form of the Lift Group and Level Maintenance but for the valves. -/
def Lift.fits (l : Lift) (v : Level) : Prop :=
  (l.state ≠ .hold → l.holds = LiftCauses.empty) ∧ (l.fault.isSome = true ↔ l.state = .fault) ∧ v.inForm l.state ∧
    (l.moveTimer ≠ .stopped → l.state = .raising ∨ l.state = .lowering ∨ v.relevel.isSome = true)

theorem Lift.revalve_revalve (l : Lift) (m : Option (Four Bool)) : (l.revalve m).revalve m = l.revalve m := rfl

theorem State.liftInForm_iff (s : State) :
    s.liftInForm ↔ s.lift.revalve s.level.relevel = s.lift ∧ s.lift.fits s.level :=
  ⟨fun ⟨⟨hvalves, hholds, hfault⟩, hlevel, htimer⟩ => ⟨hvalves, hholds, hfault, hlevel, htimer⟩,
    fun ⟨hvalves, hholds, hfault, hlevel, htimer⟩ => ⟨⟨hvalves, hholds, hfault⟩, hlevel, htimer⟩⟩

/-- Every write of the two sets the valves, so it leaves them in form when what it writes fits. -/
theorem State.liftInForm_putLift {s : State} {l : Lift} {v : Level} (h : l.fits v) : (s.putLift l v).liftInForm := by
  rw [liftInForm_iff, putLift_lift, putLift_level]
  exact ⟨Lift.revalve_revalve l v.relevel, h⟩

theorem State.liftInForm_reads : ReadsOnly [.lift, .level] State.liftInForm := fun s t h hs => by
  have hlift : t.lift = s.lift := h .lift (by decide)
  have hlevel : t.level = s.level := h .level (by decide)
  unfold State.liftInForm
  rw [hlift, hlevel]
  exact hs

/-- An operation that reaches neither block keeps the form. -/
theorem State.liftInForm.frame {m : List Block} {s t : State} (hs : s.liftInForm) (h : Only m s t)
    (hm : ∀ b ∈ [Block.lift, .level], b ∉ m) : t.liftInForm := liftInForm_reads.keeps h hm hs

theorem State.liftInForm.fits {s : State} (hs : s.liftInForm) : s.lift.fits s.level := ((liftInForm_iff s).mp hs).2

section
variable {l : Lift} {v : Level} (h : l.fits v)
include h

theorem Lift.fits.holds_empty (hstate : l.state ≠ .hold) : l.holds = LiftCauses.empty := h.1 hstate

theorem Lift.fits.fault_none (hstate : l.state ≠ .fault) : l.fault.isSome = false :=
  Bool.eq_false_iff.mpr fun hsome => hstate (h.2.1.mp hsome)

theorem Lift.fits.level : v.inForm l.state := h.2.2.1

/-- Outside RAISED nothing of level maintenance is under way. -/
theorem Lift.fits.idle (hstate : l.state ≠ .raised) : v.backlog = 0 ∧ v.relevel = none ∧ v.interval = .stopped :=
  h.2.2.1.2.2 hstate

/-- The move timeout is stopped but in a leg and in a re-level. -/
theorem Lift.fits.timer_stopped (hup : l.state ≠ .raising) (hdown : l.state ≠ .lowering) (hlevel : v.relevel = none) :
    l.moveTimer = .stopped := by
  by_contra hrun
  obtain h1 | h1 | h1 := h.2.2.2 hrun
  · exact hup h1
  · exact hdown h1
  · simp [hlevel] at h1

/-- Another group fits when it differs in its points, its move and the state it left alone. -/
theorem Lift.fits.of_eq {l' : Lift} (hstate : l'.state = l.state) (hholds : l'.holds = l.holds)
    (hfault : l'.fault = l.fault) (htimer : l'.moveTimer = l.moveTimer) : l'.fits v := by
  unfold Lift.fits
  rw [hstate, hholds, hfault, htimer]
  exact h

end

/-- A group in a state without hold causes and faults, over level maintenance at rest. -/
theorem Lift.fits_of_idle {l : Lift} {v : Level} (hholds : l.state ≠ .hold → l.holds = LiftCauses.empty)
    (hfault : l.fault.isSome = true ↔ l.state = .fault) (hbacklog : v.backlog = 0) (hrelevel : v.relevel = none)
    (hinterval : v.interval = .stopped)
    (htimer : l.moveTimer ≠ .stopped → l.state = .raising ∨ l.state = .lowering) : l.fits v :=
  ⟨hholds, hfault, ⟨by omega, by simp [hrelevel], fun _ => ⟨hbacklog, hrelevel, hinterval⟩⟩,
    fun hrun => (htimer hrun).imp_right .inl⟩

section
variable {s : State} (hs : s.liftInForm)
include hs

/-! ### Level Maintenance -/

theorem State.liftInForm.removeLevel (st : Station) : (s.removeLevel st).liftInForm :=
  hs.frame (s.removeLevel_only st) (by decide)

theorem State.liftInForm.endUrgent : s.endUrgent.liftInForm := by
  have hput : (s.putLift s.lift { s.level with urgent := false }).liftInForm := liftInForm_putLift hs.fits
  exact (hput.removeLevel .a).removeLevel .b

/-- A re-level that completes takes one off the backlog and stops the timeout. -/
theorem State.liftInForm.completeRelevel (moved : Bool) : (s.completeRelevel moved).liftInForm := by
  have hput : (s.putLift { s.lift with moveTimer := .stopped }
      { s.level with
        epoch := if moved then s.level.epoch + 1 else s.level.epoch
        backlog := s.level.backlog - 1
        relevel := none }).liftInForm := by
    refine liftInForm_putLift ⟨hs.fits.1, hs.fits.2.1, ⟨?_, by simp, fun hstate => ?_⟩, by simp⟩
    · exact (Nat.sub_le _ _).trans hs.fits.level.1
    · obtain ⟨hbacklog, -, hinterval⟩ := hs.fits.idle hstate
      exact ⟨by simp [hbacklog], rfl, hinterval⟩
  exact ite_keeps (P := State.liftInForm) hput.endUrgent hput

theorem State.liftInForm.beginRelevel (hstart : s.startCondition = true) (m : Four Bool) (pit : Pit) :
    (s.beginRelevel m pit).liftInForm := by
  simp only [State.startCondition, Bool.and_eq_true, decide_eq_true_eq] at hstart
  obtain ⟨⟨⟨hraised, -⟩, hbacklog⟩, -⟩ := hstart
  refine liftInForm_putLift ⟨hs.fits.1, hs.fits.2.1, ⟨hs.fits.level.1, fun _ => hbacklog, ?_⟩, fun _ => by simp⟩
  exact fun hstate => absurd hraised hstate

omit hs in
theorem State.liftInForm.startRelevels (n : Nat) {s : State} (hs : s.liftInForm) :
    (State.startRelevels n s).liftInForm := by
  induction n generalizing s with
  | zero => exact hs
  | succ n ih =>
    unfold State.startRelevels
    split
    · exact hs
    split
    · next hstart =>
      dsimp only
      split
      · exact hs.beginRelevel hstart _ _
      · exact ih (hs.completeRelevel false)
    · exact hs

theorem State.liftInForm.testStart : s.testStart.liftInForm := State.liftInForm.startRelevels _ hs

theorem State.liftInForm.testUrgent : s.testUrgent.liftInForm := by
  unfold State.testUrgent
  split
  · have hput : (s.putLift s.lift { s.level with urgent := true }).liftInForm := liftInForm_putLift hs.fits
    exact (((hput.frame (State.giveCause_only _ _ .a) (by decide)).frame (State.giveCause_only _ _ .b)
      (by decide)).frame
      (State.pauseSweep_only _ _ .a) (by decide)).frame (State.pauseSweep_only _ _ .b) (by decide)
  · exact hs

theorem State.liftInForm.enterRaised (hraised : s.lift.state = .raised) : s.enterRaised.liftInForm := by
  refine liftInForm.testStart (liftInForm.testUrgent (liftInForm_putLift ?_))
  exact ⟨hs.fits.1, hs.fits.2.1, ⟨by simp, fun _ => by simp, fun hstate => absurd hraised hstate⟩, hs.fits.2.2.2⟩

/-! ### Leaving RAISED, holds and faults -/

omit hs in
/-- The departure from RAISED puts level maintenance to rest. -/
theorem State.liftInForm_departRaised (hholds : s.lift.state ≠ .hold → s.lift.holds = LiftCauses.empty)
    (hfault : s.lift.fault.isSome = true ↔ s.lift.state = .fault)
    (htimer : s.lift.moveTimer ≠ .stopped → s.lift.state = .raising ∨ s.lift.state = .lowering) :
    s.departRaised.liftInForm := by
  have hput : (s.putLift s.lift { s.level with backlog := 0, interval := .stopped, relevel := none }).liftInForm :=
    liftInForm_putLift (Lift.fits_of_idle hholds hfault rfl rfl rfl htimer)
  exact (((((hput.frame (State.giveCause_only _ _ .a) (by decide)).frame (State.giveCause_only _ _ .b)
    (by decide)).frame
    (State.staleMeasurements_only _) (by decide)).frame (State.markDeparted_only _) (by decide)).frame
      (State.pauseSweep_only _ _ .a) (by decide)).frame
    (State.pauseSweep_only _ _ .b) (by decide)

/-- The Lift Group written with no re-level under way, the departure handed on when it was RAISED. -/
theorem State.liftInForm.putLift_departing {l : Lift} {v : Level}
    (hholds : l.state ≠ .hold → l.holds = LiftCauses.empty) (hfault : l.fault.isSome = true ↔ l.state = .fault)
    (htimer : l.moveTimer ≠ .stopped → l.state = .raising ∨ l.state = .lowering)
      (hbacklog : v.backlog = s.level.backlog)
    (hinterval : v.interval = s.level.interval) (hrelevel : v.relevel = none) :
    (if s.lift.state = .raised then (s.putLift l v).departRaised else s.putLift l v).liftInForm := by
  split
  · exact liftInForm_departRaised (by rw [putLift_lift]; exact hholds) (by rw [putLift_lift]; exact hfault)
      (by rw [putLift_lift]; exact htimer)
  · next hstate =>
    obtain ⟨hzero, -, hstopped⟩ := hs.fits.idle hstate
    exact liftInForm_putLift (Lift.fits_of_idle hholds hfault (hbacklog.trans hzero) hrelevel
      (hinterval.trans hstopped) htimer)

omit hs in
theorem Level.leaveParking_rest (v : Level) (was : LiftState) :
    (Level.leaveParking v was).backlog = v.backlog ∧ (Level.leaveParking v was).interval = v.interval := by
  unfold Level.leaveParking
  split <;> exact ⟨rfl, rfl⟩

theorem State.liftInForm.enterHold (c : LiftCause) (hfault : s.lift.state ≠ .fault) : (s.enterHold c).liftInForm := by
  refine hs.putLift_departing (fun h => absurd rfl h) ?_ (fun h => absurd rfl h)
    (Level.leaveParking_rest _ _).1 (Level.leaveParking_rest _ _).2 rfl
  simpa [Lift.stopped] using hs.fits.fault_none hfault

theorem State.liftInForm.enterFault (c : FaultCause) (hhold : s.lift.state ≠ .hold) : (s.enterFault c).liftInForm :=
  hs.putLift_departing (fun _ => hs.fits.holds_empty hhold) (by simp [Lift.stopped]) (fun h => absurd rfl h)
    (Level.leaveParking_rest _ _).1 (Level.leaveParking_rest _ _).2 rfl

theorem State.liftInForm.giveLiftCause (c : LiftCause) : (s.giveLiftCause c).liftInForm := by
  have hadd (hhold : s.lift.state = .hold) : (s.addLiftCause c).liftInForm :=
    liftInForm_putLift ⟨fun h => absurd hhold h, hs.fits.2⟩
  have hcancel : s.cancelUnpark.liftInForm := liftInForm_putLift hs.fits
  have hhold (hstate : s.lift.state ≠ .fault) : (s.enterHold c).liftInForm := hs.enterHold c hstate
  unfold State.giveLiftCause
  split
  all_goals first
    | exact hs
    | exact hadd ‹_›
    | exact hcancel
    | exact hhold (by simp [*])
    | exact ite_keeps (hadd ‹_›) hs
    | exact ite_keeps (hhold (by simp [*])) hs

/-! ### Moves -/

theorem State.liftInForm.arriveAtRail : s.arriveAtRail.liftInForm := by
  unfold State.arriveAtRail
  split
  · next hrail =>
    simp only [Lift.legToRail, Bool.and_eq_true, decide_eq_true_eq] at hrail
    obtain ⟨⟨hlowering, -⟩, -⟩ := hrail
    obtain ⟨hbacklog, hrelevel, hinterval⟩ := hs.fits.idle (by simp [hlowering])
    refine liftInForm_putLift (Lift.fits_of_idle (fun _ => hs.fits.holds_empty (by simp [hlowering])) ?_ hbacklog
      hrelevel hinterval (by simp))
    simpa using hs.fits.fault_none (by simp [hlowering])
  · exact hs

theorem State.liftInForm.enterLeg (m : Move) (hfault : s.lift.state ≠ .fault) : (s.enterLeg m).liftInForm := by
  unfold State.enterLeg
  split
  · exact hs
  · refine liftInForm.arriveAtRail (hs.putLift_departing (fun _ => rfl) ?_ (fun _ => ?_) rfl rfl rfl)
    · have hnone := hs.fits.fault_none hfault
      cases m.dir <;> simpa using hnone
    · cases m.dir <;> simp

theorem State.liftInForm.moveStart (target : Int) (raise : Bool) (hfault : s.lift.state ≠ .fault) :
    (s.moveStart target raise).liftInForm := by
  unfold State.moveStart
  split
  · exact hs
  · exact hs.enterLeg _ hfault

theorem State.liftInForm.testBridges : s.testBridges.liftInForm := by
  unfold State.testBridges
  split
  · next hstate _ =>
    split
    · exact hs.enterLeg _ (by simp [hstate])
    · exact hs
  · next hstate _ =>
    split
    · exact hs.enterLeg _ (by simp [hstate])
    · exact hs
  · exact hs

theorem State.liftInForm.endLeg (hleg : s.lift.state = .raising ∨ s.lift.state = .lowering) :
    s.endLeg.liftInForm := by
  have hidle := hs.fits.idle (by obtain h | h := hleg <;> simp [h])
  have hholds := hs.fits.holds_empty (by obtain h | h := hleg <;> simp [h])
  have hnone := hs.fits.fault_none (by obtain h | h := hleg <;> simp [h])
  have hput {l : Lift} (hl : l.state ≠ .fault) (hlh : l.holds = s.lift.holds) (hlf : l.fault = s.lift.fault)
      (hlt : l.moveTimer = .stopped) : (s.putLift l s.level).liftInForm :=
    liftInForm_putLift (Lift.fits_of_idle (fun _ => hlh.trans hholds) (by simp [hlf, hnone, hl]) hidle.1 hidle.2.1
      hidle.2.2 (by simp [hlt]))
  unfold State.endLeg
  split
  · exact hs
  dsimp only
  split
  · exact liftInForm.testBridges (hput (by simp) rfl rfl rfl)
  split
  · exact liftInForm.enterRaised (hput (by simp) rfl rfl rfl) (by rw [putLift_lift]; rfl)
  · exact hs.arriveAtRail

/-! ### Parking -/

theorem State.liftInForm.testEngage : s.testEngage.liftInForm := by
  unfold State.testEngage
  split
  · next hwait =>
    obtain ⟨hbacklog, hrelevel, hinterval⟩ := hs.fits.idle (by simp [hwait.1])
    refine liftInForm_putLift (Lift.fits_of_idle (fun _ => hs.fits.holds_empty (by simp [hwait.1])) ?_ hbacklog hrelevel
      hinterval fun hrun => ?_)
    · simpa using hs.fits.fault_none (by simp [hwait.1])
    · exact absurd (hs.fits.timer_stopped (by simp [hwait.1]) (by simp [hwait.1]) hrelevel) hrun
  · exact hs

theorem State.liftInForm.testRelease : s.testRelease.liftInForm := by
  unfold State.testRelease
  split
  · next hwait =>
    obtain ⟨hbacklog, hrelevel, -⟩ := hs.fits.idle (by simp [hwait.1])
    refine liftInForm.enterRaised (liftInForm_putLift ⟨fun _ => hs.fits.holds_empty (by simp [hwait.1]), ?_,
      ⟨?_, ?_, fun h => absurd rfl h⟩, fun hrun => ?_⟩) (by rw [putLift_lift]; rfl)
    · simpa using hs.fits.fault_none (by simp [hwait.1])
    · exact hs.fits.level.1
    · exact hs.fits.level.2.1
    · exact absurd (hs.fits.timer_stopped (by simp [hwait.1]) (by simp [hwait.1]) hrelevel) hrun
  · exact hs

theorem State.liftInForm.testPressure : s.testPressure.liftInForm := by
  unfold State.testPressure
  exact ite_keeps (liftInForm.testRelease (liftInForm_putLift hs.fits)) hs

theorem State.liftInForm.beginUnparking (hparked : s.lift.state = .parked) : s.beginUnparking.liftInForm := by
  obtain ⟨hbacklog, hrelevel, hinterval⟩ := hs.fits.idle (by simp [hparked])
  refine liftInForm.testPressure (liftInForm_putLift (Lift.fits_of_idle
    (fun _ => hs.fits.holds_empty (by simp [hparked])) ?_ hbacklog hrelevel hinterval fun hrun => ?_))
  · simpa using hs.fits.fault_none (by simp [hparked])
  · exact absurd (hs.fits.timer_stopped (by simp [hparked]) (by simp [hparked]) hrelevel) hrun

theorem State.liftInForm.park : s.park.state.liftInForm := by
  unfold State.park
  split
  · exact hs
  next hraised =>
  have hraised : s.lift.state = .raised := by simpa using hraised
  split
  · exact hs
  split
  · exact hs
  next hlevel =>
  have hrelevel : s.level.relevel = none := by
    by_contra hunder
    have hpositive := hs.fits.level.2.1 (Option.isSome_iff_ne_none.mpr hunder)
    exact hlevel (.inl hpositive)
  refine liftInForm.testEngage (liftInForm_departRaised ?_ ?_ ?_)
  · rw [putLift_lift]
    exact fun _ => hs.fits.holds_empty (by simp [hraised])
  · rw [putLift_lift]
    simpa [Lift.revalve] using hs.fits.fault_none (by simp [hraised])
  · rw [putLift_lift]
    exact fun hrun => absurd (hs.fits.timer_stopped (by simp [hraised]) (by simp [hraised]) hrelevel) hrun

theorem State.liftInForm.unpark : s.unpark.state.liftInForm := by
  unfold State.unpark
  split
  · exact hs
  next hparked =>
  split
  · exact hs
  split
  · exact hs
  split
  · exact liftInForm_putLift hs.fits
  · exact hs.beginUnparking (by simpa using hparked)

theorem State.liftInForm.intervalExpires : s.intervalExpires.liftInForm := by
  unfold State.intervalExpires
  split
  · next hrun _ =>
    have hraised : s.lift.state = .raised := by
      by_contra hstate
      rw [(hs.fits.idle hstate).2.2] at hrun
      cases hrun
    have hfits {n : Nat} {t : Timer} (hn : n ≤ 3) (hpos : s.level.backlog ≤ n) :
        s.lift.fits { s.level with interval := t, backlog := n } :=
      ⟨hs.fits.1, hs.fits.2.1, ⟨hn, fun hrel => (hs.fits.level.2.1 hrel).trans_le hpos, fun h => absurd hraised h⟩,
        hs.fits.2.2.2⟩
    dsimp only
    split
    · next hroom =>
      exact liftInForm.testStart (liftInForm.testUrgent (liftInForm_putLift (hfits hroom (Nat.le_succ _))))
    · exact liftInForm_putLift (hfits hs.fits.level.1 le_rfl)
  · exact hs

theorem State.liftInForm.dwellExpires : s.dwellExpires.liftInForm := by
  unfold State.dwellExpires
  split
  · next hparked =>
    have hput : (s.putLift s.lift { s.level with dwell := .expired }).liftInForm := liftInForm_putLift hs.fits
    exact ite_keeps (hput.beginUnparking (by rw [putLift_lift]; exact hparked.1)) hput
  · exact hs

/-! ### The lift commands and reports -/

omit hs in
theorem State.not_fault_of_moveRefusal (h : s.moveRefusal = none) : s.lift.state ≠ .fault := by
  intro hfault
  simp [State.moveRefusal, hfault] at h

theorem State.liftInForm.raiseEffect (h : Int) (hfault : s.lift.state ≠ .fault) :
    (s.raiseEffect h).liftInForm := by
  unfold State.raiseEffect
  split
  · exact liftInForm_putLift (hs.fits.of_eq rfl rfl rfl rfl)
  · exact hs.enterLeg _ hfault
  · exact hs.moveStart h true hfault

theorem State.liftInForm.raiseLift (h : Int) : (s.raiseLift h).state.liftInForm := by
  unfold State.raiseLift
  dsimp only
  split
  · exact hs
  · next hrefusal => exact hs.raiseEffect _ (not_fault_of_moveRefusal hrefusal)

theorem State.liftInForm.lowerEffect (hfault : s.lift.state ≠ .fault) : s.lowerEffect.liftInForm := by
  unfold State.lowerEffect
  split
  · exact hs
  · exact hs.enterLeg _ hfault
  · exact hs.moveStart 0 false hfault

theorem State.liftInForm.lowerLift : s.lowerLift.state.liftInForm := by
  unfold State.lowerLift
  split
  · exact hs
  split
  · exact hs
  · next hrefusal => exact hs.lowerEffect (not_fault_of_moveRefusal hrefusal)

theorem State.liftInForm.stopLift : s.stopLift.state.liftInForm := by
  unfold State.stopLift
  split
  · exact hs
  · exact hs.giveLiftCause .host

theorem State.liftInForm.resumeLift : s.resumeLift.state.liftInForm := by
  unfold State.resumeLift
  split
  · exact hs
  next hheld =>
  have hheld : s.lift.state = .hold := by simpa using hheld
  split
  · exact hs
  split
  · split
    · exact hs
    split
    · exact hs
    split
    · exact hs
    · exact hs.enterLeg _ (by simp [hheld])
  split
  · obtain ⟨hbacklog, hrelevel, -⟩ := hs.fits.idle (by simp [hheld])
    refine liftInForm.enterRaised (liftInForm_putLift ⟨fun _ => rfl, ?_, ⟨by simp [hbacklog], by simp [hrelevel],
      fun h => absurd rfl h⟩, fun hrun => ?_⟩) (by rw [putLift_lift]; rfl)
    · simpa using hs.fits.fault_none (by simp [hheld])
    · exact absurd (hs.fits.timer_stopped (by simp [hheld]) (by simp [hheld]) hrelevel) hrun
  · exact hs

theorem State.liftInForm.clearFault : s.clearFault.state.liftInForm := by
  unfold State.clearFault
  split
  · next hfault =>
    obtain ⟨hbacklog, hrelevel, hinterval⟩ := hs.fits.idle (by simp [hfault])
    refine liftInForm_putLift (Lift.fits_of_idle (fun h => absurd rfl h) (by simp) hbacklog hrelevel hinterval
      fun hrun => ?_)
    exact absurd (hs.fits.timer_stopped (by simp [hfault]) (by simp [hfault]) hrelevel) hrun
  · exact hs

omit hs in
/-- Synchronization changes the points alone. -/
theorem Lift.synchronize_eq (l : Lift) (sync : Int) (m : Option (Four Bool)) :
    l.synchronize sync m = { l with points := (l.synchronize sync m).points } := by
  unfold Lift.synchronize
  dsimp only
  split
  · split_ifs <;> rfl
  · rfl

theorem State.liftInForm.reportLift (w : Wheel) (height : Nat) : (s.reportLift w height).liftInForm := by
  unfold State.reportLift
  dsimp only
  split
  · next hsupervised _ =>
    split
    · refine liftInForm.enterFault (liftInForm_putLift ?_) .trip ?_
      · exact hs.fits.of_eq rfl rfl rfl rfl
      rw [putLift_lift]
      intro hheld
      have hheld : s.lift.state = .hold := hheld
      simp [State.supervised, hheld] at hsupervised
    · refine liftInForm.arriveAtRail (liftInForm_putLift ?_)
      rw [Lift.synchronize_eq]
      exact hs.fits.of_eq rfl rfl rfl rfl
  · exact liftInForm_putLift (hs.fits.of_eq rfl rfl rfl rfl)

theorem State.liftInForm.arrival : s.arrival.liftInForm := by
  unfold State.arrival
  split
  · next hstate => exact ite_keeps (hs.endLeg (.inl hstate)) hs
  · next hstate => exact ite_keeps (hs.endLeg (.inr hstate)) hs
  · exact ite_keeps (hs.completeRelevel true).testStart hs
  · exact hs

theorem State.liftInForm.liftArrives (w : Wheel) : (s.liftArrives w).liftInForm := by
  unfold State.liftArrives
  exact ite_keeps hs (liftInForm.arrival (liftInForm_putLift (hs.fits.of_eq rfl rfl rfl rfl)))

theorem State.liftInForm.moveTimesOut : s.moveTimesOut.liftInForm := by
  unfold State.moveTimesOut
  split
  · exact hs
  · next hrun =>
    refine hs.enterFault .timeout fun hhold => ?_
    rw [hs.fits.timer_stopped (by simp [hhold]) (by simp [hhold]) (hs.fits.idle (by simp [hhold])).2.1] at hrun
    cases hrun

/-! ### The stations, the sweeps and the inputs -/

theorem State.liftInForm.enterAborting_testStart (k : AbortKind) (st : Station) :
    (s.enterAborting k st).testStart.liftInForm := (hs.frame (s.enterAborting_only k st) (by decide)).testStart

theorem State.liftInForm.cutAbort (st : Station) : (s.cutAbort st).state.liftInForm := by
  have hleft := hs.frame (s.enterAborting_only .cut st) (by decide)
  unfold State.cutAbort
  split
  · exact hleft.testStart.frame (State.touchStation_only _ st) (by decide)
  · exact hleft.testStart.frame (State.touchStation_only _ st) (by decide)
  · exact hleft.testStart.frame (State.touchStation_only _ st) (by decide)
  · exact hleft.frame (State.touchStation_only _ st) (by decide)
  · exact hs.frame (State.touchStation_only _ st) (by decide)
  · split
    · exact (hs.frame (s.enterAborting_only .recovery st) (by decide)).frame (State.touchStation_only _ st) (by decide)
    · exact hs
  · exact hs
  · exact hs

theorem State.liftInForm.endPass (st : Station) : (s.endPass st).liftInForm := by
  have hlast (x : CutStation) : (((((s.putCut st x).sendHome st).testHome st).testStart)).liftInForm :=
    (((hs.frame (s.putCut_only st x) (by decide)).frame (State.sendHome_only _ st) (by decide)).frame
      (State.testHome_only _ st) (by decide)).testStart
  unfold State.endPass
  dsimp only
  split
  · split
    · exact ((hs.frame (s.putPlan_only st _) (by decide)).frame (State.putCut_only _ st _) (by decide)).frame
        (State.driveApproach_only _ st) (by decide)
    · exact hlast _
  · exact hlast _

theorem State.liftInForm.pulse (st : Station) : (s.pulse st).liftInForm := by
  unfold State.pulse
  exact ite_keeps (ite_keeps (hs.endPass st) (hs.frame (s.putCut_only st _) (by decide))) hs

theorem State.liftInForm.backoffArrives (st : Station) : (s.backoffArrives st).liftInForm := by
  have hput (x : CutStation) : ((s.driveRoller st .stop).putCut st x).liftInForm :=
    (hs.frame (s.driveRoller_only st _) (by decide)).frame (State.putCut_only _ st x) (by decide)
  unfold State.backoffArrives
  exact ite_keeps (ite_keeps ((hput _).frame (State.leaveHeld_only _ st) (by decide)) (hput _).testStart) hs

theorem State.liftInForm.sweepStop (st : Station) : (s.sweepStop st).state.liftInForm := by
  unfold State.sweepStop
  split
  · exact (hs.frame (s.pauseSweep_only .host st) (by decide)).testStart.frame (State.touchStation_only _ st) (by decide)
  split
  · exact (hs.frame (s.abandonSweep_only st) (by decide)).frame (State.touchStation_only _ st) (by decide)
  · exact hs

theorem State.liftInForm.advance (st : Station) (w : Sweep) (r : SweepRun) : (s.advance st w r).liftInForm := by
  unfold State.advance
  refine ite_keeps (hs.frame (s.awaitPosition_only st _) (by decide))
    (ite_keeps (hs.frame (s.beginIndexing_only st _) (by decide)) ?_)
  exact (((hs.frame (s.putSweep_only st _) (by decide)).frame (State.driveProbe_only _ st _) (by decide)).frame
    (State.notify_only _ _) (by decide)).testStart

theorem State.liftInForm.sampleAnswer (st : Station) (l r : Reading) : (s.sampleAnswer st l r).liftInForm := by
  unfold State.sampleAnswer
  split
  · exact hs
  · exact hs.frame (s.discardAnswer_only st) (by decide)
  · refine ite_keeps ?_ (hs.frame (s.discardAnswer_only st) (by decide))
    unfold State.takeSample
    dsimp only
    split
    · exact ((hs.frame (s.putRequest_only st _) (by decide)).frame (State.writePair_only _ st _ _ _)
        (by decide)).advance st _ _
    · exact hs.frame (s.putRequest_only st _) (by decide)

theorem State.liftInForm.handOut (i : Input) (rise : Bool) : (s.handOut i rise).liftInForm := by
  have hestop : s.estopFalls.liftInForm :=
    (((((hs.giveLiftCause .estop).frame (State.stopStation_only _ .a) (by decide)).frame
      (State.stopStation_only _ .b) (by decide)).frame
      (State.abandonSweep_only _ .a) (by decide)).frame (State.abandonSweep_only _ .b) (by decide)).testStart
  have hguard : s.guardFalls.liftInForm :=
    ((((hs.frame (s.giveCause_only .guard .a) (by decide)).frame (State.giveCause_only _ _ .b) (by decide)).frame
      (State.pauseSweep_only _ _ .a) (by decide)).frame (State.pauseSweep_only _ _ .b) (by decide)).testStart
  have hholddown (st : Station) : (s.holddownFalls st).liftInForm := by
    have hleft := hs.frame (s.enterAborting_only .cut st) (by decide)
    unfold State.holddownFalls
    split
    · exact hleft.testStart
    · exact hleft.testStart
    · exact hleft.testStart
    · exact hleft
    · exact hs
  have hlocks : s.locksFall.liftInForm := by
    unfold State.locksFall
    split
    · next hparked => exact hs.enterFault .lockLost (by simp [hparked])
    · next hunparking => exact ite_keeps (hs.enterFault .lockLost (by simp [hunparking])) hs.testRelease
    · exact hs
  unfold State.handOut
  split
  · exact hestop
  · exact hs.giveLiftCause .pressure
  · exact hs.testPressure
  · exact hguard
  · exact hs.testBridges
  · exact hs.testBridges
  · exact hholddown .a
  · exact hholddown .b
  · exact hs.giveLiftCause .precondition
  · exact hs.giveLiftCause .precondition
  · exact hs.frame (s.testHome_only .a) (by decide)
  · exact hs.frame (s.testHome_only .b) (by decide)
  · exact hs.giveLiftCause .precondition
  · exact hs.giveLiftCause .precondition
  · exact hlocks
  · exact hs.testEngage
  all_goals exact hs

theorem State.liftInForm.silenceEffects : s.silenceEffects.liftInForm :=
  (((((hs.giveLiftCause .silence).frame (State.giveCause_only _ _ .a) (by decide)).frame
    (State.giveCause_only _ _ .b) (by decide)).frame
    (State.pauseSweep_only _ _ .a) (by decide)).frame (State.pauseSweep_only _ _ .b) (by decide)).testStart

omit hs in
theorem State.liftInForm_afterReset (pins : ResetPins) (pending : List Instr) (places : Cells Place) :
    (stateAfterReset pins pending places).liftInForm := by
  refine (liftInForm_iff _).mpr ⟨?_, Lift.fits_of_idle ?_ ?_ rfl rfl rfl fun h => absurd rfl h⟩
  · have hstill : (liftAfterReset pins).state ≠ .raising ∧ (liftAfterReset pins).state ≠ .lowering ∧
        (liftAfterReset pins).state ≠ .raised := by
      unfold liftAfterReset
      dsimp only
      split_ifs <;> simp
    exact (Lift.revalve_of_still none hstill).trans rfl
  · simp only [stateAfterReset, liftAfterReset]
    cases pins.sampled.locksEngaged <;> by_cases hrail : highestRead pins ≤ Config.atRailHeight <;> simp [hrail]
  · simp only [stateAfterReset, liftAfterReset]
    split_ifs <;> simp

theorem State.liftInForm.exec {c : Instr} {t : State} (h : exec c s = .next t) : t.liftInForm := by
  have hlink : KeptByLink State.liftInForm := liftInForm_reads.keptByLink (by decide)
  cases c with
  | raise _ _ => cases h; exact hlink.command hs fun x _ h1 => h1.raiseLift x
  | lower _ _ => cases h; exact hlink.command hs fun _ _ h1 => h1.lowerLift
  | liftStop _ _ => cases h; exact hlink.command hs fun _ _ h1 => h1.stopLift
  | liftResume _ _ => cases h; exact hlink.command hs fun _ _ h1 => h1.resumeLift
  | faultClear _ _ => cases h; exact hlink.command hs fun _ _ h1 => h1.clearFault
  | park _ _ => cases h; exact hlink.command hs fun _ _ h1 => h1.park
  | unpark _ _ => cases h; exact hlink.command hs fun _ _ h1 => h1.unpark
  | sweepStop _ _ => cases h; exact hlink.command hs fun st _ h1 => h1.sweepStop st
  | cutAbort _ _ => cases h; exact hlink.command hs fun st _ h1 => h1.cutAbort st
  | silenceExpiry =>
    cases h
    unfold State.silenceExpires
    split
    · exact State.liftInForm.silenceEffects (by exact hs)
    · exact hs
  | liftPositionReport w height => cases h; exact hs.reportLift w height
  | liftInPosition w => cases h; exact hs.liftArrives w
  | moveTimeout => cases h; exact hs.moveTimesOut
  | intervalExpiry => cases h; exact hs.intervalExpires
  | dwellExpiry => cases h; exact hs.dwellExpires
  | debounceExpiry i =>
    cases h
    unfold State.debounceExpires
    split
    · exact hs
    · exact (hs.frame (s.acceptLevel_only i) (by decide)).handOut i _
  | sampleAnswer st l r => cases h; exact hs.sampleAnswer st l r
  | toolBackoffArrival st => cases h; exact hs.backoffArrives st
  | revolutionPulse st => cases h; exact hs.pulse st
  | reset pins => cases h; exact liftInForm_afterReset _ _ _
  | _ => exact liftInForm_reads.keeps_exec h rfl hs

end

/-- Settles O58: what each row writes of the lift and its level maintenance fits. -/
theorem everyStepKeepsTheLiftInForm : Obligations.EveryStepKeepsTheLiftInForm := by
  unfold Obligations.EveryStepKeepsTheLiftInForm
  intro s t hs hstep
  exact step_keeps (P := State.liftInForm) (fun _ _ h => h) (fun _ _ _ hexec h => h.exec hexec) hs hstep

end Sys2Proof.Machine
end

section
/-! PROOFS. Every step keeps cutting to a raised bogie, a closed guard and a clamped, bound wheelset: what a station may
stand in at the site it has, and what each row makes of the stations and of their sites. -/

namespace Sys2Proof.Machine

/-! ### A station and its site -/

/-- What the other blocks say of a station: a slot is bound to it, its wheelset is clamped, its probe unit is in
calibration mode, the bogie is RAISED, and the guard is closed. -/
structure Site where
  bound : Bool
  clamped : Bool
  calMode : Bool
  raised : Bool
  guarded : Bool

/-- The site of a station. -/
def State.site (s : State) (st : Station) : Site where
  bound := (s.boundSlot st).isSome
  clamped := s.level? st.holddown
  calMode := (s.probe st).calMode
  raised := decide (s.lift.state = .raised)
  guarded := s.level? .guardClosed

/-- The second site lacks nothing that the first has. -/
def Site.le (e f : Site) : Prop :=
  (e.bound = true → f.bound = true) ∧ (e.clamped = true → f.clamped = true) ∧
    (e.calMode = false → f.calMode = false) ∧ (e.raised = true → f.raised = true) ∧
    (e.guarded = true → f.guarded = true)

theorem Site.le_refl (e : Site) : e.le e := ⟨id, id, id, id, id⟩

theorem Site.le.trans {e f g : Site} (h : e.le f) (k : f.le g) : e.le g := by
  obtain ⟨h1, h2, h3, h4, h5⟩ := h
  obtain ⟨k1, k2, k3, k4, k5⟩ := k
  exact ⟨k1 ∘ h1, k2 ∘ h2, k3 ∘ h3, k4 ∘ h4, k5 ∘ h5⟩

theorem Site.le_of_eq {e f : Site} (h : f = e) : e.le f := h ▸ e.le_refl

/-- A station in form that may stand where it is at a site (R160, R167, R169). -/
def CutStation.safeAt (x : CutStation) (e : Site) : Prop :=
  x.inForm ∧
    (x.state.inWork = true ∨ x.state = .held → e.bound = true ∧ e.clamped = true ∧ e.calMode = false) ∧
    (x.state = .approach ∨ x.state = .cutting → e.raised = true ∧ e.guarded = true ∧ x.holds = CutCauses.empty) ∧
    (x.state = .holding ∨ x.state = .held →
      (e.raised = true ∨ x.holds.lift = true) ∧ (e.guarded = true ∨ x.holds.guard = true))

/-- Every station is safe at its site. -/
def State.sitesSafe (s : State) : Prop := ∀ st, (s.cut st).safeAt (s.site st)

theorem State.cuttingSafe_iff (s : State) : s.cuttingSafe ↔ s.slotsServed ∧ s.sitesSafe := by
  have hsafe (st : Station) : (s.cut st).safeAt (s.site st) ↔ (s.cut st).inForm ∧ s.stationSafe st := by
    simp [CutStation.safeAt, State.stationSafe, State.site]
  unfold State.cuttingSafe State.stationsInForm State.sitesSafe
  simp only [hsafe, forall_and]

theorem CutStation.safeAt.mono {x : CutStation} {e f : Site} (h : x.safeAt e) (hle : e.le f) : x.safeAt f := by
  obtain ⟨hform, hwork, hcut, hhold⟩ := h
  obtain ⟨hbound, hclamped, hcal, hraised, hguarded⟩ := hle
  refine ⟨hform, fun hx => ?_, fun hx => ?_, fun hx => ?_⟩
  · obtain ⟨h1, h2, h3⟩ := hwork hx
    exact ⟨hbound h1, hclamped h2, hcal h3⟩
  · obtain ⟨h1, h2, h3⟩ := hcut hx
    exact ⟨hraised h1, hguarded h2, h3⟩
  · obtain ⟨h1, h2⟩ := hhold hx
    exact ⟨h1.imp_left hraised, h2.imp_left hguarded⟩

/-- A station at rest, on its way home or stopped is safe at any site. -/
theorem CutStation.safeAt_of_away {x : CutStation} (e : Site) (hform : x.inForm)
    (h : x.state = .idle ∨ x.state = .retract ∨ x.state = .aborting ∨ x.state = .stopped) : x.safeAt e := by
  refine ⟨hform, ?_, ?_, ?_⟩ <;> obtain h | h | h | h := h <;> simp [h, CutState.inWork]

/-! ### Hold causes -/

/-- A site as it must be for a station to take a cause: LIFT and GUARD stand in for the lift and the guard. -/
def Site.but (e : Site) : CutCause → Site
  | .lift => { e with raised := true }
  | .guard => { e with guarded := true }
  | _ => e

theorem Site.le_but (e : Site) (c : CutCause) : e.le (e.but c) := by
  cases c <;> simp [Site.but, Site.le]

theorem CutStation.safeAt.given {x : CutStation} {e : Site} {c : CutCause} (h : x.safeAt (e.but c)) :
    (x.given c).safeAt e := by
  obtain ⟨⟨hholds, habort, hcounter, hbegun⟩, hwork, hcut, hhold⟩ := h
  have hsite : (e.but c).bound = e.bound ∧ (e.but c).clamped = e.clamped ∧ (e.but c).calMode = e.calMode := by
    cases c <;> exact ⟨rfl, rfl, rfl⟩
  rw [hsite.1, hsite.2.1, hsite.2.2] at hwork
  have hfirst (hx : x.state = .approach ∨ x.state = .cutting) :
      ({ x with state := .holding, holds := CutCauses.empty.add c, heldAt := some x.toolLateral } : CutStation).safeAt
        e := by
    obtain ⟨hraised, hguarded, -⟩ := hcut hx
    have hbound := hwork (.inl (by obtain h | h := hx <;> simp [h, CutState.inWork]))
    have hnotAborting := habort (by obtain h | h := hx <;> simp [h])
    refine ⟨⟨fun h => absurd rfl h, fun _ => hnotAborting, hcounter, hbegun⟩, fun _ => hbound, by simp, fun _ => ?_⟩
    cases c <;> simp_all [Site.but, CutCauses.add, CutCauses.empty]
  have hmore (hx : x.state = .holding ∨ x.state = .held) :
      (if c = .silence then x else { x with holds := x.holds.add c }).safeAt e := by
    obtain ⟨hraised, hguarded⟩ := hhold hx
    have hbound := hwork (by obtain h | h := hx <;> simp [h, CutState.inWork])
    have hnotAborting := habort (by obtain h | h := hx <;> simp [h])
    split
    · next hc =>
      subst hc
      exact ⟨⟨hholds, habort, hcounter, hbegun⟩, hwork, hcut, hhold⟩
    · refine ⟨⟨?_, fun _ => hnotAborting, hcounter, hbegun⟩, fun _ => hbound, ?_, fun _ => ?_⟩
      · obtain h | h := hx <;> simp [h]
      · obtain h | h := hx <;> simp [h]
      · cases c <;> simp_all [Site.but, CutCauses.add]
  unfold CutStation.given
  split
  · next h => exact hfirst (.inl h)
  · next h => exact hfirst (.inr h)
  · next h => exact hmore (.inl h)
  · next h => exact hmore (.inr h)
  · next h1 h2 h3 h4 =>
    refine CutStation.safeAt_of_away e ⟨hholds, habort, hcounter, hbegun⟩ ?_
    cases hx : x.state <;> simp_all

theorem CutStation.safeAt.removeLevel {x : CutStation} {e : Site} (h : x.safeAt e) :
    ({ x with holds := { x.holds with level := false } } : CutStation).safeAt e := by
  obtain ⟨⟨hholds, habort, hcounter, hbegun⟩, hwork, hcut, hhold⟩ := h
  refine ⟨⟨fun h1 h2 => ?_, habort, hcounter, hbegun⟩, hwork, fun hx => ?_, hhold⟩
  · rw [show x.holds = CutCauses.empty from hholds h1 h2]
    rfl
  · obtain ⟨h1, h2, h3⟩ := hcut hx
    exact ⟨h1, h2, by rw [h3]; rfl⟩

/-! ### Sites through the operations -/

/-- The blocks that say where a station stands and what its site is. -/
def siteBlocks : List Block := [.context, .lift, .inputs, .probes, .stations]

theorem State.cut_of_only {m : List Block} {s t : State} (h : Only m s t) (hm : Block.stations ∉ m) (st : Station) :
    t.cut st = s.cut st := by
  have hstations : t.stations = s.stations := h.2 .stations hm
  rw [State.cut, State.cut, hstations]

theorem State.bound_reads (st : Station) : ReadsOnly [.context] fun s => (s.boundSlot st).isSome = true :=
  fun s t h hs => by
    have hcontext : t.context = s.context := h .context (by decide)
    have hbound : t.boundSlot st = s.boundSlot st := by
      unfold State.boundSlot State.slot
      rw [hcontext]
    show (t.boundSlot st).isSome = true
    rw [hbound]
    exact hs

theorem State.boundSlot_isSome_iff (s : State) (st : Station) :
    (s.boundSlot st).isSome = true ↔ ∃ i, (s.slot i).binding = some st := by
  unfold State.boundSlot
  rw [List.find?_isSome]
  simp [mem_ixAll]

theorem State.bound_of_keys {s t : State} (h : ∀ j, (t.slot j).key = (s.slot j).key) {st : Station}
    (hs : (s.boundSlot st).isSome = true) : (t.boundSlot st).isSome = true := by
  rw [boundSlot_isSome_iff] at hs ⊢
  obtain ⟨i, hi⟩ := hs
  obtain ⟨-, -, -, hbinding, -⟩ := Slot.key_eq_iff.mp (h i)
  exact ⟨i, hbinding.trans hi⟩

theorem State.bound_keptByUse (st : Station) : KeptByUse fun s => (s.boundSlot st).isSome = true :=
  KeptByUse.of_records
    (fun s t h => bound_reads st s t fun b hb => h b ((show [Block.context] ⊆ [.store, .context] by decide) hb))
    (fun s r _ => bound_of_keys fun j => (s.sameSlots_enqueue r j).1)
    (fun s n => (bound_reads st).keeps (s.spoilWindow_only n) (by decide))
    (fun s i w d => bound_of_keys fun j =>
      (s.sameSlots_setSlot i (sl := { s.slot i with working := w, dirty := d }) rfl rfl j).1)
    (fun s i => bound_of_keys (s.touchSlot_key i)) (fun s => bound_of_keys fun j => (s.sameSlots_stale j).1)

/-- Two states whose lift, inputs and probe units are the same. -/
theorem State.site_le {s t : State} {m : List Block} (h : Only m s t)
    (hm : ∀ b ∈ [Block.lift, .inputs, .probes], b ∉ m) {st : Station}
    (hbound : (s.boundSlot st).isSome = true → (t.boundSlot st).isSome = true) : (s.site st).le (t.site st) := by
  have hlift : t.lift = s.lift := h.2 .lift (hm _ (by decide))
  have hinputs : t.inputs = s.inputs := h.2 .inputs (hm _ (by decide))
  have hprobes : t.probes = s.probes := h.2 .probes (hm _ (by decide))
  simp only [Site.le, State.site, State.level?, State.probe, hlift, hinputs, hprobes]
  exact ⟨hbound, id, id, id, id⟩

theorem State.sitesSafe_reads : ReadsOnly siteBlocks State.sitesSafe := fun s t h hs st => by
  have hcontext : t.context = s.context := h .context (by decide)
  have hlift : t.lift = s.lift := h .lift (by decide)
  have hinputs : t.inputs = s.inputs := h .inputs (by decide)
  have hprobes : t.probes = s.probes := h .probes (by decide)
  have hstations : t.stations = s.stations := h .stations (by decide)
  have hsite : t.site st = s.site st := by
    unfold State.site State.level? State.probe State.boundSlot State.slot
    rw [hcontext, hlift, hinputs, hprobes]
  have hcut : t.cut st = s.cut st := by rw [State.cut, State.cut, hstations]
  rw [hcut, hsite]
  exact hs st

/-- Every station but one is safe at its site, and that one is in form. -/
def State.safeBut (st : Station) (s : State) : Prop :=
  (s.cut st).inForm ∧ ∀ st', st' ≠ st → (s.cut st').safeAt (s.site st')

section
variable {s t : State} (hs : s.sitesSafe)
include hs

theorem State.sitesSafe.frame {m : List Block} (h : Only m s t) (hm : ∀ b ∈ siteBlocks, b ∉ m) :
    t.sitesSafe := sitesSafe_reads.keeps h hm hs

theorem State.sitesSafe.of_le (hcut : ∀ st, t.cut st = s.cut st) (hsite : ∀ st, (s.site st).le (t.site st)) :
    t.sitesSafe := fun st => by
  rw [hcut]
  exact (hs st).mono (hsite st)

theorem State.sitesSafe.safeBut (st : Station) : s.safeBut st := ⟨(hs st).1, fun st' _ => hs st'⟩

/-- The slots are used, and nothing else about the sites changes. -/
theorem State.sitesSafe.use {m : List Block} (h : Only m s t)
    (hbound : ∀ st, (s.boundSlot st).isSome = true → (t.boundSlot st).isSome = true)
    (hm : ∀ b ∈ [Block.lift, .inputs, .probes, .stations], b ∉ m := by decide) : t.sitesSafe :=
  hs.of_le (fun st => State.cut_of_only h (hm _ (by decide)) st) fun st =>
    State.site_le h (fun b hb => hm b ((show [Block.lift, .inputs, .probes] ⊆ [.lift, .inputs, .probes, .stations] by
      decide) hb)) (hbound st)

theorem State.sitesSafe.touchStation (st : Station) : (s.touchStation st).sitesSafe :=
  hs.use (s.touchStation_only st) fun st' h => (bound_keptByUse st').touchStation h st

theorem State.sitesSafe.treatCut (st : Station) : (s.treatCut st).sitesSafe :=
  hs.use (s.treatCut_only st) fun st' h => (bound_keptByUse st').treatCut h st

theorem State.sitesSafe.rewriteBound (st : Station) (f : Record → Record) : (s.rewriteBound st f).sitesSafe :=
  hs.use (s.rewriteBound_only st f) fun st' h => (bound_keptByUse st').rewriteBound h st f

omit hs in
theorem State.putCut_site (s : State) (st st' : Station) (x : CutStation) : (s.putCut st x).site st' = s.site st' := by
  unfold State.putCut
  dsimp only
  split <;> rfl

omit hs in
theorem State.putCut_cut (s : State) (st st' : Station) (x : CutStation) :
    (s.putCut st x).cut st' = if st' = st then x else s.cut st' := by
  have hstations : (s.putCut st x).stations = s.stations.set st x := by
    unfold State.putCut
    dsimp only
    split <;> rfl
  rw [State.cut, hstations]
  split
  · next h => rw [h, Two.get_set_same]
  · next h => exact Two.get_set_other _ x h

omit hs in
theorem State.safeBut.putCut {st : Station} (h : s.safeBut st) {x : CutStation} (hx : x.safeAt (s.site st)) :
    (s.putCut st x).sitesSafe := fun st' => by
  rw [putCut_cut, putCut_site]
  split
  · next heq => rw [heq]; exact hx
  · next hne => exact h.2 st' hne

theorem State.sitesSafe.putCut (st : Station) {x : CutStation} (hx : x.safeAt (s.site st)) :
    (s.putCut st x).sitesSafe := (hs.safeBut st).putCut hx

omit hs in
theorem State.giveCause_cut (s : State) (c : CutCause) (st st' : Station) :
    (s.giveCause c st).cut st' = if st' = st then (s.cut st).given c else s.cut st' := by
  rw [State.cut, s.giveCause_stations st c]
  split
  · next h => rw [h, Two.get_set_same]
  · next h => exact Two.get_set_other _ _ h

theorem State.sitesSafe.giveCause (c : CutCause) (st : Station) : (s.giveCause c st).sitesSafe := fun st' => by
  have honly := s.giveCause_only c st
  have hsite : (s.site st').le ((s.giveCause c st).site st') :=
    State.site_le honly (by decide) fun h => (bound_reads st').keeps honly (by decide) h
  rw [giveCause_cut]
  split
  · next heq =>
    subst heq
    exact (((hs st').mono (Site.le_but _ c)).given).mono hsite
  · exact (hs st').mono hsite

/-! ### Level Maintenance and the lift -/

omit hs in
theorem State.putLift_site (s : State) (l : Lift) (v : Level) (st : Station) :
    (s.putLift l v).site st = { s.site st with raised := decide (l.state = .raised) } := by
  unfold State.putLift
  dsimp only
  split <;> rfl

omit hs in
theorem State.putLift_cut (s : State) (l : Lift) (v : Level) (st : Station) : (s.putLift l v).cut st = s.cut st :=
  cut_of_only (s.putLift_only l v) (by decide) st

/-- The lift written, and not out of RAISED. -/
theorem State.sitesSafe.putLift {l : Lift} {v : Level} (h : s.lift.state = .raised → l.state = .raised) :
    (s.putLift l v).sitesSafe := by
  refine hs.of_le (fun st => putLift_cut s l v st) fun st => ?_
  rw [putLift_site]
  exact ⟨id, id, id, fun hr => by simpa [State.site] using h (by simpa [State.site] using hr), id⟩

theorem State.sitesSafe.leaveHeld (st : Station) : (s.leaveHeld st).sitesSafe := by
  unfold State.leaveHeld
  split
  · next hheld =>
    obtain ⟨⟨-, habort, hcounter, hbegun⟩, hwork, -, hhold⟩ := hs st
    have hclear := hhold (.inr hheld.1)
    rw [hheld.2] at hclear
    have happroach : ({ s.cut st with state := .approach } : CutStation).safeAt (s.site st) := by
      refine ⟨⟨fun _ _ => hheld.2, fun _ => habort (by simp [hheld.1]), hcounter, hbegun⟩,
        fun _ => hwork (.inr hheld.1), fun _ => ?_, by simp⟩
      simpa [CutCauses.empty, hheld.2] using hclear
    exact ((hs.putCut st happroach).frame (State.driveRoller_only _ st _) (by decide)).frame
      (State.driveApproach_only _ st) (by decide)
  · exact hs

theorem State.sitesSafe.removeLevel (st : Station) : (s.removeLevel st).sitesSafe :=
  (hs.putCut st (hs st).removeLevel).leaveHeld st

theorem State.sitesSafe.endUrgent : s.endUrgent.sitesSafe := ((hs.putLift id).removeLevel .a).removeLevel .b

theorem State.sitesSafe.completeRelevel (moved : Bool) : (s.completeRelevel moved).sitesSafe := by
  have hput : (s.putLift { s.lift with moveTimer := .stopped }
      { s.level with
        epoch := if moved then s.level.epoch + 1 else s.level.epoch
        backlog := s.level.backlog - 1
        relevel := none }).sitesSafe := hs.putLift id
  exact ite_keeps (P := State.sitesSafe) hput.endUrgent hput

omit hs in
theorem State.sitesSafe.startRelevels (n : Nat) {s : State} (hs : s.sitesSafe) :
    (State.startRelevels n s).sitesSafe := by
  induction n generalizing s with
  | zero => exact hs
  | succ n ih =>
    unfold State.startRelevels
    split
    · exact hs
    · exact ite_keeps (ite_keeps (hs.putLift id) (ih (hs.completeRelevel false))) hs

theorem State.sitesSafe.testStart : s.testStart.sitesSafe := State.sitesSafe.startRelevels _ hs

theorem State.sitesSafe.testUrgent : s.testUrgent.sitesSafe := by
  unfold State.testUrgent
  refine ite_keeps ?_ hs
  exact ((((hs.putLift id).giveCause _ .a).giveCause _ .b).frame (State.pauseSweep_only _ _ .a) (by decide)).frame
    (State.pauseSweep_only _ _ .b) (by decide)

theorem State.sitesSafe.enterRaised : s.enterRaised.sitesSafe := ((hs.putLift id).testUrgent).testStart

omit hs in
theorem State.departRaised_site_le (s : State) (st : Station) : (s.site st).le (s.departRaised.site st) := by
  have honly := s.departRaised_only
  have hlift : s.departRaised.lift = s.lift.revalve none := s.departRaised_lift
  have hinputs : s.departRaised.inputs = s.inputs := honly.2 .inputs (by decide)
  have hprobes : s.departRaised.probes = s.probes := honly.2 .probes (by decide)
  simp only [Site.le, State.site, State.level?, State.probe, hlift, hinputs, hprobes, Lift.revalve]
  exact ⟨(bound_keptByUse st).departRaised, id, id, id, id⟩

omit hs in
/-- The departure from RAISED gives each station the cause that stands in for the lift. -/
theorem State.sitesSafe_departRaised (h : ∀ st, (s.cut st).safeAt ((s.site st).but .lift)) :
    s.departRaised.sitesSafe := fun st => by
  rw [departRaised_cut]
  exact (h st).given.mono (departRaised_site_le s st)

/-- The lift written, the departure handed on when it was RAISED. -/
theorem State.sitesSafe.putLift_departing (l : Lift) (v : Level) :
    (if s.lift.state = .raised then (s.putLift l v).departRaised else s.putLift l v).sitesSafe := by
  split
  · refine sitesSafe_departRaised fun st => ?_
    rw [putLift_cut, putLift_site]
    exact (hs st).mono ⟨id, id, id, fun _ => rfl, id⟩
  · next hstate => exact hs.putLift fun h => absurd h hstate

theorem State.sitesSafe.arriveAtRail : s.arriveAtRail.sitesSafe := by
  unfold State.arriveAtRail
  split
  · next hrail =>
    simp only [Lift.legToRail, Bool.and_eq_true, decide_eq_true_eq] at hrail
    exact hs.putLift fun h => by simp [hrail.1.1] at h
  · exact hs

theorem State.sitesSafe.enterLeg (m : Move) : (s.enterLeg m).sitesSafe := by
  unfold State.enterLeg
  split
  · exact hs
  · exact (hs.putLift_departing _ _).arriveAtRail

theorem State.sitesSafe.moveStart (target : Int) (raise : Bool) : (s.moveStart target raise).sitesSafe := by
  unfold State.moveStart
  split
  · exact hs
  · exact hs.enterLeg _

theorem State.sitesSafe.testBridges : s.testBridges.sitesSafe := by
  unfold State.testBridges
  split
  · exact ite_keeps (hs.enterLeg _) hs
  · exact ite_keeps (hs.enterLeg _) hs
  · exact hs

theorem State.sitesSafe.endLeg (hleg : s.lift.state ≠ .raised) : s.endLeg.sitesSafe := by
  unfold State.endLeg
  split
  · exact hs
  · refine ite_keeps ?_ (ite_keeps ?_ hs.arriveAtRail)
    · exact (hs.putLift fun h => absurd h hleg).testBridges
    · exact (hs.putLift fun h => absurd h hleg).enterRaised

theorem State.sitesSafe.enterHold (c : LiftCause) : (s.enterHold c).sitesSafe := hs.putLift_departing _ _

theorem State.sitesSafe.enterFault (c : FaultCause) : (s.enterFault c).sitesSafe := hs.putLift_departing _ _

theorem State.sitesSafe.giveLiftCause (c : LiftCause) : (s.giveLiftCause c).sitesSafe := by
  have hadd : (s.addLiftCause c).sitesSafe := hs.putLift id
  have hcancel : s.cancelUnpark.sitesSafe := hs.putLift id
  have hhold : (s.enterHold c).sitesSafe := hs.enterHold c
  unfold State.giveLiftCause
  split
  all_goals first
    | exact hs
    | exact hadd
    | exact hcancel
    | exact hhold
    | exact ite_keeps hadd hs
    | exact ite_keeps hhold hs

theorem State.sitesSafe.testEngage : s.testEngage.sitesSafe := by
  unfold State.testEngage
  split
  · next hwait => exact hs.putLift fun h => by simp [hwait.1] at h
  · exact hs

theorem State.sitesSafe.testRelease : s.testRelease.sitesSafe := by
  unfold State.testRelease
  exact ite_keeps (hs.putLift fun _ => rfl).enterRaised hs

theorem State.sitesSafe.testPressure : s.testPressure.sitesSafe := by
  unfold State.testPressure
  exact ite_keeps (hs.putLift id).testRelease hs

theorem State.sitesSafe.beginUnparking (hparked : s.lift.state = .parked) : s.beginUnparking.sitesSafe :=
  (hs.putLift fun h => by simp [hparked] at h).testPressure

theorem State.sitesSafe.park : s.park.state.sitesSafe := by
  unfold State.park
  split
  · exact hs
  next hraised =>
  split
  · exact hs
  split
  · exact hs
  · have hleft := hs.putLift_departing
      { s.lift with state := .parking } { s.level with lockRaised := true, parkStep := some .engageWait }
    rw [if_pos (by simpa using hraised)] at hleft
    exact hleft.testEngage

theorem State.sitesSafe.unpark : s.unpark.state.sitesSafe := by
  unfold State.unpark
  split
  · exact hs
  next hparked =>
  split
  · exact hs
  split
  · exact hs
  split
  · exact hs.putLift id
  · exact hs.beginUnparking (by simpa using hparked)

theorem State.sitesSafe.intervalExpires : s.intervalExpires.sitesSafe := by
  unfold State.intervalExpires
  split
  · exact ite_keeps (hs.putLift id).testUrgent.testStart (hs.putLift id)
  · exact hs

theorem State.sitesSafe.dwellExpires : s.dwellExpires.sitesSafe := by
  unfold State.dwellExpires
  split
  · next hparked =>
    have hput : (s.putLift s.lift { s.level with dwell := .expired }).sitesSafe := hs.putLift id
    exact ite_keeps (hput.beginUnparking (by rw [putLift_lift]; exact hparked.1)) hput
  · exact hs

/-! ### The lift commands and reports -/

theorem State.sitesSafe.raiseLift (h : Int) : (s.raiseLift h).state.sitesSafe := by
  have heffect (h : Int) : (s.raiseEffect h).sitesSafe := by
    unfold State.raiseEffect
    split
    · exact hs.putLift id
    · exact hs.enterLeg _
    · exact hs.moveStart h true
  unfold State.raiseLift
  dsimp only
  split
  · exact hs
  · exact heffect _

theorem State.sitesSafe.lowerLift : s.lowerLift.state.sitesSafe := by
  have heffect : s.lowerEffect.sitesSafe := by
    unfold State.lowerEffect
    split
    · exact hs
    · exact hs.enterLeg _
    · exact hs.moveStart 0 false
  unfold State.lowerLift
  split
  · exact hs
  split
  · exact hs
  · exact heffect

theorem State.sitesSafe.stopLift : s.stopLift.state.sitesSafe := by
  unfold State.stopLift
  split
  · exact hs
  · exact hs.giveLiftCause .host

theorem State.sitesSafe.resumeLift : s.resumeLift.state.sitesSafe := by
  unfold State.resumeLift
  split
  · exact hs
  split
  · exact hs
  split
  · split
    · exact hs
    split
    · exact hs
    split
    · exact hs
    · exact hs.enterLeg _
  split
  · exact (hs.putLift fun _ => rfl).enterRaised
  · exact hs

theorem State.sitesSafe.clearFault : s.clearFault.state.sitesSafe := by
  unfold State.clearFault
  split
  · next hfault => exact hs.putLift fun h => by simp [hfault] at h
  · exact hs

theorem State.sitesSafe.reportLift (w : Wheel) (height : Nat) : (s.reportLift w height).sitesSafe := by
  unfold State.reportLift
  dsimp only
  split
  · refine ite_keeps ?_ ?_
    · refine State.sitesSafe.enterFault ?_ .trip
      exact hs.putLift id
    · refine State.sitesSafe.arriveAtRail (hs.putLift ?_)
      rw [Lift.synchronize_eq]
      exact id
  · exact hs.putLift id

theorem State.sitesSafe.arrival : s.arrival.sitesSafe := by
  unfold State.arrival
  split
  · next hstate => exact ite_keeps (hs.endLeg (by simp [hstate])) hs
  · next hstate => exact ite_keeps (hs.endLeg (by simp [hstate])) hs
  · exact ite_keeps (hs.completeRelevel true).testStart hs
  · exact hs

theorem State.sitesSafe.liftArrives (w : Wheel) : (s.liftArrives w).sitesSafe := by
  unfold State.liftArrives
  exact ite_keeps hs (State.sitesSafe.arrival (hs.putLift id))

theorem State.sitesSafe.moveTimesOut : s.moveTimesOut.sitesSafe := by
  unfold State.moveTimesOut
  split
  · exact hs
  · exact hs.enterFault .timeout

end

end Sys2Proof.Machine
end

section
/-! PROOFS. Cutting stays where it may: the operations of the stations, the probe units, the slots and the inputs, and
the rows. -/

namespace Sys2Proof.Machine

section
variable {s t : State} (hs : s.sitesSafe)
include hs

/-! ### The tools on their way home -/

theorem State.sitesSafe.putAway (st : Station) {x : CutStation} (hform : x.inForm)
    (h : x.state = .idle ∨ x.state = .retract ∨ x.state = .aborting ∨ x.state = .stopped) :
    (s.putCut st x).sitesSafe := hs.putCut st (CutStation.safeAt_of_away _ hform h)

theorem State.sitesSafe.completeAbort (st : Station) (h : (s.cut st).state = .aborting) :
    (s.completeAbort st).sitesSafe := by
  have hput {u : State} (hu : u.sitesSafe) (hcut : u.cut st = s.cut st) (p : Option PreCut) :
      (u.putCut st { u.cut st with state := .idle, abortKind := .none, preCut := p }).sitesSafe := by
    obtain ⟨hholds, -, hcounter, hbegun⟩ := (hu st).1
    refine hu.putAway st ⟨fun _ _ => hholds ?_ ?_, fun _ => rfl, hcounter, hbegun⟩ (.inl rfl) <;> simp [hcut, h]
  unfold State.completeAbort
  dsimp only
  split
  · exact hput (hs.treatCut st) (cut_of_only (s.treatCut_only st) (by decide) st) _
  · exact hput hs rfl _

theorem State.sitesSafe.completeCut (st : Station) (h : (s.cut st).state = .retract) :
    (s.completeCut st).sitesSafe := by
  have hwritten (f : Record → Record) : ((s.rewriteBound st f).removePlan st).sitesSafe :=
    (hs.rewriteBound st f).frame (State.removePlan_only _ st) (by decide)
  have hcut (f : Record → Record) : ((s.rewriteBound st f).removePlan st).cut st = s.cut st :=
    (cut_of_only (State.removePlan_only _ st) (by decide) st).trans
      (cut_of_only (s.rewriteBound_only st f) (by decide) st)
  refine (hwritten _).putAway st ?_ (.inl rfl)
  obtain ⟨hholds, habort, hcounter, hbegun⟩ := (hwritten _ st).1
  refine ⟨fun _ _ => hholds ?_ ?_, fun _ => habort ?_, hcounter, hbegun⟩ <;> simp [hcut, h]

theorem State.sitesSafe.testHome (st : Station) : (s.testHome st).sitesSafe := by
  unfold State.testHome
  split
  · split
    · next h => exact hs.completeCut st h
    · next h => exact hs.completeAbort st h
    · exact hs
  · exact hs

omit hs in
/-- A station brought to ABORTING is safe wherever it stood. -/
theorem State.safeBut.enterAborting {st : Station} (h : s.safeBut st) (k : AbortKind) :
    (s.enterAborting k st).sitesSafe := by
  obtain ⟨-, -, hcounter, hbegun⟩ := h.1
  have hput : (s.putCut st { s.cut st with state := .aborting, abortKind := k, holds := CutCauses.empty }).sitesSafe :=
    h.putCut (CutStation.safeAt_of_away _ ⟨fun _ _ => rfl, fun h => absurd rfl h, hcounter, hbegun⟩
      (.inr (.inr (.inl rfl))))
  exact State.sitesSafe.testHome (ite_keeps (P := State.sitesSafe) (hput.frame (State.sendHome_only _ st) (by decide))
    (hput.frame (State.driveTool_only _ st _) (by decide))) st

theorem State.sitesSafe.enterAborting (st : Station) (k : AbortKind) : (s.enterAborting k st).sitesSafe :=
  (hs.safeBut st).enterAborting k

theorem State.sitesSafe.stopStation (st : Station) : (s.stopStation st).sitesSafe := by
  obtain ⟨-, -, hcounter, hbegun⟩ := (hs st).1
  unfold State.stopStation
  dsimp only
  split
  · exact hs
  · refine State.sitesSafe.frame (s := State.driveTool st _ _) ?_ (State.driveRoller_only _ st _) (by decide)
    refine State.sitesSafe.frame ?_ (State.driveTool_only _ st _) (by decide)
    refine State.sitesSafe.putAway ?_ st ⟨fun _ _ => rfl, fun _ => rfl, hcounter, hbegun⟩ (.inr (.inr (.inr rfl)))
    exact ite_keeps (hs.treatCut st) hs

/-! ### The cut -/

omit hs in
theorem refusal_eq_none_iff {p : Prop} [Decidable p] {c : Code} {rest : Option Code} :
    (if p then some c else rest) = none ↔ ¬p ∧ rest = none := by
  split <;> simp [*]

omit hs in
/-- The checks of CUT START that R160 rests on, when none fails. -/
theorem State.cutRefusal_none {st : Station} (h : s.cutRefusal st = none) :
    (s.cut st).state = .idle ∧ (s.boundSlot st).isSome = true ∧ s.level? st.holddown = true ∧
      (s.probe st).calMode = false ∧ s.lift.state = .raised ∧ s.level? .guardClosed = true := by
  simp only [State.cutRefusal, refusal_eq_none_iff, ne_eq, not_not, Bool.not_eq_true, Bool.not_eq_true',
    Bool.and_eq_true, Bool.not_eq_false, Option.isNone_eq_false_iff] at h
  obtain ⟨hcal, -, hidle, -, hraised, hbound, -, ⟨hguard, hclamp⟩, -⟩ := h
  exact ⟨hidle, hbound, hclamp, hcal, hraised, hguard⟩

omit hs in
/-- An idle station goes to APPROACH where R160 allows it. -/
theorem CutStation.safeAt.approach {x : CutStation} {e : Site} (h : x.safeAt e) (hidle : x.state = .idle)
    (hwork : e.bound = true ∧ e.clamped = true ∧ e.calMode = false) (hcut : e.raised = true ∧ e.guarded = true) :
    ({ x with state := .approach } : CutStation).safeAt e := by
  obtain ⟨⟨hholds, habort, hcounter, hbegun⟩, -⟩ := h
  have hempty := hholds (by simp [hidle]) (by simp [hidle])
  exact ⟨⟨fun _ _ => hempty, fun _ => habort (by simp [hidle]), hcounter, hbegun⟩, fun _ => hwork,
    fun _ => ⟨hcut.1, hcut.2, hempty⟩, by simp⟩

theorem State.sitesSafe.startCut {st : Station} (h : s.cutRefusal st = none) (i : Ix) (p : Plan) :
    (s.startCut st i p).sitesSafe := by
  obtain ⟨hidle, hbound, hclamp, hcal, hraised, hguard⟩ := cutRefusal_none h
  obtain ⟨⟨hholds, habort, hcounter, -⟩, -⟩ := hs st
  have hplan := s.putPlan_only st (some { p with inExecution := true, passIndex := 1 })
  have hwrite {u : State} {x : CutStation} (hu : u.sitesSafe) (hle : (s.site st).le (u.site st)) (hx : x.inForm)
      (hstate : x.state = .idle) (f : Record → Record) :
      ((((u.putCut st x).rewriteBound st f).driveRoller st .turning).putCut st
        { ((u.putCut st x).rewriteBound st f).cut st with state := .approach }).sitesSafe := by
    have hput : ((u.putCut st x).rewriteBound st f).sitesSafe := (hu.putAway st hx (.inl hstate)).rewriteBound st f
    have hcut : ((u.putCut st x).rewriteBound st f).cut st = x := by
      rw [cut_of_only (State.rewriteBound_only _ st f) (by decide), putCut_cut, if_pos rfl]
    have hsite : (s.site st).le (((u.putCut st x).rewriteBound st f).site st) := by
      refine hle.trans (Site.le.trans (Site.le_of_eq (putCut_site u st st x)) ?_)
      exact State.site_le (State.rewriteBound_only _ st f) (by decide) fun hb => (bound_keptByUse st).rewriteBound hb
        st f
    obtain ⟨h1, h2, h3, h4, h5⟩ := hsite
    have happroach := (hput st).approach (by rw [hcut, hstate]) ⟨h1 hbound, h2 hclamp, h3 hcal⟩
      ⟨h4 (by simpa [State.site] using hraised), h5 hguard⟩
    exact (hput.frame (State.driveRoller_only _ st _) (by decide)).putCut st happroach
  refine ((hwrite (hs.frame hplan (by decide)) ?_ ?_ ?_ _).frame (State.driveApproach_only _ st)
    (by decide)).touchStation st
  · exact State.site_le hplan (by decide) fun hb => (bound_reads st).keeps hplan (by decide) hb
  · exact ⟨fun _ _ => hholds (by simp [hidle]) (by simp [hidle]), fun _ => habort (by simp [hidle]), hcounter,
      by simp⟩
  · exact hidle

theorem State.sitesSafe.cutStart (x : Station × Bool) : (s.cutStart x).state.sitesSafe := by
  unfold State.cutStart
  split
  · exact hs
  · exact hs
  · next hrefusal _ =>
    split
    · exact hs
    · exact hs.startCut hrefusal _ _

theorem State.sitesSafe.feedHold (st : Station) : (s.feedHold st).state.sitesSafe := by
  unfold State.feedHold
  split
  · exact (hs.giveCause .host st).touchStation st
  · exact hs

theorem State.sitesSafe.resumeCut (st : Station) : (s.resumeCut st).state.sitesSafe := by
  unfold State.resumeCut
  dsimp only
  split
  · exact hs
  next hstate =>
  split
  · exact hs
  next hraised =>
  split
  · exact hs
  next hguard =>
  split
  · exact hs
  · have hheld : (s.cut st).state = .holding ∨ (s.cut st).state = .held := by
      by_contra hnot
      exact hstate (not_or.mp hnot)
    obtain ⟨⟨-, habort, hcounter, hbegun⟩, hwork, -⟩ := hs st
    have hput : (s.putCut st { s.cut st with holds := (s.cut st).holds.resumed }).sitesSafe := by
      refine hs.putCut st ⟨⟨?_, habort, hcounter, hbegun⟩, hwork, ?_, fun _ => ⟨.inl ?_, .inl ?_⟩⟩
      · exact fun h1 h2 => absurd hheld (not_or.mpr ⟨h1, h2⟩)
      · intro hcut
        obtain h | h := hheld <;> simp [h] at hcut
      · simpa [State.site] using hraised
      · simpa [State.site] using hguard
    exact (hput.leaveHeld st).touchStation st

theorem State.sitesSafe.cutAbort (st : Station) : (s.cutAbort st).state.sitesSafe := by
  have hleft := hs.enterAborting st
  unfold State.cutAbort
  split
  · exact (hleft .cut).testStart.touchStation st
  · exact (hleft .cut).testStart.touchStation st
  · exact (hleft .cut).testStart.touchStation st
  · exact (hleft .cut).touchStation st
  · exact hs.touchStation st
  · split
    · exact (hleft .recovery).touchStation st
    · exact hs
  · exact hs
  · exact hs

theorem State.sitesSafe.reportTool (st : Station) (lateral radius : Int) :
    (s.reportTool st lateral radius).sitesSafe := hs.putCut st (hs st)

theorem State.sitesSafe.approachArrives (st : Station) : (s.approachArrives st).sitesSafe := by
  unfold State.approachArrives
  dsimp only
  split
  · next happroach =>
    obtain ⟨⟨hholds, habort, hcounter, hbegun⟩, hwork, hcut, -⟩ := hs st
    refine State.sitesSafe.frame ?_ (State.driveFeed_only _ st) (by decide)
    refine hs.putCut st ⟨⟨?_, ?_, ?_, by simp⟩, ?_, fun _ => hcut (.inl happroach), by simp⟩
    · exact fun _ _ => hholds (by simp [happroach]) (by simp [happroach])
    · exact fun _ => habort (by simp [happroach])
    · cases (s.cut st).begun
      · exact le_rfl
      · exact hcounter
    · exact fun _ => hwork (.inl (by simp [happroach, CutState.inWork]))
  · exact hs

theorem State.sitesSafe.backoffArrives (st : Station) : (s.backoffArrives st).sitesSafe := by
  unfold State.backoffArrives
  dsimp only
  split
  · next hholding =>
    obtain ⟨⟨-, habort, hcounter, hbegun⟩, hwork, -, hhold⟩ := hs st
    have hput : ((s.driveRoller st .stop).putCut st { s.cut st with state := .held }).sitesSafe := by
      refine (hs.frame (s.driveRoller_only st _) (by decide)).putCut st ⟨⟨?_, ?_, hcounter, hbegun⟩, ?_, by simp, ?_⟩
      · exact fun _ h => absurd rfl h
      · exact fun _ => habort (by simp [hholding])
      · exact fun _ => hwork (.inl (by simp [hholding, CutState.inWork]))
      · exact fun _ => hhold (.inl hholding)
    exact ite_keeps (hput.leaveHeld st) hput.testStart
  · exact hs

theorem State.sitesSafe.endPass (st : Station) (hcutting : (s.cut st).state = .cutting) :
    (s.endPass st).sitesSafe := by
  obtain ⟨⟨hholds, habort, hcounter, hbegun⟩, hwork, hcut, -⟩ := hs st
  have hform (c : CutState) : ({ s.cut st with
      state := c
      counter := 0
      begun := false
      completed := (s.cut st).completed + 1 } : CutStation).inForm :=
    ⟨fun _ _ => hholds (by simp [hcutting]) (by simp [hcutting]), fun _ => habort (by simp [hcutting]),
      Nat.zero_le _, fun _ _ => rfl⟩
  have hlast := ((((hs.putAway st (hform .retract) (.inr (.inl rfl))).frame (State.sendHome_only _ st)
    (by decide)).testHome
    st).testStart)
  unfold State.endPass
  dsimp only
  split
  · split
    · refine State.sitesSafe.frame ?_ (State.driveApproach_only _ st) (by decide)
      refine State.sitesSafe.putCut (hs.frame (s.putPlan_only st _) (by decide)) st ?_
      exact ⟨hform .approach, fun _ => hwork (.inl (by simp [hcutting, CutState.inWork])),
        fun _ => hcut (.inr hcutting), by simp⟩
    · exact hlast
  · exact hlast

theorem State.sitesSafe.pulse (st : Station) : (s.pulse st).sitesSafe := by
  unfold State.pulse
  dsimp only
  split
  · next hcutting =>
    refine ite_keeps (hs.endPass st hcutting) (hs.putCut st ?_)
    obtain ⟨⟨hholds, habort, hcounter, hbegun⟩, hrest⟩ := hs st
    refine ⟨⟨hholds, habort, (Nat.sub_le _ _).trans hcounter, fun hb he => ?_⟩, hrest⟩
    simp [hbegun hb he]
  · exact hs

/-! ### The sweeps, the probe units and the silence -/

theorem State.sitesSafe.sweepStop (st : Station) : (s.sweepStop st).state.sitesSafe := by
  unfold State.sweepStop
  split
  · exact (hs.frame (s.pauseSweep_only .host st) (by decide)).testStart.touchStation st
  split
  · exact (hs.frame (s.abandonSweep_only st) (by decide)).touchStation st
  · exact hs

theorem State.sitesSafe.advance (st : Station) (w : Sweep) (r : SweepRun) : (s.advance st w r).sitesSafe := by
  unfold State.advance
  refine ite_keeps (hs.frame (s.awaitPosition_only st _) (by decide))
    (ite_keeps (hs.frame (s.beginIndexing_only st _) (by decide)) ?_)
  exact (((hs.frame (s.putSweep_only st _) (by decide)).frame (State.driveProbe_only _ st _) (by decide)).frame
    (State.notify_only _ _) (by decide)).testStart

theorem State.sitesSafe.sampleAnswer (st : Station) (l r : Reading) : (s.sampleAnswer st l r).sitesSafe := by
  unfold State.sampleAnswer
  split
  · exact hs
  · exact hs.frame (s.discardAnswer_only st) (by decide)
  · refine ite_keeps ?_ (hs.frame (s.discardAnswer_only st) (by decide))
    unfold State.takeSample
    dsimp only
    split
    · exact ((hs.frame (s.putRequest_only st _) (by decide)).frame (State.writePair_only _ st _ _ _)
        (by decide)).advance st _ _
    · exact hs.frame (s.putRequest_only st _) (by decide)

theorem State.sitesSafe.silenceEffects : s.silenceEffects.sitesSafe :=
  (((((hs.giveLiftCause .silence).giveCause _ .a).giveCause _ .b).frame
    (State.pauseSweep_only _ _ .a) (by decide)).frame (State.pauseSweep_only _ _ .b) (by decide)).testStart

omit hs in
theorem State.putProbe_site (s : State) (st st' : Station) (p : Probe) :
    (s.putProbe st p).site st' =
      { s.site st' with calMode := if st' = st then p.calMode else (s.site st').calMode } := by
  have hprobes : (s.putProbe st p).probes = s.probes.set st p := by
    unfold State.putProbe
    dsimp only
    split <;> rfl
  have hprobe : (s.putProbe st p).probe st' = if st' = st then p else s.probe st' := by
    rw [State.probe, hprobes]
    split
    · next h => rw [h, Two.get_set_same]
    · next h => exact Two.get_set_other _ p h
  simp only [State.site, State.boundSlot, State.slot, State.level?, putProbe_context, putProbe_lift, putProbe_inputs,
    hprobe]
  split <;> rfl

theorem State.sitesSafe.putProbe (st : Station) {p : Probe}
    (h : (s.probe st).calMode = false → p.calMode = false) : (s.putProbe st p).sitesSafe := by
  refine hs.of_le (fun st' => cut_of_only (s.putProbe_only st p) (by decide) st') fun st' => ?_
  rw [putProbe_site]
  refine ⟨id, id, fun hc => ?_, id, id⟩
  dsimp only
  split
  · next heq => exact h (heq ▸ hc)
  · exact hc

/-- Calibration mode is switched on at a station at rest. -/
theorem State.sitesSafe.putProbe_of_idle (st : Station) (p : Probe) (h : (s.cut st).state = .idle) :
    (s.putProbe st p).sitesSafe := fun st' => by
  rw [cut_of_only (s.putProbe_only st p) (by decide)]
  by_cases heq : st' = st
  · rw [heq]
    exact CutStation.safeAt_of_away _ (hs st).1 (.inl h)
  · rw [putProbe_site, if_neg heq]
    exact hs st'

theorem State.sitesSafe.calibrateOn (st : Station) : (s.calibrateOn st).state.sitesSafe := by
  unfold State.calibrateOn
  dsimp only
  split
  · exact hs.touchStation st
  split
  · exact hs
  split
  · exact hs
  · next hrest => exact (hs.putProbe_of_idle st _ (by simpa using (not_or.mp hrest).1)).touchStation st

theorem State.sitesSafe.calibrateOff (st : Station) : (s.calibrateOff st).state.sitesSafe := by
  unfold State.calibrateOff
  dsimp only
  split
  · exact hs.touchStation st
  split
  · exact State.sitesSafe.touchStation (hs.putProbe st fun _ => rfl) st
  · refine State.sitesSafe.touchStation (State.sitesSafe.frame (State.sitesSafe.frame (hs.putProbe st fun _ => ?_)
      (State.notify_only _ _) (by decide)) (State.driveProbe_only _ st _) (by decide)) st
    rfl

/-- A probe unit written with the mode it has. -/
theorem State.sitesSafe.keepMode (st : Station) {p : Probe} (h : p.calMode = (s.probe st).calMode) :
    (s.putProbe st p).sitesSafe := hs.putProbe st fun hoff => h.trans hoff

theorem State.sitesSafe.probeReference (st : Station) : (s.probeReference st).state.sitesSafe := by
  unfold State.probeReference
  dsimp only
  split_ifs
  iterate 5 exact hs
  refine State.sitesSafe.touchStation (State.sitesSafe.frame ?_ (State.driveProbe_only _ st _) (by decide)) st
  exact hs.keepMode st rfl

theorem State.sitesSafe.calibrateMeasure (st : Station) : (s.calibrateMeasure st).state.sitesSafe := by
  unfold State.calibrateMeasure
  dsimp only
  split_ifs
  iterate 4 exact hs
  refine State.sitesSafe.touchStation (State.sitesSafe.frame ?_ (State.driveProbe_only _ st _) (by decide)) st
  refine State.sitesSafe.frame ?_ (State.notify_only _ _) (by decide)
  exact hs.keepMode st rfl

theorem State.sitesSafe.padReached (st : Station) : (s.padReached st).sitesSafe :=
  ite_keeps (P := State.sitesSafe) (hs.keepMode st rfl) hs

theorem State.sitesSafe.padReading (st : Station) (l r : Reading) : (s.padReading st l r).sitesSafe := by
  unfold State.padReading
  dsimp only
  split
  · refine State.sitesSafe.frame ?_ (State.driveProbe_only _ st _) (by decide)
    split
    · exact hs.keepMode st rfl
    · exact hs.keepMode st rfl
  · exact hs

theorem State.sitesSafe.settles (st : Station) : (s.settles st).sitesSafe := by
  unfold State.settles
  split
  · exact hs
  · exact hs.keepMode st rfl

theorem State.sitesSafe.ringReached (st : Station) : (s.ringReached st).sitesSafe :=
  ite_keeps (P := State.sitesSafe) (hs.keepMode st rfl) hs

theorem State.sitesSafe.endCalibration (st : Station) {p : Probe} (res : CalResult)
    (h : p.calMode = (s.probe st).calMode) : (s.endCalibration st p res).sitesSafe := by
  refine State.sitesSafe.frame (State.sitesSafe.frame ?_ (State.notify_only _ _) (by decide))
    (State.driveProbe_only _ st _) (by decide)
  exact hs.keepMode st h

theorem State.sitesSafe.calibrationReading (st : Station) (l r : Reading) :
    (s.calibrationReading st l r).sitesSafe := by
  have hfinish (taken : List (Pair Int)) (ring : Int) : (s.finishCalibration st taken ring).sitesSafe := by
    unfold State.finishCalibration
    exact ite_keeps (hs.endCalibration st _ rfl) (hs.endCalibration st _ rfl)
  unfold State.calibrationReading
  dsimp only
  split
  · exact hs.keepMode st rfl
  split
  · split
    · exact ite_keeps (hfinish _ _) (hs.keepMode st rfl)
    · exact hs.endCalibration st _ rfl
  · exact hs

/-! ### The slots -/

omit hs in
/-- A slot that is bound to no station may change, and every other keeps what it holds. -/
theorem State.bound_of_keys_but {i : Ix} (hunbound : (s.slot i).binding = none)
    (hkeys : ∀ j, j ≠ i → (t.slot j).key = (s.slot j).key) (st : Station) (hb : (s.boundSlot st).isSome = true) :
    (t.boundSlot st).isSome = true := by
  rw [boundSlot_isSome_iff] at hb ⊢
  obtain ⟨j, hj⟩ := hb
  have hne : j ≠ i := fun h => by rw [h, hunbound] at hj; cases hj
  obtain ⟨-, -, -, hbinding, -⟩ := Slot.key_eq_iff.mp (hkeys j hne)
  exact ⟨j, hbinding.trans hj⟩

/-- A slot that is bound to no station changes, and of the sites and stations nothing else. -/
theorem State.sitesSafe.changeSlot {m : List Block} (h : Only m s t) {i : Ix} (hunbound : (s.slot i).binding = none)
    (hkeys : ∀ j, j ≠ i → (t.slot j).key = (s.slot j).key)
    (hm : ∀ b ∈ [Block.lift, .inputs, .probes, .stations], b ∉ m := by decide) : t.sitesSafe :=
  hs.use h (bound_of_keys_but hunbound hkeys) hm

theorem State.sitesSafe.beginLoad {i : Ix} (x : OpenParams) (h : (s.slot i).binding = none) :
    (s.beginLoad i x).sitesSafe := by
  refine hs.changeSlot (s.beginLoad_only i x) h fun j hj => ?_
  unfold State.beginLoad
  rw [(sameSlots_enqueue _ _ j).1, touchSlot_key, setSlot_slot, if_neg hj]

theorem State.sitesSafe.beginEviction {i : Ix} (n : Nat) (x : OpenParams) (h : (s.slot i).binding = none) :
    (s.beginEviction i n x).sitesSafe := by
  refine hs.changeSlot (s.beginEviction_only i n x) h fun j hj => ?_
  unfold State.beginEviction
  rw [(sameSlots_enqueue _ _ j).1, (sameSlots_queueWrite _ n i j).1, touchSlot_key, setSlot_slot, if_neg hj]

theorem State.sitesSafe.openRecord (hserved : s.slotsServed) (x : OpenParams) : (s.openRecord x).state.sitesSafe := by
  have hinto (x : OpenParams) (code : Code) : (s.openInto x code).state.sitesSafe := by
    unfold State.openInto
    split
    · next i hfree =>
      split
      · exact hs.beginLoad x (hserved.unbound (by simp [freeSlotIx_state hfree]))
      · exact hs
    split
    · exact hs
    next i hvictim =>
    split
    · dsimp only
      split
      · exact hs.beginEviction _ x (victim_evictable hvictim).2
      · exact hs
    split
    · exact hs.beginLoad x (victim_evictable hvictim).2
    · exact hs
  unfold State.openRecord
  dsimp only
  split
  · exact hs
  split
  · split
    · exact hs
    · exact hs
  split
  · exact hs
  · exact hinto _ _

theorem State.sitesSafe.closeRecord (n : Nat) : (s.closeRecord n).state.sitesSafe := by
  unfold State.closeRecord
  split
  · exact hs
  next i _ =>
  dsimp only
  split
  · exact hs
  split
  · exact hs
  next hbinding =>
  have hunbound : (s.slot i).binding = none := by simpa using hbinding
  split
  · split
    · refine State.sitesSafe.use (s := State.touchSlot _ _) ?_ (State.queueWrite_only _ n i)
        fun st h => (bound_keptByUse st).queueWrite h n i
      refine State.sitesSafe.use (s := State.setSlot _ _ _) ?_ (State.touchSlot_only _ i)
        fun st h => (bound_keptByUse st).touch _ i h
      exact hs.changeSlot (s.setSlot_only i _) hunbound fun j hj => by rw [setSlot_slot, if_neg hj]
    · exact hs
  · exact hs.changeSlot (s.freeSlot_only i) hunbound fun j hj => freeSlot_key hj

theorem State.sitesSafe.bindStation (x : Nat × Station) : (s.bindStation x).state.sitesSafe := by
  unfold State.bindStation
  split
  · exact hs
  next i _ =>
  dsimp only
  split
  · exact hs
  split
  · exact hs
  next hbinding =>
  split
  · exact hs
  · refine State.sitesSafe.use (s := State.makeBinding _ _ _) ?_ (State.touchSlot_only _ i)
      fun st h => (bound_keptByUse st).touch _ i h
    refine hs.changeSlot (s.makeBinding_only i x.2) (by simpa using hbinding) fun j hj => ?_
    exact congrArg Slot.key (s.setSlot_slot_of_ne _ hj)

/-- The station is at rest, and the other keeps its binding. -/
theorem State.sitesSafe.unbindStation (st : Station) : (s.unbindStation st).state.sitesSafe := by
  unfold State.unbindStation
  split
  · exact hs
  next i hbound =>
  split
  · next hrest =>
    refine State.sitesSafe.frame ?_ (State.removePlan_only _ st) (by decide)
    refine State.sitesSafe.use (s := State.setSlot _ _ _) ?_ (State.touchSlot_only _ i)
      fun st h => (bound_keptByUse st).touch _ i h
    have honly := s.setSlot_only i { s.slot i with binding := none, measurement := none }
    intro st'
    rw [cut_of_only honly (by decide)]
    by_cases heq : st' = st
    · rw [heq]
      exact CutStation.safeAt_of_away _ (hs st).1 (.inl hrest.2)
    · refine (hs st').mono (State.site_le honly (by decide) fun hb => ?_)
      rw [boundSlot_isSome_iff] at hb ⊢
      obtain ⟨j, hj⟩ := hb
      have hne : j ≠ i := fun h => heq (by
        rw [h, boundSlot_binding hbound] at hj
        exact (Option.some.inj hj).symm)
      exact ⟨j, by rw [setSlot_slot, if_neg hne]; exact hj⟩
  · exact hs

theorem State.sitesSafe.endService : s.endService.sitesSafe :=
  hs.use s.endService_only fun _ h => bound_of_keys (fun j => (s.sameSlots_endService j).1) h

theorem State.sitesSafe.completeLoad {i : Ix} (n : Nat) (h : (s.slot i).binding = none) :
    (s.completeLoad n i).sitesSafe := by
  refine hs.changeSlot (s.completeLoad_only n i) h fun j hj => ?_
  unfold State.completeLoad
  split
  · rw [loaded_slot_of_ne n _ hj]
  · exact freeSlot_key hj
  · exact freeSlot_key hj

theorem State.sitesSafe.completeWrite (hserved : s.slotsServed) (n : Nat) (i : Ix) (content : Option Record) :
    (s.completeWrite n i content).sitesSafe := by
  by_cases hended : (s.slot i).state = .writing ∧ (s.slot i).serial = some n ∧ s.store.slotWriteWaiting i = false
  · refine hs.changeSlot (s.completeWrite_only n i content) (hserved.unbound (i := i) (by simp [hended.1])) fun j hj
      => ?_
    unfold State.completeWrite
    dsimp only
    rw [if_pos hended]
    unfold State.endWriteBack
    dsimp only
    split
    · exact congrArg Slot.key (State.setSlot_slot_of_ne _ _ hj)
    · exact freeSlot_key hj
  · unfold State.completeWrite
    dsimp only
    rw [if_neg hended]
    exact hs.frame (s.mapStore_only _) (by decide)

/-! ### The inputs -/

omit hs in
/-- A level accepted takes nothing from a site when it is true, or when the input says nothing of the site. -/
theorem State.acceptLevel_site_le {i : Input} {st : Station}
    (h : (s.inputs.get i).raw = true ∨ (i ≠ .guardClosed ∧ i ≠ st.holddown)) :
    (s.site st).le ((s.acceptLevel i).site st) := by
  have hlevel (j : Input) (hj : (s.inputs.get i).raw = true ∨ i ≠ j) (hs : s.level? j = true) :
      (s.acceptLevel i).level? j = true := by
    by_cases heq : j = i
    · subst heq
      rw [acceptLevel_level?_self]
      exact hj.resolve_right fun hne => hne rfl
    · rw [acceptLevel_level?_of_ne s i heq]
      exact hs
  have honly := s.acceptLevel_only i
  have hprobes : (s.acceptLevel i).probes = s.probes := honly.2 .probes (by decide)
  refine ⟨fun hb => (bound_reads st).keeps honly (by decide) hb, hlevel _ (h.imp_right And.right), ?_, id,
    hlevel _ (h.imp_right And.left)⟩
  unfold State.site State.probe
  rw [hprobes]
  exact id

theorem State.sitesSafe.acceptLevel {i : Input}
    (h : ∀ st : Station, (s.inputs.get i).raw = true ∨ (i ≠ .guardClosed ∧ i ≠ st.holddown)) :
    (s.acceptLevel i).sitesSafe :=
  hs.of_le (fun st => cut_of_only (s.acceptLevel_only i) (by decide) st) fun st => acceptLevel_site_le (h st)

omit hs in
/-- A cause given to both stations stands in for what it names. -/
theorem State.sitesSafe_giveBoth (c : CutCause) (h : ∀ st, (s.cut st).safeAt ((s.site st).but c)) :
    ((s.giveCause c .a).giveCause c .b).sitesSafe := fun st => by
  have honly := (s.giveCause_only c .a).trans (State.giveCause_only (s.giveCause c .a) c .b)
  have hcut : ((s.giveCause c .a).giveCause c .b).cut st = (s.cut st).given c := by
    simp only [giveCause_cut]
    cases st <;> rfl
  rw [hcut]
  exact (h st).given.mono (State.site_le honly (by decide) fun hb => (bound_reads st).keeps honly (by decide) hb)

omit hs in
/-- The guard has opened: every station at work takes GUARD. -/
theorem State.guardFalls_sitesSafe (h : ∀ st, (s.cut st).safeAt ((s.site st).but .guard)) : s.guardFalls.sitesSafe :=
  (((sitesSafe_giveBoth .guard h).frame (State.pauseSweep_only _ _ .a) (by decide)).frame
    (State.pauseSweep_only _ _ .b) (by decide)).testStart

omit hs in
/-- The clamp of a station has opened: the station leaves its work. -/
theorem State.holddownFalls_sitesSafe {st : Station} (h : s.safeBut st) : (s.holddownFalls st).sitesSafe := by
  have hleft := h.enterAborting .cut
  unfold State.holddownFalls
  split
  · exact hleft.testStart
  · exact hleft.testStart
  · exact hleft.testStart
  · exact hleft
  · next h1 h2 h3 h4 =>
    intro st'
    by_cases heq : st' = st
    · rw [heq]
      refine CutStation.safeAt_of_away _ h.1 ?_
      cases hx : (s.cut st).state <;> simp_all
    · exact h.2 st' heq

theorem State.sitesSafe.handOut (i : Input) (rise : Bool) : (s.handOut i rise).sitesSafe := by
  have hestop : s.estopFalls.sitesSafe :=
    (((((hs.giveLiftCause .estop).stopStation .a).stopStation .b).frame
      (State.abandonSweep_only _ .a) (by decide)).frame (State.abandonSweep_only _ .b) (by decide)).testStart
  have hguard : s.guardFalls.sitesSafe := guardFalls_sitesSafe fun st => (hs st).mono (Site.le_but _ _)
  have hholddown (st : Station) : (s.holddownFalls st).sitesSafe := holddownFalls_sitesSafe (hs.safeBut st)
  have hlocks : s.locksFall.sitesSafe := by
    unfold State.locksFall
    split
    · exact hs.enterFault .lockLost
    · exact ite_keeps (hs.enterFault .lockLost) hs.testRelease
    · exact hs
  unfold State.handOut
  split
  · exact hestop
  · exact hs.giveLiftCause .pressure
  · exact hs.testPressure
  · exact hguard
  · exact hs.testBridges
  · exact hs.testBridges
  · exact hholddown .a
  · exact hholddown .b
  · exact hs.giveLiftCause .precondition
  · exact hs.giveLiftCause .precondition
  · exact hs.testHome .a
  · exact hs.testHome .b
  · exact hs.giveLiftCause .precondition
  · exact hs.giveLiftCause .precondition
  · exact hlocks
  · exact hs.testEngage
  all_goals exact hs

/-- The guard's level accepted as false takes the guard from the sites. -/
theorem State.sitesSafe.guardOpened :
    ((s.acceptLevel .guardClosed).handOut .guardClosed false).sitesSafe := by
  have honly := s.acceptLevel_only .guardClosed
  refine guardFalls_sitesSafe fun st => ?_
  rw [cut_of_only honly (by decide)]
  refine (hs st).mono ⟨fun hb => (bound_reads st).keeps honly (by decide) hb, ?_, ?_, id, fun _ => rfl⟩
  · show s.level? st.holddown = true → (s.acceptLevel .guardClosed).level? st.holddown = true
    rw [acceptLevel_level?_of_ne s _ (by cases st <;> decide)]
    exact id
  · have hprobes : (s.acceptLevel .guardClosed).probes = s.probes := honly.2 .probes (by decide)
    show (s.probes.get st).calMode = false → ((s.acceptLevel .guardClosed).probes.get st).calMode = false
    rw [hprobes]
    exact id

/-- A clamp's level accepted as false takes the clamp from the site of its station alone. -/
theorem State.sitesSafe.clampOpened (st : Station) : ((s.acceptLevel st.holddown).holddownFalls st).sitesSafe := by
  have honly := s.acceptLevel_only st.holddown
  refine holddownFalls_sitesSafe ⟨?_, fun st' hne => ?_⟩
  · rw [cut_of_only honly (by decide)]
    exact (hs st).1
  · rw [cut_of_only honly (by decide)]
    exact (hs st').mono (acceptLevel_site_le (.inr (by cases st <;> cases st' <;> simp_all [Station.holddown])))

theorem State.sitesSafe.debounceExpires (i : Input) : (s.debounceExpires i).sitesSafe := by
  have hout (h : ∀ st : Station, (s.inputs.get i).raw = true ∨ (i ≠ .guardClosed ∧ i ≠ st.holddown)) :
      ((s.acceptLevel i).handOut i (s.inputs.get i).raw).sitesSafe := (hs.acceptLevel h).handOut i _
  unfold State.debounceExpires
  split
  · exact hs
  · cases hraw : (s.inputs.get i).raw
    · rw [hraw] at hout
      cases i with
      | guardClosed => exact hs.guardOpened
      | holddownA => exact hs.clampOpened .a
      | holddownB => exact hs.clampOpened .b
      | _ => exact hout fun st => .inr ⟨by decide, by cases st <;> decide⟩
    · rw [hraw] at hout
      exact hout fun _ => .inl rfl

/-- A raw level changes no site. -/
theorem State.sitesSafe.inputChange (i : Input) (level : Bool) :
    (s.putInput i ((s.inputs.get i).rawChange level s.debounceMs)).sitesSafe := by
  have hlevel (j : Input) : (s.putInput i ((s.inputs.get i).rawChange level s.debounceMs)).level? j = s.level? j := by
    unfold State.level? State.putInput
    by_cases heq : j = i
    · rw [heq, Twelve.get_set_same]
      rfl
    · rw [Twelve.get_set_other _ _ heq]
  refine hs.of_le (fun _ => rfl) fun st => Site.le_of_eq ?_
  unfold State.site
  rw [hlevel, hlevel]
  rfl

/-! ### The rows -/

theorem State.sitesSafe.snapshotTaken (src : Source) : (s.snapshotTaken src).sitesSafe := by
  have hlevel (j : Input) : (s.clearLatches).level? j = s.level? j := by
    cases j <;> rfl
  cases src with
  | interlock =>
    refine hs.of_le (fun _ => rfl) fun st => Site.le_of_eq ?_
    unfold State.site
    rw [State.snapshotTaken, hlevel, hlevel]
    rfl
  | context => exact hs.of_le (fun _ => rfl) fun st => Site.le_of_eq rfl
  | _ => exact hs

theorem State.sitesSafe.startNotice : s.startNotice.sitesSafe := by
  unfold State.startNotice
  split
  · exact hs
  · exact (hs.snapshotTaken _).frame (m := [.notices, .link])
      ⟨rfl, fun b hb => by cases b <;> first | rfl | exact absurd (by decide) hb⟩ (by decide)

omit hs in
theorem not_mem_blocksOf {l : List Block} {c : Instr} (h : reaches c l = false) : ∀ b ∈ l, b ∉ blocksOf c :=
  fun b hb hmem => by
    have hreach : reaches c l = true := List.any_eq_true.mpr ⟨b, hb, decide_eq_true hmem⟩
    simp [h] at hreach

omit hs in
theorem KeptByLink.and {P Q : State → Prop} (hP : KeptByLink P) (hQ : KeptByLink Q) :
    KeptByLink fun s => P s ∧ Q s where
  accept s f h := ⟨hP.accept s f h.1, hQ.accept s f h.2⟩
  take s s1 f htake h := ⟨hP.take s s1 f htake h.1, hQ.take s s1 f htake h.2⟩
  breakLoad s k h := ⟨hP.breakLoad s k h.1, hQ.breakLoad s k h.2⟩
  reply s r h := ⟨hP.reply s r h.1, hQ.reply s r h.2⟩

omit hs in
theorem State.sitesSafe_afterReset (pins : ResetPins) (pending : List Instr) (places : Cells Place) :
    (stateAfterReset pins pending places).sitesSafe := by
  have haway (home : Bool) (e : Site) : (CutStation.reset home).safeAt e := by
    refine CutStation.safeAt_of_away e ⟨fun _ _ => rfl, fun _ => rfl, le_rfl, fun _ _ => rfl⟩ ?_
    cases home
    · exact .inr (.inr (.inr rfl))
    · exact .inl rfl
  exact forall_station (haway _ _) (haway _ _)

theorem State.sitesSafe.exec (hserved : s.slotsServed) {c : Instr} (h : exec c s = .next t) : t.sitesSafe := by
  have hlink : KeptByLink State.sitesSafe := sitesSafe_reads.keptByLink (by decide)
  have hserves : KeptByLink fun s => s.slotsServed ∧ s.sitesSafe := slotsServed_keptByUse.keptByLink.and hlink
  cases c with
  | raise _ _ => cases h; exact hlink.command hs fun x _ h1 => h1.raiseLift x
  | lower _ _ => cases h; exact hlink.command hs fun _ _ h1 => h1.lowerLift
  | liftStop _ _ => cases h; exact hlink.command hs fun _ _ h1 => h1.stopLift
  | liftResume _ _ => cases h; exact hlink.command hs fun _ _ h1 => h1.resumeLift
  | faultClear _ _ => cases h; exact hlink.command hs fun _ _ h1 => h1.clearFault
  | park _ _ => cases h; exact hlink.command hs fun _ _ h1 => h1.park
  | unpark _ _ => cases h; exact hlink.command hs fun _ _ h1 => h1.unpark
  | openRecord _ _ =>
    cases h
    exact (hserves.command ⟨hserved, hs⟩ fun x _ h1 => ⟨h1.1.openRecord x, h1.2.openRecord h1.1 x⟩).2
  | closeRecord _ _ => cases h; exact hlink.command hs fun n _ h1 => h1.closeRecord n
  | bind _ _ => cases h; exact hlink.command hs fun x _ h1 => h1.bindStation x
  | unbind _ _ => cases h; exact hlink.command hs fun st _ h1 => h1.unbindStation st
  | probeReference _ _ => cases h; exact hlink.command hs fun st _ h1 => h1.probeReference st
  | calibrateOn _ _ => cases h; exact hlink.command hs fun st _ h1 => h1.calibrateOn st
  | calibrateMeasure _ _ => cases h; exact hlink.command hs fun st _ h1 => h1.calibrateMeasure st
  | calibrateOff _ _ => cases h; exact hlink.command hs fun st _ h1 => h1.calibrateOff st
  | sweepStop _ _ => cases h; exact hlink.command hs fun st _ h1 => h1.sweepStop st
  | cutStart _ _ => cases h; exact hlink.command hs fun x _ h1 => h1.cutStart x
  | feedHold _ _ => cases h; exact hlink.command hs fun st _ h1 => h1.feedHold st
  | resume _ _ => cases h; exact hlink.command hs fun st _ h1 => h1.resumeCut st
  | cutAbort _ _ => cases h; exact hlink.command hs fun st _ h1 => h1.cutAbort st
  | silenceExpiry =>
    cases h
    unfold State.silenceExpires
    split
    · exact State.sitesSafe.silenceEffects (by exact hs)
    · exact hs
  | headerScanComplete =>
    cases h
    split
    · exact hs
    · exact (hs.frame (s.mapStore_only _) (by decide)).use (State.serve_only _) fun _ hb =>
        bound_of_keys (fun j => (State.sameSlots_serve _ j).1) hb
  | loadComplete =>
    cases h
    split
    · next hservice => exact (hs.completeLoad _ (hserved.unbound_of_load hservice)).endService
    · exact hs
  | writeComplete =>
    cases h
    split
    · exact (hs.completeWrite hserved _ _ _).endService
    · exact hs
  | readComplete =>
    cases h
    split
    · exact (hs.frame (s.completeRead_only _ _) (by decide)).endService
    · exact hs
  | enrolComplete =>
    cases h
    split
    · exact (hs.frame (s.completeEnrol_only _ _ _ _) (by decide)).endService
    · exact hs
  | amendComplete =>
    cases h
    split
    · exact (hs.frame (s.completeAmend_only _ _ _) (by decide)).endService
    · exact hs
  | retireComplete =>
    cases h
    split
    · exact (hs.frame (s.completeRetire_only _ _) (by decide)).endService
    · exact hs
  | searchComplete =>
    cases h
    split
    · next units bound _ _ =>
      exact State.sitesSafe.endService (hs.use (s.completeSearch_only units bound) fun _ hb =>
        bound_of_keys (fun j => (s.sameSlots_completeSearch units bound j).1) hb)
    · exact hs
  | noticeFrameStart => cases h; exact hs.startNotice
  | liftPositionReport w height => cases h; exact hs.reportLift w height
  | liftInPosition w => cases h; exact hs.liftArrives w
  | moveTimeout => cases h; exact hs.moveTimesOut
  | intervalExpiry => cases h; exact hs.intervalExpires
  | dwellExpiry => cases h; exact hs.dwellExpires
  | inputChange i level => cases h; exact hs.inputChange i level
  | debounceExpiry i => cases h; exact hs.debounceExpires i
  | probePadInPosition st => cases h; exact hs.padReached st
  | referenceReading st l r => cases h; exact hs.padReading st l r
  | settleExpiry st => cases h; exact hs.settles st
  | ringInPosition st => cases h; exact hs.ringReached st
  | calibrationReading st l r => cases h; exact hs.calibrationReading st l r
  | sampleAnswer st l r => cases h; exact hs.sampleAnswer st l r
  | toolPositionReport st lateral radius => cases h; exact hs.reportTool st lateral radius
  | toolApproachArrival st => cases h; exact hs.approachArrives st
  | toolBackoffArrival st => cases h; exact hs.backoffArrives st
  | revolutionPulse st => cases h; exact hs.pulse st
  | reset pins => cases h; exact sitesSafe_afterReset _ _ _
  | _ => exact hs.use (only_of_exec h) (fun st hb => (bound_keptByUse st).exec rfl h hb) (not_mem_blocksOf rfl)

end

/-- Settles O59: each row keeps every station safe at its site, over slots that stay served. -/
theorem everyStepKeepsCuttingSafe : Obligations.EveryStepKeepsCuttingSafe := by
  unfold Obligations.EveryStepKeepsCuttingSafe
  intro s t hs hstep
  rw [State.cuttingSafe_iff] at hs ⊢
  exact step_keeps (P := fun s => s.slotsServed ∧ s.sitesSafe) (fun _ _ h => h)
    (fun _ _ _ hexec h => ⟨h.1.exec hexec, h.2.exec h.1 hexec⟩) hs hstep

end Sys2Proof.Machine
end

section
/-! PROOFS. Chapter 11: what the fields of a payload read back, and what the receive assembler makes of the bytes of a
frame. -/

namespace Sys2Proof.Machine

/-! ### Numbers as bytes -/

@[simp] theorem length_natBytes (w n : Nat) : (natBytes w n).length = w := by
  induction w generalizing n with
  | zero => rfl
  | succ w ih => simp [natBytes, ih]

theorem leNat_natBytes (w n : Nat) : leNat (natBytes w n) = n % 256 ^ w := by
  induction w generalizing n with
  | zero => simp [natBytes, leNat, Nat.mod_one]
  | succ w ih =>
    rw [natBytes, leNat, ih, pow_succ', Nat.mod_mul]
    simp

theorem natBytes_leNat (l : List Byte) : natBytes l.length (leNat l) = l := by
  induction l with
  | nil => rfl
  | cons b rest ih =>
    have hbyte : (b.toNat + 256 * leNat rest) % 256 = b.toNat := by have := b.isLt; omega
    have hrest : (b.toNat + 256 * leNat rest) / 256 = leNat rest := by have := b.isLt; omega
    rw [List.length_cons, natBytes, leNat, hrest, ih]
    congr 1
    refine BitVec.eq_of_toNat_eq ?_
    simpa using hbyte

@[simp] theorem u8At_eq (p : List Byte) (k : Nat) : u8At p k = fieldNat p k 1 := rfl

@[simp] theorem u16At_eq (p : List Byte) (k : Nat) : u16At p k = fieldNat p k 2 := rfl

@[simp] theorem u32At_eq (p : List Byte) (k : Nat) : u32At p k = fieldNat p k 4 := rfl

@[simp] theorem u8Bytes_eq (n : Nat) : u8Bytes n = natBytes 1 n := rfl

@[simp] theorem length_i32Bytes (x : Int) : (i32Bytes x).length = 4 := length_natBytes _ _

/-- A field behind another. -/
@[simp] theorem fieldNat_append_of_le {v k : Nat} (h : v ≤ k) (n w : Nat) (p : List Byte) :
    fieldNat (natBytes v n ++ p) k w = fieldNat p (k - v) w := by
  rw [fieldNat, List.drop_append, List.drop_eq_nil_of_le (by simpa using h), List.nil_append, length_natBytes]
  rfl

@[simp] theorem fieldNat_i32Bytes_append {k : Nat} (h : 4 ≤ k) (x : Int) (w : Nat) (p : List Byte) :
    fieldNat (i32Bytes x ++ p) k w = fieldNat p (k - 4) w := fieldNat_append_of_le h _ _ _

/-- The field that stands first. -/
@[simp] theorem fieldNat_append_zero {w n : Nat} (h : n < 256 ^ w) (p : List Byte) :
    fieldNat (natBytes w n ++ p) 0 w = n := by
  rw [fieldNat, List.drop_zero, List.take_left' (length_natBytes w n), leNat_natBytes, Nat.mod_eq_of_lt h]

/-- The field that stands alone. -/
@[simp] theorem fieldNat_zero {w n : Nat} (h : n < 256 ^ w) : fieldNat (natBytes w n) 0 w = n := by
  simpa using fieldNat_append_zero h []

theorem toNat_ofInt_lt (x : Int) : (BitVec.ofInt 32 x).toNat < 4294967296 := (BitVec.ofInt 32 x).isLt

/-- A signed number of four bytes is read back. -/
theorem toInt_ofNat_ofInt {x : Int} (h : -2147483648 ≤ x ∧ x < 2147483648) :
    (BitVec.ofNat 32 (BitVec.ofInt 32 x).toNat).toInt = x := by
  rw [BitVec.ofNat_toNat, BitVec.setWidth_eq, BitVec.toInt_ofInt]
  exact Int.bmod_eq_of_le (by omega) (by omega)

@[simp] theorem i32At_append_of_le {v k : Nat} (h : v ≤ k) (n : Nat) (p : List Byte) :
    i32At (natBytes v n ++ p) k = i32At p (k - v) := by
  rw [i32At, u32At, fieldNat_append_of_le h, i32At, u32At]

@[simp] theorem i32At_i32Bytes_append {k : Nat} (h : 4 ≤ k) (x : Int) (p : List Byte) :
    i32At (i32Bytes x ++ p) k = i32At p (k - 4) := i32At_append_of_le h _ _

@[simp] theorem i32At_append_zero {x : Int} (h : -2147483648 ≤ x ∧ x < 2147483648) (p : List Byte) :
    i32At (i32Bytes x ++ p) 0 = x := by
  rw [i32At, u32At, i32Bytes, fieldNat_append_zero (toNat_ofInt_lt x), toInt_ofNat_ofInt h]

@[simp] theorem i32At_zero {x : Int} (h : -2147483648 ≤ x ∧ x < 2147483648) : i32At (i32Bytes x) 0 = x := by
  simpa using i32At_append_zero h []

/-! ### Sets and lists -/

theorem setNat_lt (l : List Bool) : setNat l < 2 ^ l.length := by
  induction l with
  | nil => simp [setNat]
  | cons b rest ih =>
    rw [setNat, List.length_cons, pow_succ]
    cases b <;> simp <;> omega

theorem testBit_setNat (l : List Bool) (k : Nat) : (setNat l).testBit k = l.getD k false := by
  induction l generalizing k with
  | nil => simp [setNat]
  | cons b rest ih =>
    cases k with
    | zero => cases b <;> simp [setNat, Nat.testBit_zero]
    | succ k =>
      have hhalf : (setNat (b :: rest)) / 2 = setNat rest := by rw [setNat]; cases b <;> simp; omega
      rw [Nat.testBit_succ, hhalf, ih]
      simp

theorem setBits_setNat (l : List Bool) : setBits l.length (setNat l) = l := by
  refine List.ext_getElem (by simp [setBits]) fun k h1 h2 => ?_
  simp [setBits, testBit_setNat, List.getD_eq_getElem?_getD, List.getElem?_eq_getElem h2]

theorem i32List_flatMap {l : List Int} (h : ∀ x ∈ l, -2147483648 ≤ x ∧ x < 2147483648) :
    i32List (l.flatMap i32Bytes) 0 l.length = l := by
  induction l with
  | nil => rfl
  | cons x rest ih =>
    have hrest : (List.range rest.length).map (fun k => i32At (rest.flatMap i32Bytes) (0 + 4 * k)) = rest :=
      ih fun y hy => h y (List.mem_cons_of_mem x hy)
    rw [i32List, List.length_cons, List.range_succ_eq_map, List.map_cons, List.map_map, List.flatMap_cons]
    refine congrArg₂ List.cons (i32At_append_zero (h x List.mem_cons_self) _) ?_
    refine Eq.trans (List.map_congr_left fun k _ => ?_) hrest
    exact i32At_i32Bytes_append (by omega) x _

theorem length_flatMap_i32Bytes (l : List Int) : (l.flatMap i32Bytes).length = 4 * l.length := by
  induction l with
  | nil => rfl
  | cons x rest ih => rw [List.flatMap_cons, List.length_append, ih, i32Bytes, length_natBytes, List.length_cons]; omega

/-- The values behind two bytes. -/
theorem i32List_append_two {l : List Int} (h : ∀ x ∈ l, -2147483648 ≤ x ∧ x < 2147483648) (a b : Nat) :
    i32List (u8Bytes a ++ u8Bytes b ++ l.flatMap i32Bytes) 2 l.length = l := by
  refine Eq.trans ?_ (i32List_flatMap h)
  refine List.map_congr_left fun k _ => ?_
  rw [u8Bytes, u8Bytes, List.append_assoc, i32At_append_of_le (by omega), i32At_append_of_le (by omega)]
  congr 1
  omega

/-! ### The parameters of the commands -/

/-- A payload of the right length is read. -/
theorem fixedLength_of_length {α : Type} {p : List Byte} {n : Nat} (h : p.length = n) (x : Except Code α) :
    fixedLength p n x = x := if_pos h

theorem countedParams_laidOut {α : Type} {l : List Int} {most : Nat} (a : Nat) (h1 : 1 ≤ l.length)
    (hmost : l.length ≤ most) (hbyte : most < 256) (hl : ∀ x ∈ l, -2147483648 ≤ x ∧ x < 2147483648)
    (params : List Int → Except Code α) :
    countedParams (u8Bytes a ++ u8Bytes l.length ++ l.flatMap i32Bytes) most params = params l := by
  have hcount : u8At (u8Bytes a ++ u8Bytes l.length ++ l.flatMap i32Bytes) 1 = l.length := by
    rw [u8At, u8Bytes, u8Bytes, List.append_assoc, fieldNat_append_of_le le_rfl]
    exact fieldNat_append_zero (by omega) _
  have hlength : (u8Bytes a ++ u8Bytes l.length ++ l.flatMap i32Bytes).length = 2 + 4 * l.length := by
    rw [List.length_append, List.length_append, length_flatMap_i32Bytes, u8Bytes, u8Bytes, length_natBytes,
      length_natBytes]
  rw [countedParams, hcount, hlength, if_pos ⟨h1, hmost, rfl⟩, i32List_append_two hl]

@[simp] theorem stationOf_num (st : Station) : stationOf (stationNum st) = some st := by cases st <;> rfl

@[simp] theorem bindingOf_num (x : Option Station) : bindingOf (bindingNum x) = some x := by
  obtain _ | (_ | _) := x <;> rfl

@[simp] theorem stationNum_lt (st : Station) : stationNum st < 256 := by cases st <;> decide

@[simp] theorem bindingNum_lt (x : Option Station) : bindingNum x < 256 := by obtain _ | (_ | _) := x <;> decide

/-- The parameters of AMEND, its mask laid out as a set. -/
theorem amendParams_laidOut {n unit bogie axle id : Nat} {r lastL lastR : Int} {state : RecordState}
    {m0 m1 m2 m3 m4 m5 m6 m7 : Bool} (hn : n < 4294967296) (hunit : unit < 65536) (hbogie : bogie < 256)
    (haxle : axle < 256) (hid : id < 256) (hr : -2147483648 ≤ r ∧ r < 2147483648)
    (hl : -2147483648 ≤ lastL ∧ lastL < 2147483648) (hlr : -2147483648 ≤ lastR ∧ lastR < 2147483648) :
    amendParams
        (natBytes 4 n ++ u8Bytes (setNat [m0, m1, m2, m3, m4, m5, m6, m7]) ++ natBytes 2 unit ++ u8Bytes bogie ++
          u8Bytes axle ++ u8Bytes id ++ i32Bytes r ++ u8Bytes (if state = .inService then 0 else 1) ++
          i32Bytes lastL ++ i32Bytes lastR) =
      .ok
        { serial := n, unit := if m0 then some unit else none, bogie := if m1 then some bogie else none,
          axle := if m2 then some axle else none, profileId := if m3 then some id else none,
          condemning := if m4 then some r else none, state := if m5 then some state else none,
          lastL := if m6 then some lastL else none, lastR := if m7 then some lastR else none } := by
  have hmask : setNat [m0, m1, m2, m3, m4, m5, m6, m7] < 256 := by
    simpa using setNat_lt [m0, m1, m2, m3, m4, m5, m6, m7]
  have hstate : (if state = RecordState.inService then 0 else 1) < 256 := by split <;> omega
  have hnamed : recordStateOf (if state = .inService then 0 else 1) = some state := by cases state <;> rfl
  simp only [amendParams, List.append_assoc]
  rw [fixedLength_of_length (by simp)]
  simp [*, masked, testBit_setNat, named, -Nat.testBit_zero]
  cases m5 <;> simp [Except.map]

/-- Settles O8: each payload is read field by field. -/
theorem parametersReadBack : Obligations.ParametersReadBack := by
  unfold Obligations.ParametersReadBack
  dsimp only
  refine ⟨?_, ?_, ?_, rfl, ?_, ?_, ?_, ?_, ?_, ?_, ?_, ?_, ?_, ?_, ?_, ?_, ?_, ?_, ?_⟩
  · intro h hh
    simp [raiseParams, fixedLength, hh]
  · intro st
    simp [stationParam, fixedLength, named]
  · intro n hn
    simp [statusParams, profileResumeParams, fixedLength, hn]
  · intro st accept
    cases accept <;> simp [cutStartParams, fixedLength, flagByte, flagOf]
  · intro id m f l hid hm hf hl
    simp [profileBeginParams, fixedLength, hid, hm, hf, hl]
  · intro st f l mode hf hl
    cases mode <;> simp [sweepParams, fixedLength, hf, hl, modeOf]
  · intro w k f c hk hf hc
    have hwheel : w.ix.num < 256 := by cases w <;> decide
    have hof : wheelOf w.ix.num = some w := by cases w <;> decide
    simp [readProfileParams, fixedLength, hwheel, hof, hk, hf, hc, named, Except.map]
  · intro n f c hn hf hc
    simp [readRecordParams, fixedLength, hn, hf, hc]
  · intro n unit bogie axle id r lastL lastR state m0 m1 m2 m3 m4 m5 m6 m7 hn hunit hbogie haxle hid hr hl hlr
    exact amendParams_laidOut hn hunit hbogie haxle hid hr hl hlr
  · intro n hn
    simp [serialParam, fixedLength, hn]
  · intro n st hn
    simp [bindParams, fixedLength, hn, named, Except.map]
  · intro n w st hn hw
    simp [openParams, fixedLength, hn, hw, named, Except.map]
  · intro n unit bogie axle id r hn hunit hbogie haxle hid hr
    simp [enrolParams, fixedLength, hn, hunit, hbogie, haxle, hid, hr]
  · intro timeout mask htimeout hmask
    have hset : setNat mask < 65536 := (setNat_lt mask).trans (by rw [hmask]; decide)
    have hbits : setBits 11 (setNat mask) = mask := by rw [← hmask]; exact setBits_setNat mask
    simp [setLinkParams, fixedLength, htimeout, hset, hbits]
  · intro st l h1 h16 hl
    rw [planPassesParams, Config.planPasses, countedParams_laidOut _ h1 h16 (by decide) hl]
    simp [List.append_assoc, named, Except.map]
  · intro id l hid h1 h40 hl
    rw [profileDataParams, countedParams_laidOut _ h1 h40 (by decide) hl]
    simp [List.append_assoc, hid]
  · intro t h1 h2 h3 h4 h5 h6 h7 h8 h9 h10 h11 h12
    simp [setPitParams, Pit.bytes, fixedLength, *]
  · intro t h1 h2 h3 h4 h5 h6 h7 h8 h9 h10
    simp [setCutParams, CutTable.bytes, fixedLength, *]

end Sys2Proof.Machine
end

section
/-! PROOFS. Chapter 11: the bytes of a frame through the receive assembler, and the frames through the queue. -/

namespace Sys2Proof.Machine

/-! ### The receive assembler -/

/-- A state with its receive assembler replaced. -/
def State.assemblerAt (s : State) (a : Assembler) : State := { s with link := { s.link with assembler := a } }

theorem State.assemblerAt_of_eq {s : State} {a : Assembler} (h : s.link.assembler = a) : s.assemblerAt a = s := by
  unfold State.assemblerAt
  rw [← h]

/-- The state with a frame discarded (R178). -/
def State.discarded (s : State) : State :=
  { s with link := { s.link with assembler := .hunting, flags.damaged := true } }

section
variable {s : State} {b : Byte}

theorem State.receiveByte_taken {a : Assembler} (h : s.link.assembler.feed b = (a, none, false)) :
    s.receiveByte b = s.assemblerAt a := by
  unfold State.receiveByte
  rw [h]
  rfl

theorem State.receiveByte_bad (h : s.link.assembler.feed b = (.hunting, none, true)) :
    s.receiveByte b = s.discarded := by
  unfold State.receiveByte
  rw [h]
  rfl

theorem State.receiveByte_whole {f : Frame} (h : s.link.assembler.feed b = (.hunting, some f, false)) :
    s.receiveByte b = (s.assemblerAt .hunting).acceptFrame f := by
  unfold State.receiveByte
  rw [h]
  rfl

theorem State.receiveByte_noise (h : s.link.assembler = .hunting) (hb : b ≠ 0x96) : s.receiveByte b = s := by
  have hfeed : s.link.assembler.feed b = (.hunting, none, false) := by
    rw [h, Assembler.feed, Config.syncByte, if_neg hb]
  rw [receiveByte_taken hfeed, assemblerAt_of_eq h]

/-- Bytes that are no sync byte pass a hunting assembler by. -/
theorem State.receive_noise {s : State} (h : s.link.assembler = .hunting) {noise : List Byte}
    (hnoise : ∀ b ∈ noise, b ≠ 0x96) : noise.foldl State.receiveByte s = s := by
  induction noise with
  | nil => rfl
  | cons b rest ih =>
    rw [List.foldl_cons, receiveByte_noise h (hnoise b List.mem_cons_self)]
    exact ih fun c hc => hnoise c (List.mem_cons_of_mem b hc)

theorem State.receiveByte_sync (h : s.link.assembler = .hunting) :
    s.receiveByte 0x96 = s.assemblerAt (.assembling []) := by
  refine receiveByte_taken ?_
  rw [h]
  rfl

theorem State.receiveByte_length (s : State) {n : Byte} (h : n.toNat ≤ 240) :
    (s.assemblerAt (.assembling [])).receiveByte n = s.assemblerAt (.assembling [n]) :=
  receiveByte_taken (s := s.assemblerAt (.assembling [])) (if_neg (by simpa [Config.payloadMax] using h))

/-- The bytes behind the length byte are taken up until the last of the frame. -/
theorem State.receive_within (s : State) (n : Byte) {taken l : List Byte}
    (h : (n :: taken ++ l).length < n.toNat + 5) :
    l.foldl State.receiveByte (s.assemblerAt (.assembling (n :: taken))) =
      s.assemblerAt (.assembling (n :: taken ++ l)) := by
  induction l generalizing taken with
  | nil => rw [List.append_nil]; rfl
  | cons b rest ih =>
    have hlt : (n :: taken ++ [b]).length < n.toNat + 5 := by simp at h ⊢; omega
    have hbyte : (s.assemblerAt (.assembling (n :: taken))).receiveByte b =
        s.assemblerAt (.assembling (n :: (taken ++ [b]))) :=
      receiveByte_taken (s := s.assemblerAt (.assembling (n :: taken))) (if_pos hlt)
    rw [List.foldl_cons, hbyte, ih (by simp at h ⊢; omega)]
    simp

/-- The last byte of a frame: the frame is accepted when its check agrees, and else discarded. -/
theorem State.receiveByte_last (h : s.link.assembler = .hunting) {n kind tag : Byte}
    {payload check taken : List Byte} (hn : n.toNat = payload.length) (hcheck : check.length = 2)
    (htaken : n :: taken ++ [b] = (n :: kind :: tag :: payload) ++ check) :
    (s.assemblerAt (.assembling (n :: taken))).receiveByte b =
      if leNat check = (crc16 (n :: kind :: tag :: payload)).toNat then s.acceptFrame ⟨kind, tag, payload⟩
      else s.discarded := by
  have hbody : (n :: kind :: tag :: payload).length = n.toNat + 3 := by simp [hn]
  have hfull : ¬(n :: taken ++ [b]).length < n.toNat + 5 := by
    rw [htaken, List.length_append, hbody, hcheck]
    omega
  have hfeed : Assembler.feed (.assembling (n :: taken)) b =
      if leNat check = (crc16 (n :: kind :: tag :: payload)).toNat then
        (.hunting, some ⟨kind, tag, payload⟩, false)
      else (.hunting, none, true) := by
    rw [Assembler.feed]
    simp only
    rw [if_neg hfull, htaken, List.take_left' hbody, List.drop_left' hbody]
  split
  · next hagrees =>
    rw [if_pos hagrees] at hfeed
    rw [receiveByte_whole (s := s.assemblerAt (.assembling (n :: taken))) hfeed]
    exact congrArg (State.acceptFrame ⟨kind, tag, payload⟩) (assemblerAt_of_eq h)
  · next hdiffers =>
    rw [if_neg hdiffers] at hfeed
    exact receiveByte_bad (s := s.assemblerAt (.assembling (n :: taken))) hfeed

/-- The bytes of a frame whose length byte is at most 240. -/
theorem State.receive_frame (h : s.link.assembler = .hunting) {n : Byte} (kind tag : Byte)
    {payload check : List Byte} (hn : n.toNat = payload.length) (hmax : payload.length ≤ 240)
    (hcheck : check.length = 2) :
    (0x96 :: n :: kind :: tag :: payload ++ check).foldl State.receiveByte s =
      if leNat check = (crc16 (n :: kind :: tag :: payload)).toNat then s.acceptFrame ⟨kind, tag, payload⟩
      else s.discarded := by
  obtain ⟨taken, b, htaken⟩ : ∃ taken b, kind :: tag :: payload ++ check = taken ++ [b] :=
    (List.eq_nil_or_concat' _).resolve_left (by simp)
  have hlength : (n :: taken).length < n.toNat + 5 := by
    have hall := congrArg List.length htaken
    simp only [List.cons_append, List.length_cons, List.length_append, List.length_nil, hcheck] at hall ⊢
    omega
  have hbytes : 0x96 :: n :: kind :: tag :: payload ++ check = 0x96 :: n :: (taken ++ [b]) := by
    rw [← htaken]
    rfl
  rw [hbytes, List.foldl_cons, receiveByte_sync h, List.foldl_cons, receiveByte_length s (by omega),
    List.foldl_append, receive_within s n (taken := []) (by simpa using hlength)]
  exact receiveByte_last h hn hcheck (congrArg (List.cons n) htaken.symm)

end

/-- Settles O3: the check laid out is the check computed. -/
theorem receivedFrameIsAccepted : Obligations.ReceivedFrameIsAccepted := by
  unfold Obligations.ReceivedFrameIsAccepted
  intro noise kind tag payload s h hnoise hmax
  have hn : (BitVec.ofNat 8 payload.length).toNat = payload.length := by
    rw [BitVec.toNat_ofNat]
    omega
  have hframe := State.receive_frame h kind tag hn hmax
    (length_natBytes 2 (crc16 (BitVec.ofNat 8 payload.length :: kind :: tag :: payload)).toNat)
  have hcrc : (crc16 (BitVec.ofNat 8 payload.length :: kind :: tag :: payload)).toNat < 256 ^ 2 := BitVec.isLt _
  rw [leNat_natBytes, Nat.mod_eq_of_lt hcrc, if_pos rfl] at hframe
  show Host.Outcome.next ((noise ++ frameBytes kind tag payload).foldl State.receiveByte s) = _
  rw [List.foldl_append, State.receive_noise h hnoise]
  exact congrArg Host.Outcome.next hframe

/-- Settles O5, by the byte at which each frame is discarded. -/
theorem damagedFramesAreDiscarded : Obligations.DamagedFramesAreDiscarded := by
  unfold Obligations.DamagedFramesAreDiscarded
  intro s
  refine ⟨?_, ?_, ?_, ?_⟩
  · intro n kind tag payload check h hn hmax hcheck hdiffers
    have hvalue : leNat check ≠ (crc16 (n :: kind :: tag :: payload)).toNat := fun heq => hdiffers (by
      rw [← heq, ← hcheck, natBytes_leNat])
    refine congrArg Host.Outcome.next ((State.receive_frame h kind tag hn hmax hcheck).trans (if_neg hvalue))
  · intro n h hlong
    refine congrArg Host.Outcome.next ?_
    rw [List.foldl_cons, List.foldl_cons, List.foldl_nil, State.receiveByte_sync h]
    exact State.receiveByte_bad (s := s.assemblerAt (.assembling [])) (if_pos hlong)
  · intro taken h
    refine congrArg Host.Outcome.next ?_
    unfold State.receiveGapOf
    rw [h]
    rfl
  · intro h
    refine congrArg Host.Outcome.next ?_
    unfold State.receiveGapOf
    rw [h]

end Sys2Proof.Machine
end

section
/-! PROOFS. Chapter 11: the frames through the queue, and the checks of the link on a command. -/

namespace Sys2Proof.Machine

/-! ### The rows of the frames -/

/-- The row of a frame: a command handed to its owner, or a frame of unknown kind. -/
theorem exec_of_frame {c : Instr} {kind tag : Byte} {payload : List Byte} (h : c.frame = some (kind, tag, payload)) :
    (∃ (α : Type) (params : Except Code α) (keep : α → Option Ix) (owner : α → State → Answered),
      ∀ s, exec c s = .next (s.command kind tag payload params keep owner)) ∨
      c = .unknownKind kind tag payload := by
  cases c with
  | unknownKind k t p => cases h; exact .inr rfl
  | _ => cases h <;> exact .inl ⟨_, _, _, _, fun _ => rfl⟩

theorem unknownKind_not_mem {kind tag : Byte} {payload : List Byte}
    (h : (Instr.unknownKind kind tag payload).wellFormed = true) : kind ∉ commandKinds := by
  simp only [Instr.wellFormed, Bool.and_eq_true, decide_eq_true_eq] at h
  exact h.2

theorem exec_unknownKind {kind tag : Byte} {payload : List Byte} (s : State) (h : kind ∉ commandKinds) :
    exec (.unknownKind kind tag payload) s = .next (s.unknownFrame kind tag payload) :=
  congrArg Host.Outcome.next (if_neg h)

/-- A frame that cannot be taken now waits. -/
theorem exec_of_waits {c : Instr} {kind tag : Byte} {payload : List Byte} {s : State} (hwf : c.wellFormed = true)
    (h : c.frame = some (kind, tag, payload)) (hwaits : s.takeFrame ⟨kind, tag, payload⟩ = none) :
    exec c s = .next (s.acceptFrame ⟨kind, tag, payload⟩) := by
  obtain ⟨α, params, keep, owner, hexec⟩ | rfl := exec_of_frame h
  · rw [hexec, State.command_waits hwaits]
  · rw [exec_unknownKind s (unknownKind_not_mem hwf), State.unknownFrame, hwaits]

/-! ### The queue -/

section
variable {s : State} {f : Frame}

theorem State.acceptFrame_room (h : s.link.queue.length < 4) :
    s.acceptFrame f =
      { s with link :=
        { s.link with supervisor := .running (s.link.timeout * 1000), queue := s.link.queue ++ [f] } } := by
  unfold State.acceptFrame Link.place
  rw [if_pos (by exact h)]
  rfl

theorem State.acceptFrame_held (h : 4 ≤ s.link.queue.length) (hfree : s.link.holding = none) :
    s.acceptFrame f =
      { s with link := { s.link with supervisor := .running (s.link.timeout * 1000), holding := some f } } := by
  unfold State.acceptFrame Link.place
  rw [if_neg (by exact not_lt.mpr h), if_pos (by simp [Link.restart, hfree])]
  rfl

theorem State.acceptFrame_overrun (h : 4 ≤ s.link.queue.length) (hheld : s.link.holding ≠ none) :
    s.acceptFrame f =
      { s with link :=
        { s.link with
          supervisor := .running (s.link.timeout * 1000), holding := some f, flags.overrun := true } } := by
  unfold State.acceptFrame Link.place
  rw [if_neg (by exact not_lt.mpr h), if_neg (by simpa [Link.restart] using hheld)]
  rfl

theorem State.takeFrame_oldest {rest : List Frame} (hreply : s.link.reply = none) (hqueue : s.link.queue = f :: rest) :
    s.takeFrame f =
      some { s with link := { s.link with queue := rest ++ s.link.holding.toList, holding := none } } := by
  unfold State.takeFrame Link.pop
  rw [if_neg (by simp [hreply]), hqueue]
  simp

theorem State.takeFrame_of_reply (h : s.link.reply ≠ none) : s.takeFrame f = none := by
  unfold State.takeFrame
  rw [if_pos (Option.isSome_iff_ne_none.mpr h)]

theorem State.takeFrame_behind {older : Frame} {rest : List Frame} (hqueue : s.link.queue = older :: rest)
    (hne : older ≠ f) : s.takeFrame f = none := by
  unfold State.takeFrame
  rw [hqueue]
  simp [hne]

theorem State.takeFrame_empty (hreply : s.link.reply = none) (hqueue : s.link.queue = []) :
    s.takeFrame f = some { s with link := { s.link with supervisor := .running (s.link.timeout * 1000) } } := by
  unfold State.takeFrame
  rw [hreply, hqueue]
  simp [Link.restart]

end

/-- Settles O4, by where a frame is placed and when it is taken. -/
theorem framesArePlacedAndTakenInOrder : Obligations.FramesArePlacedAndTakenInOrder := by
  refine ⟨?_, ?_, ?_, ?_, ?_, ?_⟩
  · intro kind tag payload s h hmax
    have haccept : exec (.frameAccepted (frameBytes kind tag payload)) s =
        .next (s.acceptFrame ⟨kind, tag, payload⟩) :=
      receivedFrameIsAccepted [] kind tag payload s h (fun _ hb => nomatch hb) hmax
    refine ⟨fun hroom => ?_, fun hfull hfree => ?_, fun hfull hheld => ?_⟩
    · rw [haccept, State.acceptFrame_room hroom]
    · rw [haccept, State.acceptFrame_held hfull hfree]
    · rw [haccept, State.acceptFrame_overrun hfull hheld]
  · exact fun f rest s hreply hqueue => State.takeFrame_oldest hreply hqueue
  · exact fun f s hreply => State.takeFrame_of_reply hreply
  · exact fun f older rest s hqueue hne => State.takeFrame_behind hqueue hne
  · exact fun f s hreply hqueue => State.takeFrame_empty hreply hqueue
  · exact fun c kind tag payload s hwf hframe hwaits => exec_of_waits hwf hframe hwaits

/-! ### The checks of the link (R181) -/

/-- A field of one byte is the byte. -/
theorem fieldNat_one (p : List Byte) (k : Nat) : fieldNat p k 1 = byteAt p k := by
  unfold fieldNat byteAt
  rw [List.getD_eq_getElem?_getD, ← List.head?_drop]
  cases p.drop k <;> simp [leNat]

/-- A command whose parameters fail a check of the link is answered with its code. -/
theorem exec_of_error {α : Type} {params : Except Code α} {keep : α → Option Ix} {owner : α → State → Answered}
    {c : Instr} {kind tag : Byte} {payload : List Byte} {s s0 : State} {code : Code}
    (hexec : exec c s = .next (s.command kind tag payload params keep owner)) (hparams : params = .error code)
    (h : s.takeFrame ⟨kind, tag, payload⟩ = some s0) :
    exec c s = .next (s0.putReply ⟨kind + 0x80, tag, code, .none⟩) := by
  rw [hexec, hparams, State.command_refused h]
  rfl

theorem fixedLength_of_ne {α : Type} {p : List Byte} {n : Nat} (h : p.length ≠ n) (x : Except Code α) :
    fixedLength p n x = .error .badLength := if_neg h

/-- Only the kinds of the commands have a length. -/
theorem mem_commandKinds_of_length {kind : Byte} {n : Nat} (h : commandLength kind = some n) : kind ∈ commandKinds := by
  have hall : ∀ k : Byte, (commandLength k).isSome = true → k ∈ commandKinds := by decide
  exact hall kind (by rw [h]; rfl)

theorem exec_badLength {c : Instr} {kind tag : Byte} {payload : List Byte} {n : Nat} {s s0 : State}
    (hwf : c.wellFormed = true) (hframe : c.frame = some (kind, tag, payload)) (hlength : commandLength kind = some n)
    (hne : payload.length ≠ n) (h : s.takeFrame ⟨kind, tag, payload⟩ = some s0) :
    exec c s = .next (s0.putReply ⟨kind + 0x80, tag, .badLength, .none⟩) := by
  cases c with
  | unknownKind k t p =>
    cases hframe
    exact absurd (mem_commandKinds_of_length hlength) (unknownKind_not_mem hwf)
  | profileData t p => cases hframe; exact absurd hlength (by simp [commandLength])
  | planPasses t p => cases hframe; exact absurd hlength (by simp [commandLength])
  | _ =>
    cases hframe <;>
    exact exec_of_error rfl (fixedLength_of_ne (fun heq => hne (heq.trans (Option.some.inj hlength))) _) h

theorem u8At_eq_byteAt (p : List Byte) (k : Nat) : u8At p k = byteAt p k := fieldNat_one p k

/-- A count out of range, or one the length does not bear out. -/
theorem countedParams_badLength {α : Type} {p : List Byte} {most : Nat}
    (h : byteAt p 1 = 0 ∨ most < byteAt p 1 ∨ p.length ≠ 2 + 4 * byteAt p 1) (params : List Int → Except Code α) :
    countedParams p most params = .error .badLength := by
  unfold countedParams
  rw [u8At_eq_byteAt, if_neg]
  omega

theorem stationOf_of_le {n : Nat} (h : 2 ≤ n) : stationOf n = none := by
  unfold stationOf
  split <;> first | rfl | omega

theorem named_stationOf_error {p : List Byte} {k : Nat} (h : 2 ≤ byteAt p k) :
    named (stationOf (u8At p k)) = .error .wrongState := by
  rw [u8At_eq_byteAt, stationOf_of_le h]
  rfl

/-- The payload has the length its kind requires. -/
theorem length_of_shape {kind : Byte} {payload : List Byte} {n : Nat}
    (h : commandLength kind = some payload.length ∨
      kind = 0x59 ∧ 1 ≤ byteAt payload 1 ∧ byteAt payload 1 ≤ 16 ∧ payload.length = 2 + 4 * byteAt payload 1)
    (hkind : commandLength kind = some n) (hne : kind ≠ 0x59) : payload.length = n := by
  obtain h | h := h
  · exact Option.some.inj (h.symm.trans hkind)
  · exact absurd h.1 hne

theorem stationParam_unlisted {p : List Byte} (hlength : p.length = 1) (h : 2 ≤ byteAt p 0) :
    stationParam p = .error .wrongState := by
  rw [stationParam, fixedLength_of_length hlength, named_stationOf_error h]

theorem bindParams_unlisted {p : List Byte} (hlength : p.length = 5) (h : 2 ≤ byteAt p 4) :
    bindParams p = .error .wrongState := by
  rw [bindParams, fixedLength_of_length hlength, named_stationOf_error h]
  rfl

theorem openParams_unlisted {p : List Byte} (hlength : p.length = 9) (h : 3 ≤ byteAt p 8) :
    openParams p = .error .wrongState := by
  have hnone : bindingOf (byteAt p 8) = none := by
    unfold bindingOf
    split <;> first | rfl | omega
  rw [openParams, fixedLength_of_length hlength, u8At_eq_byteAt, hnone]
  rfl

theorem readRecordParams_unlisted {p : List Byte} (hlength : p.length = 7) (h : 2 ≤ byteAt p 4) :
    readRecordParams p = .error .wrongState := by
  rw [readRecordParams, fixedLength_of_length hlength, u8At_eq_byteAt]
  split
  · omega
  · omega
  · rfl

theorem amendParams_unlisted {p : List Byte} (hlength : p.length = 23) (hmask : (byteAt p 4).testBit 5 = true)
    (h : 2 ≤ byteAt p 14) : amendParams p = .error .wrongState := by
  have hnone : recordStateOf (byteAt p 14) = none := by
    unfold recordStateOf
    split <;> first | rfl | omega
  rw [amendParams, fixedLength_of_length hlength, u8At_eq_byteAt p 4, if_pos hmask, u8At_eq_byteAt p 14, hnone]
  rfl

theorem sweepParams_unlisted {p : List Byte} (hlength : p.length = 4) (h : 2 ≤ byteAt p 0 ∨ 2 ≤ byteAt p 3) :
    sweepParams p = .error .wrongState := by
  rw [sweepParams, fixedLength_of_length hlength, u8At_eq_byteAt, u8At_eq_byteAt]
  obtain h | h := h
  · rw [stationOf_of_le h]
  · have hnone : modeOf (byteAt p 3) = none := by
      unfold modeOf
      split <;> first | rfl | omega
    rw [hnone]
    cases stationOf (byteAt p 0) <;> rfl

theorem readProfileParams_unlisted {p : List Byte} (hlength : p.length = 4) (h : 4 ≤ byteAt p 0) :
    readProfileParams p = .error .wrongState := by
  have hnone : wheelOf (byteAt p 0) = none := by
    unfold wheelOf Ix.ofNum
    split <;> first | rfl | omega
  rw [readProfileParams, fixedLength_of_length hlength, u8At_eq_byteAt p 0, hnone]
  rfl

theorem cutStartParams_unlisted {p : List Byte} (hlength : p.length = 2) (h : 2 ≤ byteAt p 0 ∨ 2 ≤ byteAt p 1) :
    cutStartParams p = .error .wrongState := by
  rw [cutStartParams, fixedLength_of_length hlength, u8At_eq_byteAt, u8At_eq_byteAt]
  obtain h | h := h
  · rw [stationOf_of_le h]
  · have hnone : flagOf (byteAt p 1) = none := by
      unfold flagOf
      split <;> first | rfl | omega
    rw [hnone]
    cases stationOf (byteAt p 0) <;> rfl

theorem planPassesParams_unlisted {p : List Byte} (hlength : p.length = 2 + 4 * byteAt p 1) (h1 : 1 ≤ byteAt p 1)
    (h16 : byteAt p 1 ≤ 16) (h : 2 ≤ byteAt p 0) : planPassesParams p = .error .wrongState := by
  rw [planPassesParams, countedParams, u8At_eq_byteAt p 1, if_pos ⟨h1, h16, hlength⟩, named_stationOf_error h]
  rfl

theorem exec_wrongState {c : Instr} {kind tag : Byte} {payload : List Byte} {s s0 : State}
    (hwf : c.wellFormed = true) (hframe : c.frame = some (kind, tag, payload))
    (hshape : commandLength kind = some payload.length ∨
      kind = 0x59 ∧ 1 ≤ byteAt payload 1 ∧ byteAt payload 1 ≤ 16 ∧ payload.length = 2 + 4 * byteAt payload 1)
    (hunlisted : unlisted kind payload = true) (h : s.takeFrame ⟨kind, tag, payload⟩ = some s0) :
    exec c s = .next (s0.putReply ⟨kind + 0x80, tag, .wrongState, .none⟩) := by
  have hlength {n : Nat} := length_of_shape (n := n) hshape
  have hstation (hkind : commandLength kind = some 1) (hmem : kind ∈ stationKinds) (hne : kind ≠ 0x59) :
      stationParam payload = .error .wrongState := by
    refine stationParam_unlisted (hlength hkind hne) ?_
    rw [unlisted, if_pos hmem] at hunlisted
    simpa using hunlisted
  cases c with
  | unknownKind k t p =>
    cases hframe
    obtain hkind | ⟨rfl, -⟩ := hshape
    · exact absurd (mem_commandKinds_of_length hkind) (unknownKind_not_mem hwf)
    · exact absurd (by decide) (unknownKind_not_mem hwf)
  | bind t p =>
    cases hframe
    refine exec_of_error rfl (bindParams_unlisted (hlength rfl (by decide)) ?_) h
    simpa [unlisted, stationKinds] using hunlisted
  | openRecord t p =>
    cases hframe
    refine exec_of_error rfl (openParams_unlisted (hlength rfl (by decide)) ?_) h
    simpa [unlisted, stationKinds] using hunlisted
  | readRecord t p =>
    cases hframe
    refine exec_of_error rfl (readRecordParams_unlisted (hlength rfl (by decide)) ?_) h
    simpa [unlisted, stationKinds] using hunlisted
  | amend t p =>
    cases hframe
    have hboth : (byteAt payload 4).testBit 5 = true ∧ 2 ≤ byteAt payload 14 := by simpa [unlisted, stationKinds] using hunlisted
    exact exec_of_error rfl (amendParams_unlisted (hlength rfl (by decide)) hboth.1 hboth.2) h
  | sweep t p =>
    cases hframe
    refine exec_of_error rfl (sweepParams_unlisted (hlength rfl (by decide)) ?_) h
    simpa [unlisted, stationKinds] using hunlisted
  | readProfile t p =>
    cases hframe
    refine exec_of_error rfl (readProfileParams_unlisted (hlength rfl (by decide)) ?_) h
    simpa [unlisted, stationKinds] using hunlisted
  | cutStart t p =>
    cases hframe
    refine exec_of_error rfl (cutStartParams_unlisted (hlength rfl (by decide)) ?_) h
    simpa [unlisted, stationKinds] using hunlisted
  | planPasses t p =>
    cases hframe
    obtain hkind | ⟨-, h1, h16, hlong⟩ := hshape
    · exact absurd hkind (by simp [commandLength])
    · refine exec_of_error rfl (planPassesParams_unlisted hlong h1 h16 ?_) h
      simpa [unlisted, stationKinds] using hunlisted
  | unbind t p => cases hframe; exact exec_of_error rfl (hstation rfl (by decide) (by decide)) h
  | logMeasurement t p => cases hframe; exact exec_of_error rfl (hstation rfl (by decide) (by decide)) h
  | probeReference t p => cases hframe; exact exec_of_error rfl (hstation rfl (by decide) (by decide)) h
  | calibrateOn t p => cases hframe; exact exec_of_error rfl (hstation rfl (by decide) (by decide)) h
  | calibrateMeasure t p => cases hframe; exact exec_of_error rfl (hstation rfl (by decide) (by decide)) h
  | calibrateOff t p => cases hframe; exact exec_of_error rfl (hstation rfl (by decide) (by decide)) h
  | sweepContinue t p => cases hframe; exact exec_of_error rfl (hstation rfl (by decide) (by decide)) h
  | sweepStop t p => cases hframe; exact exec_of_error rfl (hstation rfl (by decide) (by decide)) h
  | readMeasurement t p => cases hframe; exact exec_of_error rfl (hstation rfl (by decide) (by decide)) h
  | planAuto t p => cases hframe; exact exec_of_error rfl (hstation rfl (by decide) (by decide)) h
  | feedHold t p => cases hframe; exact exec_of_error rfl (hstation rfl (by decide) (by decide)) h
  | resume t p => cases hframe; exact exec_of_error rfl (hstation rfl (by decide) (by decide)) h
  | cutAbort t p => cases hframe; exact exec_of_error rfl (hstation rfl (by decide) (by decide)) h
  | _ => cases hframe <;> exact absurd hunlisted (by simp [unlisted, stationKinds])

/-- Settles O7, by the check that fails. -/
theorem misshapenCommandsAreRefused : Obligations.MisshapenCommandsAreRefused := by
  refine ⟨⟨?_, ?_, ?_⟩, ?_⟩
  · exact fun c kind tag payload n s s0 hwf hframe hlength hne h => exec_badLength hwf hframe hlength hne h
  · intro c kind tag payload most s s0 hc hcount h
    obtain ⟨rfl, rfl, rfl⟩ | ⟨rfl, rfl, rfl⟩ := hc
    · exact exec_of_error rfl (countedParams_badLength hcount _) h
    · exact exec_of_error rfl (countedParams_badLength hcount _) h
  · intro kind tag payload s s0 hkind h
    rw [exec_unknownKind s hkind, State.unknownFrame, h]
  · exact fun c kind tag payload s s0 hwf hframe hshape hunlisted h => exec_wrongState hwf hframe hshape hunlisted h

end Sys2Proof.Machine
end

section
/-! PROOFS. Chapter 11: a command that is refused changes nothing but the link and a load it broke. -/

namespace Sys2Proof.Machine

/-- An answer that refuses leaves the state as it was and has no further fields (section 11.9). -/
def Answered.refusesCleanly (r : Answered) (s : State) : Prop :=
  r.code.accepts = false → r.state = s ∧ r.answer = .none

@[simp] theorem refusesCleanly_refuse (s : State) (c : Code) : (s.refuse c).refusesCleanly s := fun _ => ⟨rfl, rfl⟩

@[simp] theorem refusesCleanly_accept (s t : State) : (State.accept t).refusesCleanly s := fun h => nomatch h

@[simp] theorem accepts_adjustedIf (b : Bool) : (adjustedIf b).accepts = true := by cases b <;> rfl

@[simp] theorem accepts_recordPart (x : RecordPart) : x.code.accepts = true := by
  cases x with
  | header => rfl
  | entries f c => exact accepts_adjustedIf _

/-- An answer whose code accepts says nothing about a refusal. -/
@[simp] theorem refusesCleanly_of_accepts {t s : State} {c : Code} {a : Answer} (h : c.accepts = true) :
    (⟨t, c, a⟩ : Answered).refusesCleanly s := fun hc => by simp [h] at hc

@[simp] theorem refusesCleanly_ok {t s : State} {a : Answer} : (⟨t, .ok, a⟩ : Answered).refusesCleanly s :=
  refusesCleanly_of_accepts rfl

@[simp] theorem refusesCleanly_deferred {t s : State} {a : Answer} :
    (⟨t, .deferred, a⟩ : Answered).refusesCleanly s := refusesCleanly_of_accepts rfl

@[simp] theorem refusesCleanly_restarted {t s : State} {a : Answer} :
    (⟨t, .restarted, a⟩ : Answered).refusesCleanly s := refusesCleanly_of_accepts rfl

/-! ### The owners -/

section
variable (s : State)

theorem State.status_refusesCleanly (n : Nat) : (s.status n).refusesCleanly s := by
  unfold State.status
  split
  · exact refusesCleanly_refuse s _
  · exact refusesCleanly_of_accepts rfl

theorem State.setLink_refusesCleanly (x : Nat × List Bool) : (s.setLink x).refusesCleanly s := by
  unfold State.setLink
  simp

theorem State.setPit_refusesCleanly (t : Pit) : (s.setPit t).refusesCleanly s := by
  unfold State.setPit
  repeat' split
  all_goals simp

theorem State.setCut_refusesCleanly (t : CutTable) : (s.setCut t).refusesCleanly s := by
  unfold State.setCut
  repeat' split
  all_goals simp

theorem State.profileBegin_refusesCleanly (x : ProfileParams) : (s.profileBegin x).refusesCleanly s := by
  unfold State.profileBegin
  repeat' split
  all_goals simp

theorem State.profileData_refusesCleanly (x : Nat × List Int) : (s.profileData x).refusesCleanly s := by
  unfold State.profileData
  repeat' split
  all_goals simp

theorem State.profileResume_refusesCleanly (n : Nat) : (s.profileResume n).refusesCleanly s := by
  unfold State.profileResume
  split
  · exact refusesCleanly_refuse s _
  split
  · exact refusesCleanly_of_accepts rfl
  · exact refusesCleanly_refuse s _

theorem State.enrol_refusesCleanly (tag : Byte) (x : EnrolParams) : (s.enrol tag x).refusesCleanly s := by
  unfold State.enrol
  repeat' split
  all_goals simp

theorem State.amend_refusesCleanly (tag : Byte) (x : AmendParams) : (s.amend tag x).refusesCleanly s := by
  unfold State.amend
  dsimp only
  repeat' split
  all_goals simp

theorem State.retire_refusesCleanly (tag : Byte) (n : Nat) : (s.retire tag n).refusesCleanly s := by
  unfold State.retire
  repeat' split
  all_goals simp

theorem State.readRecord_refusesCleanly (tag : Byte) (x : Nat × RecordPart) : (s.readRecord tag x).refusesCleanly s := by
  unfold State.readRecord
  dsimp only
  repeat' split
  all_goals simp

theorem State.openInto_refusesCleanly (x : OpenParams) {code : Code} (h : code.accepts = true) :
    (s.openInto x code).refusesCleanly s := by
  unfold State.openInto
  dsimp only
  repeat' split
  all_goals simp [h]

theorem State.openRecord_refusesCleanly (x : OpenParams) : (s.openRecord x).refusesCleanly s := by
  have hinto (x : OpenParams) (b : Bool) := s.openInto_refusesCleanly x (accepts_adjustedIf b)
  unfold State.openRecord
  dsimp only
  repeat' split
  all_goals simp [hinto]

theorem State.closeRecord_refusesCleanly (n : Nat) : (s.closeRecord n).refusesCleanly s := by
  unfold State.closeRecord
  dsimp only
  repeat' split
  all_goals simp

theorem State.bindStation_refusesCleanly (x : Nat × Station) : (s.bindStation x).refusesCleanly s := by
  unfold State.bindStation
  dsimp only
  repeat' split
  all_goals simp

theorem State.unbindStation_refusesCleanly (st : Station) : (s.unbindStation st).refusesCleanly s := by
  unfold State.unbindStation
  repeat' split
  all_goals simp

theorem State.logMeasurement_refusesCleanly (st : Station) : (s.logMeasurement st).refusesCleanly s := by
  unfold State.logMeasurement
  dsimp only
  repeat' split
  all_goals simp

theorem State.raiseLift_refusesCleanly (h : Int) : (s.raiseLift h).refusesCleanly s := by
  unfold State.raiseLift
  repeat' split
  all_goals simp

theorem State.lowerLift_refusesCleanly : (s.lowerLift).refusesCleanly s := by
  unfold State.lowerLift
  repeat' split
  all_goals simp

theorem State.stopLift_refusesCleanly : (s.stopLift).refusesCleanly s := by
  unfold State.stopLift
  repeat' split
  all_goals simp

theorem State.resumeLift_refusesCleanly : (s.resumeLift).refusesCleanly s := by
  unfold State.resumeLift
  repeat' split
  all_goals simp

theorem State.clearFault_refusesCleanly : (s.clearFault).refusesCleanly s := by
  unfold State.clearFault
  repeat' split
  all_goals simp

theorem State.park_refusesCleanly : (s.park).refusesCleanly s := by
  unfold State.park
  repeat' split
  all_goals simp

theorem State.unpark_refusesCleanly : (s.unpark).refusesCleanly s := by
  unfold State.unpark
  repeat' split
  all_goals simp

theorem State.probeReference_refusesCleanly (st : Station) : (s.probeReference st).refusesCleanly s := by
  unfold State.probeReference
  dsimp only
  repeat' split
  all_goals simp

theorem State.calibrateOn_refusesCleanly (st : Station) : (s.calibrateOn st).refusesCleanly s := by
  unfold State.calibrateOn
  dsimp only
  repeat' split
  all_goals simp

theorem State.calibrateMeasure_refusesCleanly (st : Station) : (s.calibrateMeasure st).refusesCleanly s := by
  unfold State.calibrateMeasure
  dsimp only
  repeat' split
  all_goals simp

theorem State.calibrateOff_refusesCleanly (st : Station) : (s.calibrateOff st).refusesCleanly s := by
  unfold State.calibrateOff
  dsimp only
  repeat' split
  all_goals simp

theorem State.sweep_refusesCleanly (x : SweepParams) : (s.sweep x).refusesCleanly s := by
  unfold State.sweep
  dsimp only
  repeat' split
  all_goals simp

theorem State.sweepContinue_refusesCleanly (st : Station) : (s.sweepContinue st).refusesCleanly s := by
  unfold State.sweepContinue
  repeat' split
  all_goals simp

theorem State.sweepStop_refusesCleanly (st : Station) : (s.sweepStop st).refusesCleanly s := by
  unfold State.sweepStop
  repeat' split
  all_goals simp

theorem State.readProfile_refusesCleanly (x : ReadProfileParams) : (s.readProfile x).refusesCleanly s := by
  unfold State.readProfile
  simp

theorem State.measure_refusesCleanly : (s.measure).refusesCleanly s := by
  unfold State.measure
  repeat' split
  all_goals simp

theorem State.readMeasurement_refusesCleanly (st : Station) : (s.readMeasurement st).refusesCleanly s := by
  unfold State.readMeasurement
  repeat' split
  all_goals simp

theorem State.makePlan_refusesCleanly (source : PlanSource) (st : Station) (form : CutTable → Int → Except Code (List Int)) : (s.makePlan source st form).refusesCleanly s := by
  unfold State.makePlan
  repeat' split
  all_goals simp

theorem State.cutStart_refusesCleanly (x : Station × Bool) : (s.cutStart x).refusesCleanly s := by
  unfold State.cutStart
  repeat' split
  all_goals simp

theorem State.feedHold_refusesCleanly (st : Station) : (s.feedHold st).refusesCleanly s := by
  unfold State.feedHold
  repeat' split
  all_goals simp

theorem State.resumeCut_refusesCleanly (st : Station) : (s.resumeCut st).refusesCleanly s := by
  unfold State.resumeCut
  dsimp only
  repeat' split
  all_goals simp

theorem State.cutAbort_refusesCleanly (st : Station) : (s.cutAbort st).refusesCleanly s := by
  unfold State.cutAbort
  repeat' split
  all_goals simp

end

/-- The row of a frame, and that its owner refuses cleanly. -/
theorem exec_of_frame_refusesCleanly {c : Instr} {kind tag : Byte} {payload : List Byte}
    (h : c.frame = some (kind, tag, payload)) :
    (∃ (α : Type) (params : Except Code α) (keep : α → Option Ix) (owner : α → State → Answered),
      (∀ s, exec c s = .next (s.command kind tag payload params keep owner)) ∧
        ∀ x s, (owner x s).refusesCleanly s) ∨ c = .unknownKind kind tag payload := by
  cases c with
  | unknownKind _ _ _ => cases h; exact .inr rfl
  | status _ _ => cases h; exact .inl ⟨_, _, _, _, fun _ => rfl, fun x s => s.status_refusesCleanly x⟩
  | setLink _ _ => cases h; exact .inl ⟨_, _, _, _, fun _ => rfl, fun x s => s.setLink_refusesCleanly x⟩
  | setPit _ _ => cases h; exact .inl ⟨_, _, _, _, fun _ => rfl, fun x s => s.setPit_refusesCleanly x⟩
  | setCut _ _ => cases h; exact .inl ⟨_, _, _, _, fun _ => rfl, fun x s => s.setCut_refusesCleanly x⟩
  | profileBegin _ _ => cases h; exact .inl ⟨_, _, _, _, fun _ => rfl, fun x s => s.profileBegin_refusesCleanly x⟩
  | profileData _ _ => cases h; exact .inl ⟨_, _, _, _, fun _ => rfl, fun x s => s.profileData_refusesCleanly x⟩
  | profileResume _ _ => cases h; exact .inl ⟨_, _, _, _, fun _ => rfl, fun x s => s.profileResume_refusesCleanly x⟩
  | enrol tag _ => cases h; exact .inl ⟨_, _, _, _, fun _ => rfl, fun x s => s.enrol_refusesCleanly tag x⟩
  | amend tag _ => cases h; exact .inl ⟨_, _, _, _, fun _ => rfl, fun x s => s.amend_refusesCleanly tag x⟩
  | retire tag _ => cases h; exact .inl ⟨_, _, _, _, fun _ => rfl, fun x s => s.retire_refusesCleanly tag x⟩
  | readRecord tag _ => cases h; exact .inl ⟨_, _, _, _, fun _ => rfl, fun x s => s.readRecord_refusesCleanly tag x⟩
  | openRecord _ _ => cases h; exact .inl ⟨_, _, _, _, fun _ => rfl, fun x s => s.openRecord_refusesCleanly x⟩
  | closeRecord _ _ => cases h; exact .inl ⟨_, _, _, _, fun _ => rfl, fun x s => s.closeRecord_refusesCleanly x⟩
  | bind _ _ => cases h; exact .inl ⟨_, _, _, _, fun _ => rfl, fun x s => s.bindStation_refusesCleanly x⟩
  | unbind _ _ => cases h; exact .inl ⟨_, _, _, _, fun _ => rfl, fun x s => s.unbindStation_refusesCleanly x⟩
  | logMeasurement _ _ => cases h; exact .inl ⟨_, _, _, _, fun _ => rfl, fun x s => s.logMeasurement_refusesCleanly x⟩
  | raise _ _ => cases h; exact .inl ⟨_, _, _, _, fun _ => rfl, fun x s => s.raiseLift_refusesCleanly x⟩
  | lower _ _ => cases h; exact .inl ⟨_, _, _, _, fun _ => rfl, fun _ s => s.lowerLift_refusesCleanly⟩
  | liftStop _ _ => cases h; exact .inl ⟨_, _, _, _, fun _ => rfl, fun _ s => s.stopLift_refusesCleanly⟩
  | liftResume _ _ => cases h; exact .inl ⟨_, _, _, _, fun _ => rfl, fun _ s => s.resumeLift_refusesCleanly⟩
  | faultClear _ _ => cases h; exact .inl ⟨_, _, _, _, fun _ => rfl, fun _ s => s.clearFault_refusesCleanly⟩
  | park _ _ => cases h; exact .inl ⟨_, _, _, _, fun _ => rfl, fun _ s => s.park_refusesCleanly⟩
  | unpark _ _ => cases h; exact .inl ⟨_, _, _, _, fun _ => rfl, fun _ s => s.unpark_refusesCleanly⟩
  | probeReference _ _ => cases h; exact .inl ⟨_, _, _, _, fun _ => rfl, fun x s => s.probeReference_refusesCleanly x⟩
  | calibrateOn _ _ => cases h; exact .inl ⟨_, _, _, _, fun _ => rfl, fun x s => s.calibrateOn_refusesCleanly x⟩
  | calibrateMeasure _ _ => cases h; exact .inl ⟨_, _, _, _, fun _ => rfl, fun x s => s.calibrateMeasure_refusesCleanly x⟩
  | calibrateOff _ _ => cases h; exact .inl ⟨_, _, _, _, fun _ => rfl, fun x s => s.calibrateOff_refusesCleanly x⟩
  | sweep _ _ => cases h; exact .inl ⟨_, _, _, _, fun _ => rfl, fun x s => s.sweep_refusesCleanly x⟩
  | sweepContinue _ _ => cases h; exact .inl ⟨_, _, _, _, fun _ => rfl, fun x s => s.sweepContinue_refusesCleanly x⟩
  | sweepStop _ _ => cases h; exact .inl ⟨_, _, _, _, fun _ => rfl, fun x s => s.sweepStop_refusesCleanly x⟩
  | readProfile _ _ => cases h; exact .inl ⟨_, _, _, _, fun _ => rfl, fun x s => s.readProfile_refusesCleanly x⟩
  | measure _ _ => cases h; exact .inl ⟨_, _, _, _, fun _ => rfl, fun _ s => s.measure_refusesCleanly⟩
  | readMeasurement _ _ => cases h; exact .inl ⟨_, _, _, _, fun _ => rfl, fun x s => s.readMeasurement_refusesCleanly x⟩
  | planAuto _ _ => cases h; exact .inl ⟨_, _, _, _, fun _ => rfl, fun _ s => s.makePlan_refusesCleanly _ _ _⟩
  | planPasses _ _ => cases h; exact .inl ⟨_, _, _, _, fun _ => rfl, fun _ s => s.makePlan_refusesCleanly _ _ _⟩
  | cutStart _ _ => cases h; exact .inl ⟨_, _, _, _, fun _ => rfl, fun x s => s.cutStart_refusesCleanly x⟩
  | feedHold _ _ => cases h; exact .inl ⟨_, _, _, _, fun _ => rfl, fun x s => s.feedHold_refusesCleanly x⟩
  | resume _ _ => cases h; exact .inl ⟨_, _, _, _, fun _ => rfl, fun x s => s.resumeCut_refusesCleanly x⟩
  | cutAbort _ _ => cases h; exact .inl ⟨_, _, _, _, fun _ => rfl, fun x s => s.cutAbort_refusesCleanly x⟩
  | _ => cases h

/-! ### What a refusal leaves -/

/-- What a refused command may change: the link, which holds the reply, and the loads. -/
def State.refusedTo (s s0 t : State) (r : Reply) : Prop :=
  t.link = { s0.link with reply := some r } ∧ t.setup.pit = s.setup.pit ∧ t.setup.cut = s.setup.cut ∧
    (∀ i, t.profile i = s.profile i ∨
      (s.profile i).state = .loading ∧ t.profile i = { s.profile i with state := .broken }) ∧
    Only [.link, .setup] s t

theorem State.refusedTo_putReply {s s0 : State} {f : Frame} (h : s.takeFrame f = some s0) (r : Reply) :
    s.refusedTo s0 (s0.putReply r) r := by
  have honly := State.takeFrame_only h
  have hsetup : s0.setup = s.setup := honly.2 .setup (by decide)
  refine ⟨rfl, congrArg Setup.pit hsetup, congrArg Setup.cut hsetup, fun i => .inl ?_, ?_⟩
  · exact congrArg (fun x : Setup => x.profiles.get i) hsetup
  · exact (honly.mono (by decide)).trans ((s0.putReply_only r).mono (by decide))

theorem State.refusedTo_breakLoad {s s0 : State} {f : Frame} (h : s.takeFrame f = some s0) (keep : Option Ix)
    (r : Reply) : s.refusedTo s0 ((s0.breakLoad keep).putReply r) r := by
  have honly := State.takeFrame_only h
  have hsetup : s0.setup = s.setup := honly.2 .setup (by decide)
  have hprofile (i : Ix) : s0.profile i = s.profile i := congrArg (fun x : Setup => x.profiles.get i) hsetup
  have hpit : s0.setup.pit = s.setup.pit := by rw [hsetup]
  have hcut : s0.setup.cut = s.setup.cut := by rw [hsetup]
  refine ⟨rfl, hpit, hcut, fun i => ?_, ?_⟩
  · have hbroken : ((s0.breakLoad keep).putReply r).profile i = (s0.breakLoad keep).profile i := rfl
    rw [hbroken, breakLoad_profile, hprofile]
    split
    · next hload => exact .inr ⟨hload.1, rfl⟩
    · exact .inl rfl
  · exact ((honly.mono (by decide)).trans ((s0.breakLoad_only keep).mono (by decide))).trans
      ((State.putReply_only _ r).mono (by decide))

theorem State.acceptFrame_reply (s : State) (f : Frame) : (s.acceptFrame f).link.reply = s.link.reply := by
  unfold State.acceptFrame Link.place
  dsimp only
  split
  · rfl
  split <;> rfl

/-- Settles O9: the owner of a refused command leaves the state as it is handed over. -/
theorem refusedCommandChangesNothing : Obligations.RefusedCommandChangesNothing := by
  unfold Obligations.RefusedCommandChangesNothing
  intro c kind tag payload s t r hframe hreply hexec htr hrefused
  suffices hto : r.tag = tag ∧ r.answer = .none ∧
      ∃ s0, s.takeFrame ⟨kind, tag, payload⟩ = some s0 ∧ s.refusedTo s0 t r by
    obtain ⟨htag, hanswer, s0, htake, hlink, hrest⟩ := hto
    exact ⟨htag, hanswer, ⟨s0, htake, hlink⟩, hrest⟩
  obtain ⟨α, params, keep, owner, hrow, hclean⟩ | rfl := exec_of_frame_refusesCleanly hframe
  · rw [hrow] at hexec
    cases htake : s.takeFrame ⟨kind, tag, payload⟩ with
    | none =>
      rw [State.command_waits htake] at hexec
      cases hexec
      rw [State.acceptFrame_reply, hreply] at htr
      cases htr
    | some s0 =>
      cases params with
      | error code =>
        rw [State.command_refused htake] at hexec
        cases hexec
        cases htr
        exact ⟨rfl, rfl, s0, rfl, State.refusedTo_putReply htake _⟩
      | ok x =>
        rw [State.command_taken htake] at hexec
        cases hexec
        cases htr
        obtain ⟨hstate, hanswer⟩ := hclean x (s0.breakLoad (keep x)) hrefused
        refine ⟨rfl, hanswer, s0, rfl, ?_⟩
        generalize owner x (s0.breakLoad (keep x)) = y at hstate
        obtain ⟨u, code, answer⟩ := y
        obtain rfl : u = s0.breakLoad (keep x) := hstate
        exact State.refusedTo_breakLoad htake (keep x) _
  · by_cases hkind : kind ∈ commandKinds
    · obtain rfl : s = t := Host.Outcome.next.inj ((congrArg Host.Outcome.next (if_pos hkind)).symm.trans hexec)
      rw [hreply] at htr
      cases htr
    · rw [exec_unknownKind s hkind, State.unknownFrame] at hexec
      cases htake : s.takeFrame ⟨kind, tag, payload⟩ with
      | none =>
        rw [htake] at hexec
        cases hexec
        rw [State.acceptFrame_reply, hreply] at htr
        cases htr
      | some s0 =>
        rw [htake] at hexec
        cases hexec
        cases htr
        exact ⟨rfl, rfl, s0, rfl, State.refusedTo_putReply htake _⟩

end Sys2Proof.Machine
end

section
/-! PROOFS. Chapter 11: STATUS and the content of the sources, SET LINK, and the frames sent. -/

namespace Sys2Proof.Machine

/-! ### STATUS (R187) -/

theorem statusParams_byte (n : Byte) : statusParams [n] = .ok n.toNat := by
  rw [statusParams, fixedLength_of_length (by rfl), u8At_eq_byteAt]
  rfl

theorem exec_status_handed {tag n : Byte} {s s1 : State} (h : s.handed 0x01 tag [n] = some s1) :
    exec (.status tag [n]) s = .next ((s1.status n.toNat).sent 0x01 tag) :=
  State.plainCommand_next (statusParams_byte n) h

theorem sourceOf_of_le {n : Nat} (h : 11 ≤ n) : sourceOf n = none := List.getElem?_eq_none h

/-! ### The contents -/

section
variable (s : State)

theorem State.content_station (st : Station) : s.content (.station st) = .station (s.stationSnap st) := by
  cases st <;> rfl

theorem State.content_capture (st : Station) : s.content (.capture st) = .capture (s.captureSnap st) := by
  cases st <;> rfl

theorem State.content_probe (st : Station) : s.content (.probe st) = .probe (s.probeSnap st) := by
  cases st <;> rfl

/-- A plan is in force while its slot holds its serial and a current measurement of its run (R148). -/
theorem State.planInForce_eq (st : Station) (p : Plan) :
    s.planInForce st p = (s.boundSlot st).any fun i =>
      decide ((s.slot i).serial = some p.serial) && (s.slot i).measurement.any fun m =>
        decide (m.run = p.run) && s.measurementCurrent st m := by
  unfold State.planInForce
  cases s.boundSlot st with
  | none => rfl
  | some i => cases hm : (s.slot i).measurement <;> simp [hm]

end

/-- A sample written stands within a window of lateral stations. -/
def inWindow (first last : Nat) (x : Nat × Sample) : Bool :=
  decide (first ≤ x.1 % 160) && decide (x.1 % 160 ≤ last)

theorem Area.count_eq_filter (c : Area) (first last : Nat) :
    Area.count c first last =
      { unset := 8 * (last + 1 - first) - (c.filter (inWindow first last)).length
        invalid := (c.filter (inWindow first last)).countP fun x => decide (x.2 = .invalid)
        radii := (c.filter (inWindow first last)).length -
          (c.filter (inWindow first last)).countP fun x => decide (x.2 = .invalid) } := rfl

/-- The counts of a window: the samples written in it, bad ones and radii, and the rest. -/
theorem Area.count_eq (c : Area) (first last : Nat) :
    let written (bad : Bool) : Nat := List.countP (fun x : Nat × Sample =>
      decide (first ≤ x.1 % 160) && decide (x.1 % 160 ≤ last) && decide (x.2 = .invalid) == bad) c
    Area.count c first last =
      { unset := 8 * (last + 1 - first) - (written true + written false), invalid := written true
        radii := written false } := by
  intro written
  have hwritten (bad : Bool) :
      (c.filter (inWindow first last)).countP (fun x => decide (x.2 = .invalid) == bad) = written bad := by
    rw [List.countP_filter]
    exact List.countP_congr fun x _ => by rw [Bool.and_comm]; rfl
  have hbad : (c.filter (inWindow first last)).countP (fun x => decide (x.2 = .invalid)) = written true := by
    rw [← hwritten]
    exact List.countP_congr fun x _ => by simp
  have hall : (c.filter (inWindow first last)).length = written true + written false := by
    rw [List.length_eq_countP_add_countP (fun x : Nat × Sample => decide (x.2 = .invalid)), hbad, ← hwritten false]
    exact congrArg _ (List.countP_congr fun x _ => by simp)
  rw [Area.count_eq_filter, hbad, hall, Nat.add_sub_cancel_left]

theorem State.captureSnap_counts (s : State) (st : Station) (side : Side) :
    (s.captureSnap st).counts.get side =
      Area.count (s.capture.areas.get (st.wheel side).ix) (((s.sweepOf st).run.map fun r => r.first).getD 0)
        (((s.sweepOf st).run.map fun r => r.last).getD (Config.lateralStations - 1)) := by
  cases side <;> rfl

/-- Settles O10: each source's content is read off its snapshot. -/
theorem statusReturnsContentAlone : Obligations.StatusReturnsContentAlone := by
  refine ⟨fun tag n s s1 h => ⟨fun src hsrc => ?_, fun hn => ?_⟩, fun s => ?_⟩
  · rw [exec_status_handed h, State.status, show sourceOf n.toNat = some src from hsrc]
    rfl
  · rw [exec_status_handed h, State.status, sourceOf_of_le hn]
    rfl
  intro current
  have hcurrent (st : Station) (m : Measurement) : s.measurementCurrent st m = current st m := rfl
  refine ⟨⟨_, rfl, rfl, rfl, rfl, rfl, rfl, ?_, rfl, rfl, rfl, rfl, rfl, rfl, rfl, rfl, rfl, ?_⟩, ⟨_, rfl, ?_⟩, ?_, ?_,
    ?_, ⟨_, rfl, ?_, rfl, rfl, ?_⟩, ⟨_, rfl, ?_, rfl, rfl, rfl, rfl⟩, ?_⟩
  · exact fun i => by cases i <;> rfl
  · exact decide_eq_true_iff
  · exact fun i => by cases i <;> rfl
  · intro st x
    rw [State.content_station, State.stationSnap, State.planOf]
    simp only [State.planInForce_eq, hcurrent]
    rfl
  · intro st
    refine ⟨_, s.content_capture st, rfl, s.captureCurrent_iff st, fun side first last hwindow => ?_⟩
    have hfirst : ((s.sweepOf st).run.map fun r => r.first).getD 0 = first := by
      obtain ⟨r, hrun, rfl, -⟩ | ⟨hrun, rfl, -⟩ := hwindow <;> simp [hrun]
    have hlast : ((s.sweepOf st).run.map fun r => r.last).getD (Config.lateralStations - 1) = last := by
      obtain ⟨r, hrun, -, rfl⟩ | ⟨hrun, -, rfl⟩ := hwindow <;> simp [hrun, Config.lateralStations]
    rw [State.captureSnap_counts, hfirst, hlast]
    exact Area.count_eq _ first last
  · intro st p
    rw [State.content_probe, State.probeSnap]
    unfold CalMeasure.snap
    cases p.measure <;> rfl
  · exact Option.isSome_iff_ne_none
  · intro st record
    cases st <;> rfl
  · intro i sl
    have hslot : (s.context.slots.map Slot.snap).get i = sl.snap := by cases i <;> rfl
    refine hslot.trans ?_
    unfold Slot.snap
    cases sl.incoming <;> rfl
  · show Content.link s.linkSnap = _
    rw [State.linkSnap]
    cases s.link.holding <;> rfl

/-! ### SET LINK (R186) -/

/-- Each source takes its bit of the mask. -/
theorem State.remasked_get (s : State) {mask : List Bool} (hlength : mask.length = 11) {src : Source} {bit : Bool}
    (hbit : mask[Source.all.idxOf src]? = some bit) :
    (s.remasked mask).get src = (s.notices.get src).remask bit (s.waiting src) := by
  match mask, hlength with
  | [_, _, _, _, _, _, _, _, _, _, _], _ => cases src <;> cases hbit <;> rfl

theorem State.anyLatch_iff (s : State) : s.anyLatch = true ↔ ∃ i, (s.inputs.get i).latch = true := by
  have hall (i : Input) : i ∈ Input.all := by cases i <;> decide
  simp [State.anyLatch, Twelve.toList, hall]

theorem State.waiting_iff (s : State) (src : Source) :
    s.waiting src = true ↔ (src = .interlock ∧ ∃ i, (s.inputs.get i).latch = true) ∨
      (src = .context ∧ (s.context.results ≠ [] ∨ s.store.results ≠ [])) := by
  cases src with
  | interlock => simpa [State.waiting] using s.anyLatch_iff
  | context => simp [State.waiting]
  | _ => simp [State.waiting]

theorem mask_length {payload : List Byte} {timeout : Nat} {mask : List Bool}
    (h : setLinkParams payload = .ok (timeout, mask)) : mask.length = 11 := by
  unfold setLinkParams fixedLength at h
  split at h
  · cases h
    simp [setBits]
  · cases h

/-- Settles O11: each source is remasked by its own bit. -/
theorem setLinkWritesTimeoutAndMask : Obligations.SetLinkWritesTimeoutAndMask := by
  unfold Obligations.SetLinkWritesTimeoutAndMask
  intro tag payload timeout mask s s1 hparams h
  refine ⟨(s1.setLink (timeout, mask)).sent 0x02 tag, State.plainCommand_next hparams h, ?_, fun src bit hbit => ?_, ?_⟩
  · rw [← adjustedIf_clampNat (by decide), ← clampNat_eq_max_min (by decide)]
    rfl
  · have hget : ((s1.setLink (timeout, mask)).sent 0x02 tag).notices.get src =
        (s1.notices.get src).remask bit (s1.waiting src) := s1.remasked_get (mask_length hparams) hbit
    rw [hget, ← s1.waiting_iff]
    unfold SourceState.remask
    cases bit <;> simp [or_assoc]
  · exact ⟨rfl, fun b hb => by cases b <;> first | rfl | exact absurd (by decide) hb⟩

/-! ### The frames sent (R177, R182, R184) -/

/-- Settles O12, by what is being sent and what waits to be sent. -/
theorem repliesCarryAndClearTheLinkFlags : Obligations.RepliesCarryAndClearTheLinkFlags := by
  unfold Obligations.RepliesCarryAndClearTheLinkFlags
  intro s
  refine ⟨fun r hsending hready hreply => ?_, fun hnot => ?_, fun bytes hsending => ?_, fun src content bytes hsending => ?_,
    fun level => rfl⟩
  all_goals refine congrArg Host.Outcome.next ?_
  · unfold State.startReply Link.mayStart
    rw [hsending, hready, hreply]
    rfl
  · unfold State.startReply
    split
    · next hstart hreply =>
      simp only [Link.mayStart, Bool.and_eq_true, Option.isNone_iff_eq_none] at hstart
      simp [hstart.1, hstart.2, hreply] at hnot
    · rfl
  · unfold State.endFrame
    rw [hsending]
  · unfold State.endFrame
    rw [hsending]

/-- The first pending source, by what stands before it. -/
theorem Notices.first_eq {n : Notices} {before after : List Source} {src : Source}
    (hall : Source.all = before ++ src :: after) (hbefore : ∀ x ∈ before, (n.get x).pending = false)
    (hpending : (n.get src).pending = true) : n.first = some src := by
  have hnone : before.find? (fun x => (n.get x).pending) = none := by
    rw [List.find?_eq_none]
    exact fun x hx => by simp [hbefore x hx]
  rw [Notices.first, hall, List.find?_append, hnone, List.find?_cons_of_pos (p := fun x => (n.get x).pending) hpending]
  rfl

theorem Notices.first_eq_none {n : Notices} (h : ∀ src, (n.get src).pending = false) : n.first = none := by
  rw [Notices.first, List.find?_eq_none]
  exact fun src _ => by simp [h src]

/-- The start of a notice, by the source that goes first. -/
theorem State.startNotice_eq {s : State} {src : Source} (h : s.nextNotice = some src) :
    s.startNotice =
      { s.snapshotTaken src with
        notices := (s.snapshotTaken src).notices.taken src
        link := { (s.snapshotTaken src).link with
          sending := some (.notice src (s.content src) ((s.content src).frame src)) } } := by
  unfold State.startNotice
  rw [h]

/-- Settles O13, by the source whose notice starts. -/
theorem noticesGoOutInTheirOrder : Obligations.NoticesGoOutInTheirOrder := by
  refine ⟨?_, ?_⟩
  · intro s before after src hsending hready hreply hall hbefore hpending
    have hnext : s.nextNotice = some src := by
      unfold State.nextNotice Link.mayStart
      rw [hsending, hready, hreply]
      exact Notices.first_eq hall hbefore hpending
    have hnotices : (s.snapshotTaken src).notices = s.notices := by cases src <;> rfl
    refine ⟨s.startNotice, rfl, ?_, ?_, fun x hx => ?_, ?_, ?_, ?_, ?_⟩
    all_goals rw [State.startNotice_eq hnext]
    · cases src <;> rfl
    · rw [hnotices]
      exact Notices.get_set_same _ _ _
    · rw [hnotices]
      exact Notices.get_set_other _ _ hx
    · cases src <;> rfl
    · cases src <;> rfl
    · cases src <;> rfl
    · refine ⟨by cases src <;> rfl, fun b hb => ?_⟩
      cases src <;> cases b <;> first | rfl | exact absurd (by decide) hb
  · intro s hnot
    have hnone : s.nextNotice = none := by
      unfold State.nextNotice
      split
      · next hstart =>
        simp only [Link.mayStart, Bool.and_eq_true, Option.isNone_iff_eq_none] at hstart
        obtain ⟨⟨hsending, hready⟩, hreply⟩ := hstart
        simp only [hsending, hready, hreply, ne_eq, not_true_eq_false, false_or, Bool.true_eq_false] at hnot
        exact Notices.first_eq_none hnot
      · rfl
    refine congrArg Host.Outcome.next ?_
    unfold State.startNotice
    rw [hnone]

end Sys2Proof.Machine
end

section
/-! PROOFS. What no operation of the pit does: none tells INTERLOCK or LINK of anything. What the test of the start
condition leaves of a station. The effects of silence and the debounced inputs. -/

namespace Sys2Proof.Machine

/-! ### The sources INTERLOCK and LINK stay as they are -/

/-- From `s` to `t` the sources INTERLOCK and LINK have taken no event. -/
def State.quiet (s t : State) : Prop :=
  t.notices.get .interlock = s.notices.get .interlock ∧ t.notices.get .link = s.notices.get .link

section
variable {s t u : State}

theorem State.quiet.refl (s : State) : s.quiet s := ⟨rfl, rfl⟩

theorem State.quiet.trans (h : s.quiet t) (k : t.quiet u) : s.quiet u := ⟨k.1.trans h.1, k.2.trans h.2⟩

theorem State.quiet.ite {p : Prop} [Decidable p] (h : s.quiet t) (k : s.quiet u) : s.quiet (if p then t else u) := by
  split
  · exact h
  · exact k

theorem State.quiet_of_only {m : List Block} (h : Only m s t) (hm : Block.notices ∉ m) : s.quiet t := by
  have hnotices : t.notices = s.notices := h.2 .notices hm
  unfold State.quiet
  rw [hnotices]
  exact ⟨rfl, rfl⟩

theorem State.quiet_notify (s : State) {src : Source} (h : src ≠ .interlock ∧ src ≠ .link) : s.quiet (s.notify src) :=
  ⟨Notices.get_set_other _ _ h.1.symm, Notices.get_set_other _ _ h.2.symm⟩

theorem State.putLift_quiet (s : State) (l : Lift) (v : Level) : s.quiet (s.putLift l v) := by
  unfold State.putLift
  dsimp only
  split
  · exact .refl s
  · exact s.quiet_notify (src := .lift) ⟨nofun, nofun⟩

theorem State.putCut_quiet (s : State) (st : Station) (x : CutStation) : s.quiet (s.putCut st x) := by
  unfold State.putCut
  dsimp only
  split
  · exact .refl s
  · exact s.quiet_notify (src := .station st) (by cases st <;> exact ⟨nofun, nofun⟩)

theorem State.enterHolding_quiet (s : State) (c : CutCause) (st : Station) : s.quiet (s.enterHolding c st) := by
  unfold State.enterHolding
  dsimp only
  split
  · exact (s.putCut_quiet st _).trans (quiet_of_only (State.driveTool_only _ st _) (by decide))
  · exact s.putCut_quiet st _

theorem State.giveCause_quiet (s : State) (c : CutCause) (st : Station) : s.quiet (s.giveCause c st) := by
  unfold State.giveCause
  split
  · exact s.enterHolding_quiet c st
  · exact s.enterHolding_quiet c st
  · exact .ite (.refl s) (s.putCut_quiet st _)
  · exact .ite (.refl s) (s.putCut_quiet st _)
  · exact .refl s

theorem State.quiet_notify_capture (s : State) (st : Station) : s.quiet (s.notify (.capture st)) :=
  s.quiet_notify (by cases st <;> exact ⟨nofun, nofun⟩)

theorem State.pauseSweep_quiet (s : State) (c : PauseCause) (st : Station) : s.quiet (s.pauseSweep c st) := by
  unfold State.pauseSweep
  refine .ite (quiet.trans (quiet.trans (quiet_of_only (s.stopSweepAxes_only st) (by decide)) ?_)
    (quiet_notify_capture _ st))
    (.refl s)
  exact quiet_of_only (State.putSweep_only _ st _) (by decide)

theorem State.abandonSweep_quiet (s : State) (st : Station) : s.quiet (s.abandonSweep st) := by
  unfold State.abandonSweep
  refine .ite (quiet.trans (quiet.trans (quiet_of_only (s.stopSweepAxes_only st) (by decide)) ?_)
    (quiet_notify_capture _ st))
    (.refl s)
  exact quiet_of_only (State.putSweep_only _ st _) (by decide)

theorem State.removePlan_quiet (s : State) (st : Station) : s.quiet (s.removePlan st) := by
  unfold State.removePlan
  exact .ite (s.quiet_notify (src := .station st) (by cases st <;> exact ⟨nofun, nofun⟩)) (.refl s)

theorem State.treatCut_quiet (s : State) (st : Station) : s.quiet (s.treatCut st) :=
  (quiet_of_only (s.rewriteBound_only st _) (by decide)).trans (State.removePlan_quiet _ st)

theorem State.completeAbort_quiet (s : State) (st : Station) : s.quiet (s.completeAbort st) := by
  unfold State.completeAbort
  exact quiet.trans (quiet.ite (s.treatCut_quiet st) (.refl s)) (State.putCut_quiet _ st _)

theorem State.completeCut_quiet (s : State) (st : Station) : s.quiet (s.completeCut st) := by
  unfold State.completeCut
  exact ((quiet_of_only (s.rewriteBound_only st _) (by decide)).trans (State.removePlan_quiet _ st)).trans
    (State.putCut_quiet _ st _)

theorem State.testHome_quiet (s : State) (st : Station) : s.quiet (s.testHome st) := by
  unfold State.testHome
  split
  · split
    · exact s.completeCut_quiet st
    · exact s.completeAbort_quiet st
    · exact .refl s
  · exact .refl s

theorem State.enterAborting_quiet (s : State) (k : AbortKind) (st : Station) : s.quiet (s.enterAborting k st) := by
  have hput := s.putCut_quiet st { s.cut st with state := .aborting, abortKind := k, holds := CutCauses.empty }
  exact (hput.trans (quiet.ite (quiet_of_only (State.sendHome_only _ st) (by decide))
    (quiet_of_only (State.driveTool_only _ st _) (by decide)))).trans (State.testHome_quiet _ st)

theorem State.stopStation_quiet (s : State) (st : Station) : s.quiet (s.stopStation st) := by
  have htreat : s.quiet
      (if ¬((s.cut st).state = .aborting ∧ (s.cut st).abortKind = .recovery) then s.treatCut st else s) :=
    .ite (s.treatCut_quiet st) (.refl s)
  unfold State.stopStation
  dsimp only
  exact .ite (.refl s) ((htreat.trans (State.putCut_quiet _ st _)).trans
    (quiet_of_only (m := [.axes]) ((State.driveTool_only _ st _).trans (State.driveRoller_only _ st _)) (by decide)))

theorem State.leaveHeld_quiet (s : State) (st : Station) : s.quiet (s.leaveHeld st) := by
  have hput := s.putCut_quiet st { s.cut st with state := .approach }
  unfold State.leaveHeld
  refine .ite (hput.trans ?_) (.refl s)
  exact quiet_of_only ((State.driveRoller_only _ st _).trans (State.driveApproach_only _ st)) (by decide)

theorem State.removeLevel_quiet (s : State) (st : Station) : s.quiet (s.removeLevel st) :=
  (s.putCut_quiet st _).trans (State.leaveHeld_quiet _ st)

theorem State.completeRelevel_quiet (s : State) (moved : Bool) : s.quiet (s.completeRelevel moved) := by
  have hurgent (u : State) : u.quiet u.endUrgent :=
    ((u.putLift_quiet _ _).trans (State.removeLevel_quiet _ .a)).trans (State.removeLevel_quiet _ .b)
  unfold State.completeRelevel
  exact .ite ((s.putLift_quiet _ _).trans (hurgent _)) (s.putLift_quiet _ _)

theorem State.startRelevels_quiet (n : Nat) (s : State) : s.quiet (s.startRelevels n) := by
  induction n generalizing s with
  | zero => exact .refl s
  | succ n ih =>
    unfold State.startRelevels
    split
    · exact .refl s
    · exact .ite (.ite (s.putLift_quiet _ _) ((s.completeRelevel_quiet false).trans (ih _))) (.refl s)

theorem State.testStart_quiet (s : State) : s.quiet s.testStart := State.startRelevels_quiet _ s

theorem State.testUrgent_quiet (s : State) : s.quiet s.testUrgent := by
  unfold State.testUrgent
  exact .ite (((((s.putLift_quiet _ _).trans (State.giveCause_quiet _ _ .a)).trans (State.giveCause_quiet _ _ .b)).trans
    (State.pauseSweep_quiet _ _ .a)).trans (State.pauseSweep_quiet _ _ .b)) (.refl s)

theorem State.enterRaised_quiet (s : State) : s.quiet s.enterRaised :=
  ((s.putLift_quiet _ _).trans (State.testUrgent_quiet _)).trans (State.testStart_quiet _)

theorem State.departRaised_quiet (s : State) : s.quiet s.departRaised := by
  have hstale (u : State) : u.quiet u.staleMeasurements.markDeparted :=
    quiet.trans (quiet_of_only u.staleMeasurements_only (by decide))
      (quiet_of_only (State.markDeparted_only _) (by decide))
  unfold State.departRaised
  exact (((((s.putLift_quiet _ _).trans (State.giveCause_quiet _ _ .a)).trans (State.giveCause_quiet _ _ .b)).trans
    (hstale _)).trans (State.pauseSweep_quiet _ _ .a)).trans (State.pauseSweep_quiet _ _ .b)

theorem State.putLift_departing_quiet (s : State) (l : Lift) (v : Level) :
    s.quiet (if s.lift.state = .raised then (s.putLift l v).departRaised else s.putLift l v) :=
  .ite ((s.putLift_quiet _ _).trans (State.departRaised_quiet _)) (s.putLift_quiet _ _)

theorem State.enterLeg_quiet (s : State) (m : Move) : s.quiet (s.enterLeg m) := by
  have harrive (u : State) : u.quiet u.arriveAtRail := by
    unfold State.arriveAtRail
    exact .ite (u.putLift_quiet _ _) (.refl u)
  unfold State.enterLeg
  split
  · exact .refl s
  · exact (s.putLift_departing_quiet _ _).trans (harrive _)

theorem State.testBridges_quiet (s : State) : s.quiet s.testBridges := by
  unfold State.testBridges
  split
  · exact .ite (s.enterLeg_quiet _) (.refl s)
  · exact .ite (s.enterLeg_quiet _) (.refl s)
  · exact .refl s

theorem State.giveLiftCause_quiet (s : State) (c : LiftCause) : s.quiet (s.giveLiftCause c) := by
  have hadd : s.quiet (s.addLiftCause c) := s.putLift_quiet _ _
  have hcancel : s.quiet s.cancelUnpark := s.putLift_quiet _ _
  have hhold : s.quiet (s.enterHold c) := s.putLift_departing_quiet _ _
  unfold State.giveLiftCause
  split
  all_goals first
    | exact .refl s
    | exact hadd
    | exact hcancel
    | exact hhold
    | exact .ite hadd (.refl s)
    | exact .ite hhold (.refl s)

theorem State.testEngage_quiet (s : State) : s.quiet s.testEngage := .ite (s.putLift_quiet _ _) (.refl s)

theorem State.testRelease_quiet (s : State) : s.quiet s.testRelease :=
  .ite ((s.putLift_quiet _ _).trans (State.enterRaised_quiet _)) (.refl s)

theorem State.testPressure_quiet (s : State) : s.quiet s.testPressure :=
  .ite ((s.putLift_quiet _ _).trans (State.testRelease_quiet _)) (.refl s)

theorem State.handOut_quiet (s : State) (i : Input) (rise : Bool) : s.quiet (s.handOut i rise) := by
  have hestop : s.quiet s.estopFalls :=
    (((((s.giveLiftCause_quiet _).trans (State.stopStation_quiet _ .a)).trans (State.stopStation_quiet _ .b)).trans
      (State.abandonSweep_quiet _ .a)).trans (State.abandonSweep_quiet _ .b)).trans (State.testStart_quiet _)
  have hguard : s.quiet s.guardFalls :=
    ((((s.giveCause_quiet _ .a).trans (State.giveCause_quiet _ _ .b)).trans (State.pauseSweep_quiet _ _ .a)).trans
      (State.pauseSweep_quiet _ _ .b)).trans (State.testStart_quiet _)
  have hholddown (st : Station) : s.quiet (s.holddownFalls st) := by
    have hleft := s.enterAborting_quiet .cut st
    unfold State.holddownFalls
    split
    · exact hleft.trans (State.testStart_quiet _)
    · exact hleft.trans (State.testStart_quiet _)
    · exact hleft.trans (State.testStart_quiet _)
    · exact hleft
    · exact .refl s
  have hlocks : s.quiet s.locksFall := by
    have hfault : s.quiet (s.enterFault .lockLost) := s.putLift_departing_quiet _ _
    unfold State.locksFall
    split
    · exact hfault
    · exact .ite hfault s.testRelease_quiet
    · exact .refl s
  unfold State.handOut
  split
  · exact hestop
  · exact s.giveLiftCause_quiet _
  · exact s.testPressure_quiet
  · exact hguard
  · exact s.testBridges_quiet
  · exact s.testBridges_quiet
  · exact hholddown .a
  · exact hholddown .b
  · exact s.giveLiftCause_quiet _
  · exact s.giveLiftCause_quiet _
  · exact s.testHome_quiet .a
  · exact s.testHome_quiet .b
  · exact s.giveLiftCause_quiet _
  · exact s.giveLiftCause_quiet _
  · exact hlocks
  · exact s.testEngage_quiet
  all_goals exact .refl s

end

end Sys2Proof.Machine
end

section
/-! PROOFS. Chapter 1: the record commands, the header scan, the completions of the record requests, and the append of
a history entry. -/

namespace Sys2Proof.Machine

/-! ### The append of an entry (R3) -/

/-- With an entry in the history, the newest is changed and the others stand. -/
theorem Record.mapNewest_of_snoc {r : Record} {old : List Entry} {x : Entry} (h : r.entries = old ++ [x])
    (f : Entry → Entry) : r.mapNewest f = { r with entries := old ++ [f x] } := by
  simp [Record.mapNewest, h]

theorem Record.mapNewest_of_nil {r : Record} (h : r.entries = []) (f : Entry → Entry) : r.mapNewest f = r := by
  simp [Record.mapNewest, h]

/-- The record with its newest entry changed differs in its entries alone. -/
theorem Record.mapNewest_eq (r : Record) (f : Entry → Entry) :
    r.mapNewest f = { r with entries := (r.mapNewest f).entries } := by
  unfold Record.mapNewest
  split <;> rfl

/-- An entry that is interrupted keeps its sequence number. -/
theorem Entry.interrupt_sequence (x : Entry) : x.interrupt.sequence = x.sequence := by
  unfold Entry.interrupt
  split
  · split <;> rfl
  · rfl

theorem Record.interrupted_sequences (r : Record) :
    (r.mapNewest Entry.interrupt).entries.map (fun x => x.sequence) = r.entries.map fun x => x.sequence := by
  rcases List.eq_nil_or_concat r.entries with hnil | ⟨old, x, hsnoc⟩
  · rw [Record.mapNewest_of_nil hnil]
  · rw [List.concat_eq_append] at hsnoc
    rw [Record.mapNewest_of_snoc hsnoc, hsnoc]
    simp [Entry.interrupt_sequence]

theorem Record.append_of_exhausted {r : Record} (h : r.nextSequence = none) (e : Entry) : r.append e = none := by
  simp [Record.append, h]

theorem Record.append_of_next {r : Record} {n : Nat} (h : r.nextSequence = some n) (e : Entry) :
    r.append e = some { r with
      nextSequence := if n = 65535 then none else some (n + 1)
      entries :=
        (if 16 ≤ (r.mapNewest Entry.interrupt).entries.length then (r.mapNewest Entry.interrupt).entries.drop 1
          else (r.mapNewest Entry.interrupt).entries) ++ [{ e with sequence := n }] } := by
  rw [Record.append, h]
  dsimp only
  rw [Record.mapNewest_eq r]
  rfl

/-- A list cut to fifteen takes one more within sixteen. -/
theorem length_cut_append_le {α : Type} (l : List α) (x : α) (h : l.length ≤ 16) :
    ((if 16 ≤ l.length then l.drop 1 else l) ++ [x]).length ≤ 16 := by
  split <;> simp only [List.length_append, List.length_drop, List.length_singleton] <;> omega

/-- Numbers that rise go on rising when a greater one is appended, with the oldest dropped or kept. -/
theorem rising_append {l : List Entry} {e : Entry} (hl : (l.map fun x => x.sequence).Pairwise (· < ·))
    (he : ∀ x ∈ l, x.sequence < e.sequence) :
    (((if 16 ≤ l.length then l.drop 1 else l) ++ [e]).map fun x => x.sequence).Pairwise (· < ·) := by
  have hsub : (if 16 ≤ l.length then l.drop 1 else l).Sublist l := by
    split
    · exact List.drop_sublist 1 l
    · exact List.Sublist.refl l
  rw [List.map_append, List.pairwise_append]
  refine ⟨hl.sublist (hsub.map _), List.pairwise_singleton _ _, ?_⟩
  intro a ha b hb
  obtain ⟨x, hx, rfl⟩ := List.mem_map.1 ha
  obtain rfl : b = e.sequence := by simpa using hb
  exact he x (hsub.subset hx)

/-- Settles O23, by the shape of the history: empty, or with a newest entry. -/
theorem appendFollowsItsFiveSteps : Obligations.AppendFollowsItsFiveSteps := by
  intro e r
  refine ⟨fun h => Record.append_of_exhausted h e, fun n h =>
    ⟨_, (r.mapNewest Entry.interrupt).entries, Record.append_of_next h e, ?empty, ?newest, rfl, ?bounded, ?rising⟩⟩
  case empty =>
    intro hnil
    rw [Record.mapNewest_of_nil hnil, hnil]
  case newest =>
    intro old x hsnoc
    exact ⟨x.interrupt, by rw [Record.mapNewest_of_snoc hsnoc], rfl⟩
  case bounded =>
    intro hle
    refine length_cut_append_le _ _ ?_
    simpa using (congrArg List.length r.interrupted_sequences).le.trans (by simpa using hle)
  case rising =>
    intro hpair hlt
    refine rising_append (by rw [r.interrupted_sequences]; exact hpair) fun x hx => ?_
    have hmem : x.sequence ∈ r.entries.map fun x => x.sequence := by
      rw [← r.interrupted_sequences]
      exact List.mem_map_of_mem hx
    obtain ⟨y, hy, hyx⟩ := List.mem_map.1 hmem
    exact hyx ▸ hlt y hy

/-! ### The parameters of the record commands, clamped (R12, R13) -/

theorem validSerial_of_range {n : Nat} (h1 : 1 ≤ n) (h2 : n ≤ 999999999) : validSerial n = true := by
  rw [← Bool.not_eq_false, validSerial_eq_false_iff]
  omega

theorem clampProfile_num (n : Nat) : (clampProfile n).num = min 3 n := by
  unfold clampProfile
  rw [clampNat_zero]
  obtain h | h | h | h : min 3 n = 0 ∨ min 3 n = 1 ∨ min 3 n = 2 ∨ min 3 n = 3 := by omega
  all_goals rw [h]; rfl

theorem Ix.num_injective {i j : Ix} (h : i.num = j.num) : i = j := by
  cases i <;> cases j <;> first | rfl | exact absurd h (by decide)

theorem clampRadius_eq (x : Int) : clampRadius x = max 300000 (min 700000 x) := clampInt_eq_max_min (by decide) x

/-- The record of an ENROL is the one whose fields stand as R12 gives them. -/
theorem EnrolParams.record_unique {x : EnrolParams} {w : Record} (hunit : w.unit = max 1 (min 65535 x.unit))
    (hbogie : w.bogie = max 1 (min 32 x.bogie)) (haxle : w.axle = if x.axle = 1 then .trailing else .leading)
    (hprofile : w.profileId.num = min 3 x.profileId) (hcondemning : w.condemning = max 300000 (min 700000 x.condemning))
    (hstate : w.state = .inService) (hlast : w.lastRadius = ⟨none, none⟩) (hnext : w.nextSequence = some 1)
    (hentries : w.entries = []) : w = x.record := by
  have hid : w.profileId = clampProfile x.profileId := Ix.num_injective (hprofile.trans (clampProfile_num _).symm)
  cases w
  simp only at hunit hbogie haxle hid hcondemning hstate hlast hnext hentries
  simp only [EnrolParams.record, hunit, hbogie, haxle, hid, hcondemning, hstate, hlast, hnext, hentries,
    clampRadius_eq, clampNat_eq_max_min (show 1 ≤ 65535 by decide), clampNat_eq_max_min (show 1 ≤ 32 by decide), axleOf]

/-- The reply to an ENROL is OK when no field was clamped. -/
theorem EnrolParams.code_eq (x : EnrolParams) :
    adjustedIf x.changed =
      if x.record.unit = x.unit ∧ x.record.bogie = x.bogie ∧ x.axle ≤ 1 ∧ x.record.profileId.num = x.profileId ∧
        x.record.condemning = x.condemning then .ok else .adjusted := by
  refine adjustedIf_eq ?_
  rw [EnrolParams.changed, decide_eq_false_iff_not]
  simp only [not_or, not_lt, ne_eq, not_not]

/-! ### A request of a record command joins the FIFO (R7, R8, R16) -/

/-- A request that is no WRITE changes no slot as it joins: at the head of the FIFO no WRITE stands before it. -/
theorem State.enqueue_eq_of_not_write {s : State} (hserved : s.store.fifoServed) {r : Request}
    (hr : ∀ m i, r ≠ .write m i) : s.enqueue r = { s with store := (s.enqueue r).store } := by
  cases hat : s.store.servesAtOnce with
  | false => rw [State.enqueue_of_not_servesAtOnce _ hat]
  | true =>
    have hwaiting := hserved.waiting_eq_nil hat
    simp only [Store.servesAtOnce, Bool.and_eq_true, Option.isNone_iff_eq_none] at hat
    cases r with
    | write m i => exact absurd rfl (hr m i)
    | _ => simp [State.enqueue, State.serve, hat, hwaiting]

/-- What the store comes to when a request joins its FIFO and nothing else happens to it, the read window then holding
the records of `w`. -/
def Store.joined (st u : Store) (r : Request) (w : Nat → Option Record) : Prop :=
  u.fifo = st.fifo ++ [r] ∧ u.places = st.places ∧ u.table = st.table ∧ u.results = st.results ∧
    u.resultsLost = st.resultsLost ∧ u.scanned = st.scanned ∧ u.fifoServed ∧
    (∀ x, st.service = some x → u.service = some x) ∧ ∀ m, u.window.record m = w m

theorem State.enqueue_joined (s : State) (r : Request) : s.store.joined (s.enqueue r).store r s.store.window.record := by
  obtain ⟨hplaces, htable, hscanned, hresults, hlost⟩ := State.enqueue_sameRecords r (s := s)
  exact ⟨s.enqueue_fifo r, hplaces, htable, hresults, hlost, hscanned, State.enqueue_fifoServed r,
    fun _ hx => State.enqueue_service r hx, fun m => by rw [State.enqueue_window]⟩

theorem State.enqueueChange_joined (s : State) (n : Nat) (r : Request) :
    s.store.joined (s.enqueueChange n r).store r fun m => if m = n then none else s.store.window.record m := by
  obtain ⟨hplaces, htable, hscanned, hresults, hlost⟩ :=
    (s.spoilWindow_sameRecords n).trans (State.enqueue_sameRecords r)
  refine ⟨?_, hplaces, htable, hresults, hlost, hscanned, State.enqueue_fifoServed r, fun x hx => ?_, fun m => ?_⟩
  · rw [State.enqueueChange, State.enqueue_fifo, State.spoilWindow_fifo]
  · exact State.enqueue_service r ((s.spoilWindow_service n).trans hx)
  · rw [State.enqueueChange, State.enqueue_window, State.spoilWindow_record]

theorem State.spoilWindow_eq (s : State) (n : Nat) :
    s.spoilWindow n = { s with store := (s.spoilWindow n).store } := by
  unfold State.spoilWindow
  split <;> rfl

theorem State.enqueueChange_eq {s : State} (hserved : s.store.fifoServed) (n : Nat) {r : Request}
    (hr : ∀ m i, r ≠ .write m i) : s.enqueueChange n r = { s with store := (s.enqueueChange n r).store } := by
  rw [State.enqueueChange, State.enqueue_eq_of_not_write (State.spoilWindow_fifoServed hserved n) hr,
    State.spoilWindow_eq]

/-- A command whose owner answers with a changed store leaves the store and the link alone changed. -/
theorem exec_of_store {c : Instr} {s s1 : State} {kind tag : Byte} {code : Code} {u : Store} {a : Answered}
    (hexec : exec c s = .next (a.sent kind tag)) (ha : a = ⟨{ s1 with store := u }, code, .none⟩) :
    ∃ t, exec c s = .next t ∧ s1.answers t kind tag code .none ∧ t.store = u ∧ Only [.store, .link] s1 t :=
  ⟨State.replied { s1 with store := u } kind tag code .none, by rw [hexec, ha]; rfl, rfl, rfl, rfl, fun b hb => by cases b <;> first | rfl | exact absurd (by decide) hb⟩

/-! ### The record commands with their checks passed -/

section
variable {tag : Byte} {s : State}

theorem Store.room_one_of_le {st : Store} (h : st.fifo.length + 1 ≤ 6) : st.room 1 = true := (st.room_iff 1).2 h

theorem Store.room_one_of_full {st : Store} (h : 6 < st.fifo.length + 1) : st.room 1 = false := by
  rw [← Bool.not_eq_true, st.room_iff 1]
  omega

theorem State.enrol_of_place {x : EnrolParams} {k : Nat} (hv : validSerial x.serial = true)
    (hs : s.store.scanned = true)
    (hk : s.store.enrolled x.serial = false ∧ s.store.freePlace = some k ∨
      s.store.enrolled x.serial = true ∧ s.store.placeOf x.serial = some k ∧ s.store.marked x.serial = true ∧
        s.store.enrolQueued x.serial = false) :
    s.enrol tag x =
      if s.store.room 1 then
        ⟨s.enqueueChange x.serial (.enrol x.serial x.record k tag), adjustedIf x.changed, .none⟩
      else s.refuse .busy := by
  obtain ⟨he, hf⟩ | ⟨he, hp, hm, hq⟩ := hk
  · simp [State.enrol, hv, hs, he, Store.enrolPlace, hf]
  · simp [State.enrol, hv, hs, he, Store.enrolPlace, hp, hm, hq]

theorem State.amend_of_store {x : AmendParams} (hv : validSerial x.serial = true) (hs : s.store.scanned = true)
    (hh : s.holder x.serial = none) (he : s.store.enrolled x.serial = true)
    (hm : s.store.marked x.serial = false ∨ s.store.enrolQueued x.serial = true) :
    s.amend tag x =
      if s.store.room 1 then
        ⟨s.enqueueChange x.serial (.amend x.serial x.changes tag), adjustedIf x.changed, .none⟩
      else s.refuse .busy := by
  obtain hm | hq := hm
  · simp [State.amend, hv, hs, hh, he, hm]
  · simp [State.amend, hv, hs, hh, he, hq]

theorem State.retire_of_store {n : Nat} (hv : validSerial n = true) (hs : s.store.scanned = true)
    (hh : s.holder n = none) (he : s.store.enrolled n = true) :
    s.retire tag n =
      if s.store.room 1 then State.accept (s.enqueueChange n (.retire n tag)) else s.refuse .busy := by
  simp [State.retire, hv, hs, hh, he]

theorem State.readRecord_of_store {n : Nat} {part : RecordPart} (hv : validSerial n = true)
    (hs : s.store.scanned = true) (hh : s.holder n = none) (hw : s.store.window.record n = none)
    (he : s.store.enrolled n = true) (hm : s.store.marked n = false ∨ s.store.enrolQueued n = true) :
    s.readRecord tag (n, part) =
      if s.store.room 1 then ⟨s.enqueue (.read n tag), .deferred, .none⟩ else s.refuse .busy := by
  obtain hm | hq := hm
  · simp [State.readRecord, hv, hs, hh, hw, he, hm]
  · simp [State.readRecord, hv, hs, hh, hw, he, hq]

end

/-! ### The record commands as the host sends them -/

section
variable {tag : Byte} {payload : List Byte} {s s1 : State}

theorem exec_enrol_handed {x : EnrolParams} (hp : enrolParams payload = .ok x)
    (hs : s.handed 0x20 tag payload = some s1) :
    exec (.enrol tag payload) s = .next ((s1.enrol tag x).sent 0x20 tag) := State.plainCommand_next hp hs

theorem exec_amend_handed {x : AmendParams} (hp : amendParams payload = .ok x)
    (hs : s.handed 0x21 tag payload = some s1) :
    exec (.amend tag payload) s = .next ((s1.amend tag x).sent 0x21 tag) := State.plainCommand_next hp hs

theorem exec_retire_handed {n : Nat} (hp : serialParam payload = .ok n)
    (hs : s.handed 0x22 tag payload = some s1) :
    exec (.retire tag payload) s = .next ((s1.retire tag n).sent 0x22 tag) := State.plainCommand_next hp hs

theorem exec_readRecord_handed {x : Nat × RecordPart} (hp : readRecordParams payload = .ok x)
    (hs : s.handed 0x23 tag payload = some s1) :
    exec (.readRecord tag payload) s = .next ((s1.readRecord tag x).sent 0x23 tag) := State.plainCommand_next hp hs

end

/-- What a record command comes to whose request joins the FIFO when there is room. -/
def State.joinsFifo (s1 s : State) (c : Instr) (kind tag : Byte) (code : Code) (r : Request)
    (w : Nat → Option Record) : Prop :=
  (s1.store.fifo.length + 1 ≤ 6 → ∃ t, exec c s = .next t ∧ s1.answers t kind tag code .none ∧
    s1.store.joined t.store r w ∧ Only [.store, .link] s1 t) ∧
  (6 < s1.store.fifo.length + 1 → exec c s = .next (s1.replied kind tag .busy .none))

/-- An owner that enters its request when there is room, and is BUSY otherwise. -/
theorem State.joinsFifo_of {s1 s u : State} {c : Instr} {kind tag : Byte} {code : Code} {r : Request}
    {w : Nat → Option Record} {a : Answered} (hexec : exec c s = .next (a.sent kind tag))
    (ha : a = if s1.store.room 1 then ⟨u, code, .none⟩ else s1.refuse .busy) (hu : u = { s1 with store := u.store })
    (hjoined : s1.store.joined u.store r w) : s1.joinsFifo s c kind tag code r w := by
  constructor
  · intro hroom
    rw [Store.room_one_of_le hroom, if_pos rfl, hu] at ha
    obtain ⟨t, ht, hanswers, hstore, honly⟩ := exec_of_store hexec ha
    exact ⟨t, ht, hanswers, hstore ▸ hjoined, honly⟩
  · intro hfull
    rw [Store.room_one_of_full hfull, if_neg Bool.false_ne_true] at ha
    exact exec_of_refuse hexec ha

/-- A record command of R18's first part, told by its instruction, joins with the window as the obligation gives
it. -/
theorem State.joinsFifo.told {s1 s : State} {c : Instr} {kind tag : Byte} {code : Code} {r : Request}
    {w : Nat → Option Record} (h : s1.joinsFifo s c kind tag code r w) :
    (s1.store.fifo.length + 1 ≤ 6 → ∃ t, exec c s = .next t ∧ s1.answers t kind tag code .none ∧
      t.store.fifo = s1.store.fifo ++ [r] ∧ t.store.places = s1.store.places ∧ t.store.table = s1.store.table ∧
      t.store.results = s1.store.results ∧ t.store.resultsLost = s1.store.resultsLost ∧
      t.store.scanned = s1.store.scanned ∧ t.store.fifoServed ∧
      (∀ r, s1.store.service = some r → t.store.service = some r) ∧
      (∀ m, t.store.window.record m = w m) ∧ Only [.store, .link] s1 t) ∧
    (6 < s1.store.fifo.length + 1 → exec c s = .next (s1.replied kind tag .busy .none)) := by
  refine ⟨fun hroom => ?_, h.2⟩
  obtain ⟨t, hexec, hanswers, ⟨hfifo, hplaces, htable, hresults, hlost, hscanned, hserved, hservice, hwindow⟩,
    honly⟩ := h.1 hroom
  exact ⟨t, hexec, hanswers, hfifo, hplaces, htable, hresults, hlost, hscanned, hserved, hservice, hwindow, honly⟩

/-! ### The record commands refused (R5, R12 to R15) -/

section
variable {tag : Byte} {s : State} {n : Nat} {i : Ix}

theorem State.enrol_of_duplicate {x : EnrolParams} (hv : validSerial x.serial = true) (hs : s.store.scanned = true)
    (he : s.store.enrolled x.serial = true)
    (hm : ¬(s.store.marked x.serial = true ∧ s.store.enrolQueued x.serial = false)) :
    s.enrol tag x = s.refuse .duplicate := by
  have hdup : (!s.store.marked x.serial || s.store.enrolQueued x.serial) = true := by
    cases hmark : s.store.marked x.serial <;> cases hq : s.store.enrolQueued x.serial <;> simp_all
  simp [State.enrol, hv, hs, he, hdup]

theorem State.enrol_of_full {x : EnrolParams} (hv : validSerial x.serial = true) (hs : s.store.scanned = true)
    (he : s.store.enrolled x.serial = false) (hf : s.store.freePlace = none) :
    s.enrol tag x = s.refuse .storeFull := by
  simp [State.enrol, hv, hs, he, Store.enrolPlace, hf]

theorem State.amend_of_in_transit {x : AmendParams} (hv : validSerial x.serial = true) (hs : s.store.scanned = true)
    (hh : s.holder x.serial = some i) (ho : (s.slot i).state ≠ .openSlot) :
    s.amend tag x = s.refuse .contextBusy := by
  simp [State.amend, hv, hs, hh, ho]

theorem State.amend_of_bound {x : AmendParams} (hv : validSerial x.serial = true) (hs : s.store.scanned = true)
    (hh : s.holder x.serial = some i) (ho : (s.slot i).state = .openSlot) (hb : (s.slot i).binding ≠ none) :
    s.amend tag x = s.refuse .bound := by
  simp [State.amend, hv, hs, hh, ho, Option.ne_none_iff_isSome.1 hb]

theorem State.amend_of_unknown {x : AmendParams} (hv : validSerial x.serial = true) (hs : s.store.scanned = true)
    (hh : s.holder x.serial = none) (he : s.store.enrolled x.serial = false) :
    s.amend tag x = s.refuse .noRecord := by
  simp [State.amend, hv, hs, hh, he]

theorem State.amend_of_spoiled {x : AmendParams} (hv : validSerial x.serial = true) (hs : s.store.scanned = true)
    (hh : s.holder x.serial = none) (he : s.store.enrolled x.serial = true)
    (hm : s.store.marked x.serial = true) (hq : s.store.enrolQueued x.serial = false) :
    s.amend tag x = s.refuse .recordDamaged := by
  simp [State.amend, hv, hs, hh, he, hm, hq]

theorem State.retire_of_open (hv : validSerial n = true) (hs : s.store.scanned = true) (hh : s.holder n = some i) :
    s.retire tag n = s.refuse .recordOpen := by
  simp [State.retire, hv, hs, hh]

theorem State.retire_of_unknown (hv : validSerial n = true) (hs : s.store.scanned = true) (hh : s.holder n = none)
    (he : s.store.enrolled n = false) : s.retire tag n = s.refuse .noRecord := by
  simp [State.retire, hv, hs, hh, he]

theorem State.readRecord_of_in_transit {part : RecordPart} (hv : validSerial n = true)
    (hs : s.store.scanned = true) (hh : s.holder n = some i) (ho : (s.slot i).state ≠ .openSlot) :
    s.readRecord tag (n, part) = s.refuse .contextBusy := by
  simp only [State.readRecord, hv, hs, hh, Bool.not_true, Bool.false_eq_true, if_false]
  split
  next hstate _ => exact absurd hstate ho
  next => rfl

theorem State.readRecord_of_unknown {part : RecordPart} (hv : validSerial n = true) (hs : s.store.scanned = true)
    (hh : s.holder n = none) (hw : s.store.window.record n = none) (he : s.store.enrolled n = false) :
    s.readRecord tag (n, part) = s.refuse .noRecord := by
  simp [State.readRecord, hv, hs, hh, hw, he]

theorem State.readRecord_of_spoiled {part : RecordPart} (hv : validSerial n = true) (hs : s.store.scanned = true)
    (hh : s.holder n = none) (hw : s.store.window.record n = none) (he : s.store.enrolled n = true)
    (hm : s.store.marked n = true) (hq : s.store.enrolQueued n = false) :
    s.readRecord tag (n, part) = s.refuse .recordDamaged := by
  simp [State.readRecord, hv, hs, hh, hw, he, hm, hq]

/-- Before the header scan is done each of the four is BUSY. -/
theorem State.record_commands_of_unscanned (h : s.store.scanned = false) :
    (∀ x : EnrolParams, validSerial x.serial = true → s.enrol tag x = s.refuse .busy) ∧
    (∀ x : AmendParams, validSerial x.serial = true → s.amend tag x = s.refuse .busy) ∧
    (∀ n, validSerial n = true → s.retire tag n = s.refuse .busy) ∧
    ∀ n part, validSerial n = true → s.readRecord tag (n, part) = s.refuse .busy := by
  refine ⟨fun x hv => ?_, fun x hv => ?_, fun n hv => ?_, fun n part hv => ?_⟩
  · simp [State.enrol, hv, h]
  · simp [State.amend, hv, h]
  · simp [State.retire, hv, h]
  · simp [State.readRecord, hv, h]

end

/-- Settles O18, each command by the lemmas of its owner: the request joins when its checks pass, and each check that
fails answers with its code. -/
theorem recordCommandsJoinTheFifo : Obligations.RecordCommandsJoinTheFifo := by
  refine ⟨?joins, ?refused⟩
  case joins =>
    intro tag payload s s1 n c kind r code h1 h2 hs hscan hserved hheld hcase
    have hv := validSerial_of_range h1 h2
    obtain ⟨rfl, rfl, x, w, k, hp, rfl, rfl, hunit, hbogie, haxle, hprofile, hcond, hstate, hlast, hnext, hentries,
      rfl, hk⟩ | ⟨rfl, rfl, x, hp, rfl, rfl, rfl, he, hm⟩ | ⟨rfl, rfl, hp, rfl, rfl, he⟩ |
      ⟨rfl, rfl, ⟨part, hp⟩, rfl, rfl, hw, he, hm⟩ := hcase
    · obtain rfl :=
        EnrolParams.record_unique hunit hbogie haxle hprofile hcond hstate hlast hnext hentries
      have hrest := State.joinsFifo_of (exec_enrol_handed hp hs) (State.enrol_of_place hv hscan hk)
        (State.enqueueChange_eq hserved _ (fun _ _ => nofun)) (s1.enqueueChange_joined _ _)
      rw [x.code_eq] at hrest
      simpa using hrest.told
    · have hh : s1.holder x.serial = none := hheld.resolve_left (fun h => nomatch h)
      have hrest := State.joinsFifo_of (exec_amend_handed hp hs) (State.amend_of_store hv hscan hh he hm)
        (State.enqueueChange_eq hserved _ (fun _ _ => nofun)) (s1.enqueueChange_joined _ _)
      simpa [adjustedIf] using hrest.told
    · have hh : s1.holder n = none := hheld.resolve_left (fun h => nomatch h)
      have hrest := State.joinsFifo_of (exec_retire_handed hp hs) (State.retire_of_store hv hscan hh he)
        (State.enqueueChange_eq hserved _ (fun _ _ => nofun)) (s1.enqueueChange_joined _ _)
      simpa using hrest.told
    · have hh : s1.holder n = none := hheld.resolve_left (fun h => nomatch h)
      have hrest := State.joinsFifo_of (exec_readRecord_handed hp hs)
        (State.readRecord_of_store hv hscan hh hw he hm)
        (State.enqueue_eq_of_not_write hserved (fun _ _ => nofun)) (s1.enqueue_joined _)
      simpa using hrest.told
  case refused =>
    intro tag payload s s1 n c kind h1 h2 hs hcase refused spoiled
    have hv := validSerial_of_range h1 h2
    obtain ⟨rfl, rfl, x, hp, rfl⟩ | ⟨rfl, rfl, x, hp, rfl⟩ | ⟨rfl, rfl, hp⟩ | ⟨rfl, rfl, part, hp⟩ := hcase
    · have by_owner {code : Code} (h : s1.enrol tag x = s1.refuse code) : refused code :=
        exec_of_refuse (exec_enrol_handed hp hs) h
      refine ⟨fun h => by_owner ((State.record_commands_of_unscanned h).1 x hv), fun hscan =>
        ⟨fun _ he hm => by_owner (State.enrol_of_duplicate hv hscan he hm),
          fun _ he hf => by_owner (State.enrol_of_full hv hscan he hf), fun i hh => ⟨nofun, ?_, nofun⟩,
          fun hh hw => ⟨fun h => absurd rfl h, ?_⟩⟩⟩
      · rintro (h | h) <;> cases h
      · rintro (h | h) <;> cases h
    · have by_owner {code : Code} (h : s1.amend tag x = s1.refuse code) : refused code :=
        exec_of_refuse (exec_amend_handed hp hs) h
      exact ⟨fun h => by_owner ((State.record_commands_of_unscanned h).2.1 x hv), fun hscan => ⟨nofun, nofun,
        fun i hh => ⟨nofun, fun _ ho => by_owner (State.amend_of_in_transit hv hscan hh ho),
          fun _ ho hb => by_owner (State.amend_of_bound hv hscan hh ho hb)⟩,
        fun hh _ => ⟨fun _ he => by_owner (State.amend_of_unknown hv hscan hh he),
          fun _ he hsp => by_owner (State.amend_of_spoiled hv hscan hh he hsp.1 hsp.2)⟩⟩⟩
    · have by_owner {code : Code} (h : s1.retire tag n = s1.refuse code) : refused code :=
        exec_of_refuse (exec_retire_handed hp hs) h
      refine ⟨fun h => by_owner ((State.record_commands_of_unscanned h).2.2.1 n hv), fun hscan => ⟨nofun, nofun,
        fun i hh => ⟨fun _ => by_owner (State.retire_of_open hv hscan hh), ?_, nofun⟩,
        fun hh _ => ⟨fun _ he => by_owner (State.retire_of_unknown hv hscan hh he), ?_⟩⟩⟩
      · rintro (h | h) <;> cases h
      · rintro (h | h) <;> cases h
    · have by_owner {code : Code} (h : s1.readRecord tag (n, part) = s1.refuse code) : refused code :=
        exec_of_refuse (exec_readRecord_handed hp hs) h
      exact ⟨fun h => by_owner ((State.record_commands_of_unscanned h).2.2.2 n part hv), fun hscan => ⟨nofun, nofun,
        fun i hh => ⟨nofun, fun _ ho => by_owner (State.readRecord_of_in_transit hv hscan hh ho), nofun⟩,
        fun hh hw => ⟨fun _ he => by_owner (State.readRecord_of_unknown hv hscan hh (hw rfl) he),
          fun _ he hsp => by_owner (State.readRecord_of_spoiled hv hscan hh (hw rfl) he hsp.1 hsp.2)⟩⟩⟩

end Sys2Proof.Machine
end

section
/-! PROOFS. Chapter 1: the records that are open or in the read window, the header scan, and the completions of the
record requests. -/

namespace Sys2Proof.Machine

/-! ### A record in a slot or in the read window (R13, R15) -/

/-- A last radius an AMEND sets: the absent value makes it absent, any other is clamped (R13). -/
theorem AmendParams.last_eq (v : Int) :
    (if v = absentLength then none else some (clampRadius v)) =
      if v = -2147483648 then none else some (max 300000 (min 700000 v)) := by
  rw [clampRadius_eq]
  rfl

/-- The working copy of a record an AMEND changes (R13). -/
theorem Record.amend_fields (x : AmendParams) (r : Record) :
    (r.amend x.changes).unit = (x.unit.map fun v => max 1 (min 65535 v)).getD r.unit ∧
    (r.amend x.changes).bogie = (x.bogie.map fun v => max 1 (min 32 v)).getD r.bogie ∧
    (r.amend x.changes).axle = (x.axle.map fun v => if v = 1 then Axle.trailing else .leading).getD r.axle ∧
    (r.amend x.changes).profileId.num = (x.profileId.map fun v => min 3 v).getD r.profileId.num ∧
    (r.amend x.changes).condemning = (x.condemning.map fun v => max 300000 (min 700000 v)).getD r.condemning := by
  refine ⟨?unit, ?bogie, rfl, ?profile, ?condemning⟩
  case unit =>
    cases hv : x.unit with
    | none => simp [Record.amend, AmendParams.changes, hv]
    | some v => simp [Record.amend, AmendParams.changes, hv, clampNat_eq_max_min (show 1 ≤ 65535 by decide)]
  case bogie =>
    cases hv : x.bogie with
    | none => simp [Record.amend, AmendParams.changes, hv]
    | some v => simp [Record.amend, AmendParams.changes, hv, clampNat_eq_max_min (show 1 ≤ 32 by decide)]
  case profile =>
    cases hv : x.profileId with
    | none => simp [Record.amend, AmendParams.changes, hv]
    | some v => simp [Record.amend, AmendParams.changes, hv, clampProfile_num]
  case condemning =>
    cases hv : x.condemning with
    | none => simp [Record.amend, AmendParams.changes, hv]
    | some v => simp [Record.amend, AmendParams.changes, hv, clampRadius_eq]

/-- A last radius of the working copy an AMEND changes (R13). -/
theorem AmendParams.last_getD {o : Option Int} {old : Option Int} :
    (o = none → (o.map fun v => if v = absentLength then none else some (clampRadius v)).getD old = old) ∧
    ∀ v, o = some v → (o.map fun v => if v = absentLength then none else some (clampRadius v)).getD old =
      if v = -2147483648 then none else some (max 300000 (min 700000 v)) :=
  ⟨fun h => by rw [h]; rfl, fun v h => by rw [h]; exact AmendParams.last_eq v⟩

section
variable {tag : Byte} {s : State} {n : Nat} {i : Ix} {r : Record}

theorem State.amend_of_open {x : AmendParams} (hv : validSerial x.serial = true) (hs : s.store.scanned = true)
    (hh : s.holder x.serial = some i) (ho : (s.slot i).state = .openSlot) (hb : (s.slot i).binding = none)
    (hr : (s.slot i).working = some r) :
    s.amend tag x =
      ⟨(s.setSlot i { s.slot i with working := some (r.amend x.changes), dirty := true }).touchSlot i,
        adjustedIf x.changed, .none⟩ := by
  simp [State.amend, hv, hs, hh, ho, hb, hr]

theorem State.readRecord_of_open {part : RecordPart} (hv : validSerial n = true) (hs : s.store.scanned = true)
    (hh : s.holder n = some i) (ho : (s.slot i).state = .openSlot) (hr : (s.slot i).working = some r) :
    s.readRecord tag (n, part) = ⟨s.touchSlot i, part.code, part.answer n r⟩ := by
  simp [State.readRecord, hv, hs, hh, ho, hr]

theorem State.readRecord_of_window {part : RecordPart} (hv : validSerial n = true) (hs : s.store.scanned = true)
    (hh : s.holder n = none) (hw : s.store.window.record n = some r) :
    s.readRecord tag (n, part) = ⟨s, part.code, part.answer n r⟩ := by
  simp [State.readRecord, hv, hs, hh, hw]

end

/-- What a READ RECORD answers from a record, by the part it asks for (R15). -/
theorem RecordPart.answered (part : RecordPart) (n : Nat) (r : Record) :
    (part.code, part.answer n r) = match part with
      | .header => (.ok, .header n r)
      | .entries first count =>
        (if 1 ≤ count ∧ count ≤ 4 then .ok else .adjusted,
          .entries ((r.entries.drop first).take (max 1 (min 4 count)))) := by
  cases part with
  | header => rfl
  | entries first count =>
    simp only [RecordPart.code, RecordPart.answer]
    rw [adjustedIf_clampNat (by decide), clampNat_eq_max_min (by decide)]

/-- Settles O19, by what the owners do with a record in a slot and in the read window. -/
theorem openRecordsAreAmendedAndRead : Obligations.OpenRecordsAreAmendedAndRead := by
  refine ⟨?amend, ?read⟩
  case amend =>
    intro tag payload x i r s s1 hp hs h1 h2 hscan hh ho hb hr
    have howner := State.amend_of_open (tag := tag) (validSerial_of_range h1 h2) hscan hh ho hb hr
    obtain ⟨hunit, hbogie, haxle, hprofile, hcondemning⟩ := r.amend_fields x
    refine ⟨_, r.amend x.changes, exec_amend_handed hp hs, ?_, ?_, hunit, hbogie, haxle, hprofile, hcondemning, rfl,
      AmendParams.last_getD.1, AmendParams.last_getD.1, AmendParams.last_getD.2, AmendParams.last_getD.2, rfl, rfl, ?_⟩
    · rw [howner]; rfl
    · rw [howner]; rfl
    · rw [howner]
      exact ⟨rfl, fun b hb => by cases b <;> first | rfl | exact absurd (by decide) hb⟩
  case read =>
    intro tag payload n part r s s1 hp hs h1 h2 hscan answer
    have hv := validSerial_of_range h1 h2
    have hanswer : (part.code, part.answer n r) = answer := part.answered n r
    rw [← hanswer]
    refine ⟨fun i hh ho hr => ?_, fun hh hw => ?_⟩
    · rw [exec_readRecord_handed hp hs, State.readRecord_of_open hv hscan hh ho hr]; rfl
    · rw [exec_readRecord_handed hp hs, State.readRecord_of_window hv hscan hh hw]; rfl

/-! ### The request in service ends, and the next goes into service (R7, R10, R24) -/

theorem addResult_eq_added {α : Type} (l : List α) (x : α) : addResult l x = added l x := by
  unfold addResult added
  split <;> rename_i h
  · rw [if_pos (show l.length < 8 from h)]
  · rw [if_neg (show ¬l.length < 8 from h)]

/-- A request that is no WRITE goes into service and changes no slot. -/
theorem State.serve_of_not_write {s : State} {r : Request} {rest : List Request} (hat : s.store.servesAtOnce = true)
    (hwaiting : s.store.waiting = r :: rest) (hr : ∀ m i, r ≠ .write m i) :
    s.serve = { s with store := { s.store with service := some ⟨r, none⟩, waiting := rest } } := by
  simp only [Store.servesAtOnce, Bool.and_eq_true, Option.isNone_iff_eq_none] at hat
  obtain ⟨hscanned, hservice⟩ := hat
  cases r with
  | write m i => exact absurd rfl (hr m i)
  | _ => simp only [State.serve, hscanned, hservice, hwaiting]

theorem State.serve_of_none_waiting {s : State} (hwaiting : s.store.waiting = []) : s.serve = s := by
  unfold State.serve
  split
  case h_1 _ _ _ h => rw [hwaiting] at h; cases h
  case h_2 _ _ _ h => rw [hwaiting] at h; cases h
  case h_3 => rfl

section
variable (s : State)

/-- The state with no request in service. -/
def State.outOfService : State := { s with store := { s.store with service := none } }

theorem State.endService_eq : s.endService = s.outOfService.serve := rfl

/-- A request that ends leaves the records, and the results told. -/
theorem State.endService_sameRecords : s.store.sameRecords s.endService.store :=
  State.serve_sameRecords s.outOfService

theorem State.endService_window : s.endService.store.window = s.store.window := State.serve_window s.outOfService

theorem State.endService_results : s.endService.context.results = s.context.results :=
  State.serve_contextResults s.outOfService

theorem State.serve_resultsLost : s.serve.context.resultsLost = s.context.resultsLost := by
  unfold State.serve
  split <;> rfl

theorem State.endService_resultsLost : s.endService.context.resultsLost = s.context.resultsLost :=
  s.outOfService.serve_resultsLost

/-- Whether a request is served at once after one has ended turns on the scan alone. -/
theorem State.outOfService_servesAtOnce : s.outOfService.store.servesAtOnce = s.store.scanned := by
  simp [State.outOfService, Store.servesAtOnce]

end

theorem State.serve_slot_of_write {s : State} {n : Nat} {i : Ix} {rest : List Request}
    (hat : s.store.servesAtOnce = true) (hwaiting : s.store.waiting = .write n i :: rest) (j : Ix) :
    s.serve.slot j = if j = i then { s.slot i with dirty := false } else s.slot j := by
  rw [State.serve_write hat hwaiting]
  exact s.setSlot_slot i j _

theorem State.serve_slot_of_not_write {s : State} {j : Ix} (h : ∀ n rest, s.store.waiting ≠ .write n j :: rest) :
    s.serve.slot j = s.slot j := by
  cases hat : s.store.servesAtOnce with
  | false => rw [State.serve_of_not_servesAtOnce hat]
  | true =>
    cases hw : s.store.waiting with
    | nil => rw [State.serve_of_none_waiting hw]
    | cons r rest =>
      by_cases hwrite : ∃ m i, r = .write m i
      · obtain ⟨m, i, rfl⟩ := hwrite
        rw [State.serve_slot_of_write hat hw, if_neg]
        rintro rfl
        exact h m rest hw
      · rw [State.serve_of_not_write hat hw fun m i hr => hwrite ⟨m, i, hr⟩]
        rfl

theorem Store.nextWrite_eq_some {st : Store} {i : Ix} :
    st.nextWrite = some i ↔ ∃ m rest, st.scanned = true ∧ st.waiting = .write m i :: rest := by
  unfold Store.nextWrite
  split
  next hscan hwait => simp [hscan, hwait]
  next hother =>
    simp only [reduceCtorEq, false_iff]
    rintro ⟨m, rest, hscan, hwait⟩
    exact hother m i rest hscan hwait

section
variable {s u : State} (hscan : u.store.scanned = s.store.scanned) (hwait : u.store.waiting = s.store.waiting)
include hscan hwait

/-- The oldest waiting request goes into service, a WRITE with the working copy of its slot. -/
theorem State.endService_movesOn : s.movesOn u.endService := by
  intro hs
  have hat : u.outOfService.store.servesAtOnce = true := by rw [u.outOfService_servesAtOnce, hscan, hs]
  rw [State.endService_eq]
  cases hw : s.store.waiting with
  | nil =>
    rw [State.serve_of_none_waiting (s := u.outOfService) (hwait.trans hw)]
    have hnone : u.outOfService.store.service = none := rfl
    have hrest : u.outOfService.store.waiting = [] := hwait.trans hw
    rw [hnone, hrest]
    exact ⟨rfl, rfl, fun x hx => absurd hx (Option.some_ne_none x).symm⟩
  | cons r rest =>
    by_cases hwrite : ∃ m i, r = .write m i
    · obtain ⟨m, i, rfl⟩ := hwrite
      have hslot := State.serve_slot_of_write hat (hwait.trans hw) i
      rw [if_pos rfl] at hslot
      have hserve := State.serve_write hat (hwait.trans hw)
      refine ⟨by rw [hserve]; rfl, by rw [hserve]; rfl, fun x hx => ?_⟩
      rw [hserve] at hx
      cases hx
      exact (congrArg Slot.working hslot).symm
    · rw [State.serve_of_not_write hat (hwait.trans hw) fun m i hr => hwrite ⟨m, i, hr⟩]
      refine ⟨rfl, rfl, fun x hx => ?_⟩
      cases hx
      cases r with
      | write m i => exact absurd ⟨m, i, rfl⟩ hwrite
      | _ => rfl

/-- The slot whose WRITE goes into service becomes clean; every other stands. -/
theorem State.endService_slot (i : Ix) : u.endService.slot i = s.cleaned i (u.slot i) := by
  rw [State.endService_eq]
  unfold State.cleaned
  cases hs : s.store.scanned with
  | false =>
    have hat : u.outOfService.store.servesAtOnce = false := by rw [u.outOfService_servesAtOnce, hscan, hs]
    rw [State.serve_of_not_servesAtOnce hat]
    simp only [Store.nextWrite, hs]
    rfl
  | true =>
    have hat : u.outOfService.store.servesAtOnce = true := by rw [u.outOfService_servesAtOnce, hscan, hs]
    by_cases hnext : s.store.nextWrite = some i
    · obtain ⟨m, rest, hw⟩ := Store.nextWrite_eq_some.1 hnext
      rw [State.serve_slot_of_write hat (hwait.trans hw.2), if_pos rfl, if_pos hnext]
      rfl
    · rw [if_neg hnext]
      exact State.serve_slot_of_not_write (s := u.outOfService) fun m rest hw =>
        hnext (Store.nextWrite_eq_some.2 ⟨m, rest, hs, hwait.symm.trans hw⟩)

end

/-! ### The header scan (R5) -/

/-- A cell read through a change of every listed content: its change, or nothing where it is dropped. -/
theorem Cells.read_filterMap {α β : Type} {d : α} {e : β} (f : α → Option β) :
    ∀ (c : Cells α), c.Pairwise (fun x y => x.1 < y.1) → (f d).getD e = e → ∀ a,
      Cells.read e (c.filterMap fun x => (f x.2).map fun v => (x.1, v)) a = (f (Cells.read d c a)).getD e := by
  intro c hc hd a
  induction c with
  | nil => exact hd.symm
  | cons x rest ih =>
    obtain ⟨k, v⟩ := x
    have hrest := ih (List.pairwise_cons.1 hc).2
    by_cases hk : a = k
    · subst hk
      cases hv : f v with
      | some w => simp [Cells.read, hv]
      | none =>
        have habove : ∀ y ∈ rest, a < y.1 := (List.pairwise_cons.1 hc).1
        rw [List.filterMap_cons_none (by simp [hv]), hrest, Cells.read_of_lt rest a habove, hd]
        simp [Cells.read, hv]
    · cases hv : f v with
      | some w => simp [Cells.read, hv, hk, hrest]
      | none => simp [Cells.read, hv, hk, hrest]

/-- The item the header scan lists for a place: none for an empty header. -/
def Place.tableItem (p : Place) : Option TableItem := p.header.map fun n => ⟨some n, false⟩

/-- The place table as the header scan reads it: the header of each place, with no mark. -/
theorem Store.scanTable_item {st : Store} (h : Cells.wf Place.blank st.places) (k : Nat) :
    Cells.read TableItem.blank st.scanTable k = ⟨(st.place k).header, false⟩ := by
  have hmap : st.scanTable = st.places.filterMap fun x => x.2.tableItem.map fun v => (x.1, v) := by
    simp only [Store.scanTable, Place.tableItem, Option.map_map]
    rfl
  rw [hmap, Cells.read_filterMap (d := Place.blank) Place.tableItem _ h.1 rfl]
  show (st.place k).tableItem.getD TableItem.blank = _
  unfold Place.tableItem
  cases (st.place k).header <;> rfl

/-- The state after the header scan, before the first request goes into service (R5). -/
def State.scanned (s : State) : State := s.mapStore fun st => { st with scanned := true, table := st.scanTable }

theorem exec_headerScanComplete_of_unscanned {s : State} (h : s.store.scanned = false) :
    exec .headerScanComplete s = .next s.scanned.serve := by
  show execHeaderScanComplete s = _
  rw [execHeaderScanComplete, h]
  rfl

/-- Settles O20, by the scan and the request that then goes into service. -/
theorem headerScanBuildsThePlaceTable : Obligations.HeaderScanBuildsThePlaceTable := by
  intro s hwf
  refine ⟨fun hscan hservice => ?first, fun hscan => ?again⟩
  case again =>
    show execHeaderScanComplete s = _
    rw [execHeaderScanComplete, hscan]
    rfl
  case first =>
    obtain ⟨hplaces, htable, hscanned, hresults, hlost⟩ := s.scanned.serve_sameRecords
    have hat : s.scanned.store.servesAtOnce = true := by
      simp [State.scanned, State.mapStore, Store.servesAtOnce, hservice]
    refine ⟨_, exec_headerScanComplete_of_unscanned hscan, hscanned, fun k => ?item, hplaces, s.scanned.serve_fifo,
      s.scanned.serve_fifoServed, fun i n rest hw => ?cleaned, fun i hw => ?kept, s.scanned.serve_contextResults,
      s.scanned.serve_resultsLost, s.scanned.serve_window, hresults, hlost, ?only⟩
    case item =>
      rw [Store.item, htable]
      exact Store.scanTable_item hwf.1 k
    case cleaned =>
      rw [State.serve_slot_of_write (s := s.scanned) hat hw, if_pos rfl]
      rfl
    case kept => exact State.serve_slot_of_not_write (s := s.scanned) hw
    case only =>
      have hscanOnly : Only [.store] s s.scanned :=
        ⟨rfl, fun b hb => by cases b <;> first | rfl | exact absurd (by decide) hb⟩
      exact hscanOnly.step s.scanned.serve_only (by decide) (by decide)

/-! ### Places and table items, written and read (R4, R5) -/

theorem Store.setPlace_place {st : Store} (h : Cells.wf Place.blank st.places) (k j : Nat) (p : Place) :
    (st.setPlace k p).place j = if j = k then p else st.place j := Cells.read_write st.places k j p h

theorem Store.setItem_item {st : Store} (h : Cells.wf TableItem.blank st.table) (k j : Nat) (x : TableItem) :
    (st.setItem k x).item j = if j = k then x else st.item j := Cells.read_write st.table k j x h

theorem Place.write_eq (r : Record) (p : Place) : p.write r = ⟨p.header, r, crc16 r.bodyBytes⟩ := by
  rw [Place.write]

theorem Store.rewrite_eq (st : Store) (k : Nat) (r : Record) :
    st.rewrite k r =
      (st.setPlace k ⟨(st.place k).header, r, crc16 r.bodyBytes⟩).setItem k { st.item k with damaged := false } := by
  rw [Store.rewrite, Place.write_eq]
  rfl

/-- A body written whole, its check value with it, reads back its record. -/
theorem Place.body_checked (h : Option Nat) (r : Record) : (Place.mk h r (crc16 r.bodyBytes)).body = some r := by
  simp [Place.body]

theorem Store.readBody_of_place {st : Store} {n k : Nat} (h : st.placeOf n = some k) :
    st.readBody n = some (k, (st.place k).body) := by
  simp [Store.readBody, h]

/-! ### A record request completes (R12 to R18) -/

/-- What the completion of a record request leaves beside the records, the place table and the read window: a result
told, the next request in service, and every slot as it was but for that request. -/
def State.completes (s t : State) (r : StoreResult) : Prop :=
  t.store.results = added s.store.results r ∧
    t.store.resultsLost = (s.store.resultsLost || decide (8 ≤ s.store.results.length)) ∧ s.movesOn t ∧
    (∀ i, t.slot i = s.cleaned i (s.slot i)) ∧
    t.context.results = s.context.results ∧ t.notices = (s.notify .context).notices ∧
    Only [.store, .context, .notices] s t

/-- The state in which a record request has been completed on the store, and the next is in service. -/
def State.completed (s : State) (f : Store → Store) (r : StoreResult) : State :=
  ((s.mapStore f).addStoreResult r).endService

/-- The parts of the store that the completion of a record request leaves to the FIFO and the result list. -/
def Store.sameQueue (st u : Store) : Prop :=
  u.scanned = st.scanned ∧ u.waiting = st.waiting ∧ u.results = st.results ∧ u.resultsLost = st.resultsLost

theorem State.completed_completes {s : State} {f : Store → Store} (hf : s.store.sameQueue (f s.store))
    (r : StoreResult) : s.completes (s.completed f r) r := by
  obtain ⟨hscanned, hwaiting, hresults, hlost⟩ := hf
  obtain ⟨_, _, _, tresults, tlost⟩ := ((s.mapStore f).addStoreResult r).endService_sameRecords
  have hslot (i : Ix) := State.endService_slot (s := s) (u := (s.mapStore f).addStoreResult r) hscanned hwaiting i
  have hmapped : Only [.store] s (s.mapStore f) :=
    ⟨rfl, fun b hb => by cases b <;> first | rfl | exact absurd (by decide) hb⟩
  refine ⟨?_, ?_, State.endService_movesOn hscanned hwaiting, hslot, State.endService_results _, ?_, ?_⟩
  · rw [State.completed, tresults, ← addResult_eq_added, ← hresults]; rfl
  · rw [State.completed, tlost, ← hresults, ← hlost]; rfl
  · exact (((s.mapStore f).addStoreResult r).endService_only.2 .notices (by decide)).trans rfl
  · exact (hmapped.step ((s.mapStore f).addStoreResult_only r) (by decide)
      (show _ ⊆ [.store, .context, .notices] by decide)).step (State.endService_only _) (by decide) (by decide)

section
variable (s : State) (f : Store → Store) (r : StoreResult)

theorem State.completed_window : (s.completed f r).store.window = (f s.store).window := State.endService_window _

theorem State.completed_places : (s.completed f r).store.places = (f s.store).places :=
  (((s.mapStore f).addStoreResult r).endService_sameRecords).1

theorem State.completed_table : (s.completed f r).store.table = (f s.store).table :=
  (((s.mapStore f).addStoreResult r).endService_sameRecords).2.1

theorem State.completed_place (k : Nat) : (s.completed f r).store.place k = (f s.store).place k := by
  rw [Store.place, State.completed_places]
  rfl

theorem State.completed_item (k : Nat) : (s.completed f r).store.item k = (f s.store).item k := by
  rw [Store.item, State.completed_table]
  rfl

end

section
variable {s : State} {n k : Nat} {tag : Byte} {content : Option Record}

theorem exec_readComplete_of_served (h : s.store.service = some ⟨.read n tag, content⟩) :
    exec .readComplete s = .next (s.completeRead n tag).endService := by
  show execReadComplete s = _
  simp only [execReadComplete, h]

theorem exec_enrolComplete_of_served {r : Record} (h : s.store.service = some ⟨.enrol n r k tag, content⟩) :
    exec .enrolComplete s = .next (s.completeEnrol n r k tag).endService := by
  show execEnrolComplete s = _
  simp only [execEnrolComplete, h]

theorem exec_amendComplete_of_served {x : Changes} (h : s.store.service = some ⟨.amend n x tag, content⟩) :
    exec .amendComplete s = .next (s.completeAmend n x tag).endService := by
  show execAmendComplete s = _
  simp only [execAmendComplete, h]

theorem exec_retireComplete_of_served (h : s.store.service = some ⟨.retire n tag, content⟩) :
    exec .retireComplete s = .next (s.completeRetire n tag).endService := by
  show execRetireComplete s = _
  simp only [execRetireComplete, h]

theorem State.completeRead_of_good {r : Record} (hk : s.store.placeOf n = some k)
    (hb : (s.store.place k).body = some r) :
    (s.completeRead n tag).endService =
      s.completed (fun st => { st with window := ⟨true, some (n, r)⟩ }) ⟨.read, n, tag, false⟩ := by
  simp only [State.completeRead, Store.readBody_of_place hk, hb]
  rfl

theorem State.completeRead_of_bad (hk : s.store.placeOf n = some k) (hb : (s.store.place k).body = none) :
    (s.completeRead n tag).endService = s.completed (fun st => st.setMark k true) ⟨.read, n, tag, true⟩ := by
  simp only [State.completeRead, Store.readBody_of_place hk, hb]
  rfl

theorem State.completeAmend_of_good {r : Record} {x : Changes} (hk : s.store.placeOf n = some k)
    (hb : (s.store.place k).body = some r) :
    (s.completeAmend n x tag).endService =
      s.completed (fun st => st.rewrite k (r.amend x)) ⟨.amend, n, tag, false⟩ := by
  simp only [State.completeAmend, Store.readBody_of_place hk, hb]
  rfl

theorem State.completeAmend_of_bad {x : Changes} (hk : s.store.placeOf n = some k)
    (hb : (s.store.place k).body = none) :
    (s.completeAmend n x tag).endService = s.completed (fun st => st.setMark k true) ⟨.amend, n, tag, true⟩ := by
  simp only [State.completeAmend, Store.readBody_of_place hk, hb]
  rfl

theorem State.completeRetire_of_place (hk : s.store.placeOf n = some k) :
    (s.completeRetire n tag).endService =
      s.completed (fun st => (st.setPlace k { st.place k with header := none }).setItem k TableItem.blank)
        ⟨.retire, n, tag, false⟩ := by
  simp only [State.completeRetire, hk]
  rfl

end

/-- Settles O21, each completion by what it makes of the place and the table item, and by what all of them leave. -/
theorem recordRequestsComplete : Obligations.RecordRequestsComplete := by
  intro s n tag content hwf served ends keeps
  obtain ⟨hplaces, htable, _⟩ := hwf
  have ends_of {c : Instr} {kind : ResultKind} {damaged : Bool} {f : Store → Store}
      (hexec : exec c s = .next (s.completed f ⟨kind, n, tag, damaged⟩)) (hf : s.store.sameQueue (f s.store)) :
      ends c kind damaged (s.completed f ⟨kind, n, tag, damaged⟩) := ⟨hexec, State.completed_completes hf _⟩
  have written {f : Store → Store} {k : Nat} {p : Place} {x : TableItem} (r : StoreResult)
      (hf : f s.store = (s.store.setPlace k p).setItem k x) :
      (s.completed f r).store.place k = p ∧ (s.completed f r).store.item k = x ∧ keeps (s.completed f r) k := by
    have hplace (j : Nat) : (s.completed f r).store.place j = if j = k then p else s.store.place j := by
      rw [State.completed_place, hf]
      exact Store.setPlace_place hplaces k j p
    have hitem (j : Nat) : (s.completed f r).store.item j = if j = k then x else s.store.item j := by
      rw [State.completed_item, hf]
      exact Store.setItem_item (st := s.store.setPlace k p) htable k j x
    exact ⟨(hplace k).trans (if_pos rfl), (hitem k).trans (if_pos rfl),
      fun j hj => ⟨(hplace j).trans (if_neg hj), (hitem j).trans (if_neg hj)⟩⟩
  have marked (k : Nat) (r : StoreResult) : keeps (s.completed (fun st => st.setMark k true) r) k ∧
      (s.completed (fun st => st.setMark k true) r).store.item k = { s.store.item k with damaged := true } := by
    have hitem (j : Nat) : (s.completed (fun st => st.setMark k true) r).store.item j =
        if j = k then { s.store.item k with damaged := true } else s.store.item j := by
      rw [State.completed_item]
      exact Store.setItem_item htable k j _
    exact ⟨fun j hj => ⟨State.completed_place s _ r j, (hitem j).trans (if_neg hj)⟩, (hitem k).trans (if_pos rfl)⟩
  refine ⟨?read, ?readBad, ?enrol, ?amend, ?amendBad, ?retire⟩
  case read =>
    intro k r hs hk hb
    have hexec := (exec_readComplete_of_served hs).trans (congrArg _ (State.completeRead_of_good hk hb))
    exact ⟨_, ends_of hexec ⟨rfl, rfl, rfl, rfl⟩, State.completed_window .., State.completed_places ..,
      State.completed_table ..⟩
  case readBad =>
    intro k hs hk hb
    have hexec := (exec_readComplete_of_served hs).trans (congrArg _ (State.completeRead_of_bad hk hb))
    obtain ⟨hkeeps, hitem⟩ := marked k ⟨.read, n, tag, true⟩
    exact ⟨_, ends_of hexec ⟨rfl, rfl, rfl, rfl⟩, State.completed_window .., State.completed_places .., hkeeps, hitem⟩
  case enrol =>
    intro k r hs
    have hexec := exec_enrolComplete_of_served hs
    obtain ⟨hplace, hitem, hkeeps⟩ := written (k := k) (p := ⟨some n, r, crc16 r.bodyBytes⟩)
      (x := ⟨some n, false⟩) (f := fun st =>
      (st.setPlace k { (st.place k).write r with header := some n }).setItem k ⟨some n, false⟩)
      ⟨.enrol, n, tag, false⟩ (by simp only [Place.write_eq])
    exact ⟨_, ends_of hexec ⟨rfl, rfl, rfl, rfl⟩, State.completed_window .., hkeeps, hplace,
      by rw [hplace, Place.body_checked], hitem⟩
  case amend =>
    intro k r x hs hk hb
    have hexec := (exec_amendComplete_of_served hs).trans (congrArg _ (State.completeAmend_of_good hk hb))
    obtain ⟨hplace, hitem, hkeeps⟩ := written (k := k)
      (p := ⟨(s.store.place k).header, r.amend x, crc16 (r.amend x).bodyBytes⟩)
      (x := { s.store.item k with damaged := false })
      (f := fun st => st.rewrite k (r.amend x)) ⟨.amend, n, tag, false⟩
      (by simp only [Store.rewrite_eq])
    exact ⟨_, ends_of hexec ⟨rfl, rfl, rfl, rfl⟩, State.completed_window .., hkeeps, hplace,
      by rw [hplace, Place.body_checked], hitem⟩
  case amendBad =>
    intro k x hs hk hb
    have hexec := (exec_amendComplete_of_served hs).trans (congrArg _ (State.completeAmend_of_bad hk hb))
    obtain ⟨hkeeps, hitem⟩ := marked k ⟨.amend, n, tag, true⟩
    exact ⟨_, ends_of hexec ⟨rfl, rfl, rfl, rfl⟩, State.completed_window .., State.completed_places .., hkeeps, hitem⟩
  case retire =>
    intro k hs hk
    have hexec := (exec_retireComplete_of_served hs).trans (congrArg _ (State.completeRetire_of_place hk))
    obtain ⟨hplace, hitem, hkeeps⟩ := written (f := fun st =>
      (st.setPlace k { st.place k with header := none }).setItem k TableItem.blank) ⟨.retire, n, tag, false⟩ rfl
    exact ⟨_, ends_of hexec ⟨rfl, rfl, rfl, rfl⟩, State.completed_window .., hkeeps, hplace, hitem⟩

end Sys2Proof.Machine
end

section
/-! PROOFS. Chapter 2: the bindings of stations, the logging of a measurement, and the completions of a LOAD and of a
WRITE. -/

namespace Sys2Proof.Machine

/-! ### A binding made (R31, R123, R128) -/

section
variable (s : State) (i : Ix) (st : Station)

theorem State.makeBinding_slot (j : Ix) :
    (s.makeBinding i st).slot j =
      if j = i then { s.slot i with binding := some st, requested := none, measurement := none } else s.slot j :=
  s.setSlot_slot i j _

theorem State.makeBinding_areas (w : Wheel) :
    (s.makeBinding i st).capture.areas.get w.ix = if w.station = st then [] else s.capture.areas.get w.ix :=
  State.mapAreas_areas _ st (fun _ => []) w

theorem State.makeBinding_sweepOf (st' : Station) :
    (s.makeBinding i st).sweepOf st' = if st' = st then Sweep.idle else s.sweepOf st' := by
  show (s.capture.sweep.set st Sweep.idle).get st' = _
  split
  next h => rw [h, Two.get_set_same]
  next h => exact Two.get_set_other _ _ h

theorem State.makeBinding_request_other :
    (s.makeBinding i st).capture.request.get st.other = s.capture.request.get st.other :=
  Two.get_set_other_station _ st _

end

section
variable {s : State} {n : Nat} {st : Station} {i : Ix}

theorem State.bindStation_of_not_held (h : s.holder n = none) : s.bindStation (n, st) = s.refuse .notOpen := by
  simp [State.bindStation, h]

theorem State.bindStation_of_in_transit (h : s.holder n = some i) (ho : (s.slot i).state ≠ .openSlot) :
    s.bindStation (n, st) = s.refuse .contextBusy := by
  simp [State.bindStation, h, ho]

theorem State.bindStation_of_bound (h : s.holder n = some i) (ho : (s.slot i).state = .openSlot)
    (hb : (s.slot i).binding ≠ none) : s.bindStation (n, st) = s.refuse .bound := by
  simp [State.bindStation, h, ho, Option.ne_none_iff_isSome.1 hb]

theorem State.bindStation_of_taken (h : s.holder n = some i) (ho : (s.slot i).state = .openSlot)
    (hb : (s.slot i).binding = none) (ht : s.boundSlot st ≠ none ∨ s.stationRequested st = true) :
    s.bindStation (n, st) = s.refuse .stationBound := by
  rw [Option.ne_none_iff_isSome] at ht
  simp [State.bindStation, h, ho, hb, ht]

theorem State.bindStation_of_free (h : s.holder n = some i) (ho : (s.slot i).state = .openSlot)
    (hb : (s.slot i).binding = none) (hst : s.boundSlot st = none) (hr : s.stationRequested st = false) :
    s.bindStation (n, st) = ((s.makeBinding i st).touchSlot i).accept := by
  simp [State.bindStation, h, ho, hb, hst, hr]

theorem State.unbindStation_of_bound (h : s.boundSlot st = some i) (hl : s.lift.state = .down)
    (hc : (s.cut st).state = .idle) :
    s.unbindStation st = (((s.setSlot i { s.slot i with binding := none, measurement := none }).touchSlot i).removePlan
      st).accept := by
  simp [State.unbindStation, h, hl, hc]

theorem State.unbindStation_of_refused
    (h : s.boundSlot st = none ∨ s.lift.state ≠ .down ∨ (s.cut st).state ≠ .idle) :
    s.unbindStation st = s.refuse .wrongState := by
  cases hst : s.boundSlot st with
  | none => simp [State.unbindStation, hst]
  | some i =>
    have hno : ¬(s.lift.state = .down ∧ (s.cut st).state = .idle) := by
      rintro ⟨hl, hc⟩
      simp [hst, hl, hc] at h
    simp [State.unbindStation, hst, if_neg hno]

/-- A plan removed leaves none of its station, and the plan of the other station. -/
theorem State.removePlan_plan (s : State) (st : Station) :
    (s.removePlan st).plan st = none ∧ (s.removePlan st).plan st.other = s.plan st.other := by
  unfold State.removePlan
  split
  next => exact ⟨Two.get_set_same _ st none, Two.get_set_other_station _ st none⟩
  next h => exact ⟨by simpa using h, rfl⟩

theorem State.removePlan_context (s : State) (st : Station) : (s.removePlan st).context = s.context :=
  (s.removePlan_only st).2 .context (by decide)

theorem State.removePlan_link (s : State) (st : Station) : (s.removePlan st).link = s.link :=
  (s.removePlan_only st).2 .link (by decide)

end

section
variable {tag : Byte} {payload : List Byte} {s s1 : State}

theorem exec_bind_handed {x : Nat × Station} (hp : bindParams payload = .ok x)
    (hs : s.handed 0x2A tag payload = some s1) :
    exec (.bind tag payload) s = .next ((s1.bindStation x).sent 0x2A tag) := State.plainCommand_next hp hs

theorem exec_unbind_handed {st : Station} (hp : stationParam payload = .ok st)
    (hs : s.handed 0x2B tag payload = some s1) :
    exec (.unbind tag payload) s = .next ((s1.unbindStation st).sent 0x2B tag) := State.plainCommand_next hp hs

theorem exec_logMeasurement_handed {st : Station} (hp : stationParam payload = .ok st)
    (hs : s.handed 0x2C tag payload = some s1) :
    exec (.logMeasurement tag payload) s = .next ((s1.logMeasurement st).sent 0x2C tag) :=
  State.plainCommand_next hp hs

end

/-- A reply adds the link to what a command has changed. -/
theorem State.only_replied_of {l : List Block} {s t : State} (h : Only l s t) (kind tag : Byte) (code : Code)
    (answer : Answer) : Only (l ++ [.link]) s (t.replied kind tag code answer) :=
  h.step (t.replied_only kind tag code answer) (List.subset_append_left _ _) (List.subset_append_right _ _)

/-- Settles O27, by the cases of the two owners. -/
theorem bindAndUnbindStations : Obligations.BindAndUnbindStations := by
  refine ⟨?bind, ?refused, ?unbind⟩
  case bind =>
    intro tag payload n st i s s1 hp hs hh ho hb hst hr
    obtain ⟨hexec, hanswers⟩ :=
      exec_of_accept (exec_bind_handed hp hs) (State.bindStation_of_free hh ho hb hst hr) rfl
    refine ⟨_, hexec, hanswers, rfl, s1.makeBinding_areas i st, ?_, ?_, rfl, s1.makeBinding_request_other i st, rfl, rfl,
      State.only_replied_of ((s1.makeBinding_only i st).step ((s1.makeBinding i st).touchSlot_only i)
        (show _ ⊆ [.context, .capture, .engine, .notices] by decide) (by decide)) ..⟩
    · exact (s1.makeBinding_sweepOf i st st).trans (if_pos rfl)
    · exact (s1.makeBinding_sweepOf i st st.other).trans (if_neg (by cases st <;> decide))
  case refused =>
    intro tag payload n st s s1 hp hs refused
    have by_owner {code : Code} (h : s1.bindStation (n, st) = s1.refuse code) : refused code :=
      exec_of_refuse (exec_bind_handed hp hs) h
    exact ⟨fun hh => by_owner (State.bindStation_of_not_held hh), fun i hh =>
      ⟨fun ho => by_owner (State.bindStation_of_in_transit hh ho),
        fun ho hb => by_owner (State.bindStation_of_bound hh ho hb),
        fun ho hb ht => by_owner (State.bindStation_of_taken hh ho hb ht)⟩⟩
  case unbind =>
    intro tag payload st s s1 hp hs
    refine ⟨fun i hst hl hc => ?_, fun h => exec_of_refuse (exec_unbind_handed hp hs)
      (State.unbindStation_of_refused h)⟩
    obtain ⟨hexec, hanswers⟩ :=
      exec_of_accept (exec_unbind_handed hp hs) (State.unbindStation_of_bound hst hl hc) (State.removePlan_link _ _)
    obtain ⟨hplan, hother⟩ := ((s1.setSlot i { s1.slot i with
      binding := none
      measurement := none }).touchSlot i).removePlan_plan st
    refine ⟨_, hexec, hanswers, State.removePlan_context _ st, hplan, hother,
      State.only_replied_of (l := [.context, .plans, .notices]) ?_ ..⟩
    exact ((s1.setSlot_only i _).step (State.touchSlot_only _ i) (by decide)
      (show _ ⊆ [.context, .plans, .notices] by decide)).step (State.removePlan_only _ st) (by decide) (by decide)

/-! ### A measurement logged (R33) -/

section
variable {s : State} {st : Station} {i : Ix} {m : Measurement} {r w : Record}

theorem State.logMeasurement_of_unbound (h : s.boundSlot st = none) : s.logMeasurement st = s.refuse .wrongState := by
  simp [State.logMeasurement, h]

theorem State.logMeasurement_of_at_work (h : ¬((s.cut st).state = .idle ∨ (s.cut st).state = .stopped)) :
    s.logMeasurement st = s.refuse .wrongState := by
  rw [not_or] at h
  cases hst : s.boundSlot st with
  | none => exact State.logMeasurement_of_unbound hst
  | some i => simp [State.logMeasurement, hst, h]

theorem State.logMeasurement_of_none (h : s.boundSlot st = some i) (hm : (s.slot i).measurement = none)
    (hc : (s.cut st).state = .idle ∨ (s.cut st).state = .stopped) : s.logMeasurement st = s.refuse .noMeasurement := by
  have hrests : ¬((s.cut st).state ≠ .idle ∧ (s.cut st).state ≠ .stopped) := by
    rwa [not_and_or, not_not, not_not]
  simp only [State.logMeasurement, h, if_neg hrests, hm]

variable (h : s.boundSlot st = some i) (hc : (s.cut st).state = .idle ∨ (s.cut st).state = .stopped)
  (hm : (s.slot i).measurement = some m) (hr : (s.slot i).working = some r)
include h hc hm hr

theorem State.logMeasurement_of_exhausted (ha : r.nextSequence = none) :
    s.logMeasurement st = s.refuse .recordExhausted := by
  have hrests : ¬((s.cut st).state ≠ .idle ∧ (s.cut st).state ≠ .stopped) := by
    rwa [not_and_or, not_not, not_not]
  simp only [State.logMeasurement, h, if_neg hrests, hm, hr, Record.append_of_exhausted ha]

theorem State.logMeasurement_of_appended
    (ha : r.append (m.entry .measure ((s.slot i).workOrder.getD 0)) = some w) :
    s.logMeasurement st = ((s.setSlot i { s.slot i with
      working := some (if m.verdict = .condemned then { w with state := .condemned } else w)
      dirty := true }).touchSlot i).accept := by
  have hrests : ¬((s.cut st).state ≠ .idle ∧ (s.cut st).state ≠ .stopped) := by
    rwa [not_and_or, not_not, not_not]
  simp only [State.logMeasurement, h, if_neg hrests, hm, hr, ha]

end

/-- An append keeps the record's state. -/
theorem Record.append_state {r w : Record} {e : Entry} (h : r.append e = some w) : w.state = r.state := by
  cases hn : r.nextSequence with
  | none => rw [Record.append_of_exhausted hn] at h; cases h
  | some n =>
    rw [Record.append_of_next hn] at h
    cases h
    rfl

theorem Record.condemned_or_kept (w : Record) {r : Record} (hw : w.state = r.state) (v : Verdict) :
    (if v = .condemned then { w with state := .condemned } else w) =
      { w with state := if v = .condemned then .condemned else r.state } := by
  split
  · rfl
  · rw [← hw]

/-- Settles O28, by the cases of the owner. -/
theorem logMeasurementAppendsAnEntry : Obligations.LogMeasurementAppendsAnEntry := by
  refine ⟨?logged, ?refused⟩
  case logged =>
    intro tag payload st i m r s s1 hp hs hst hc hm hr e
    refine ⟨fun w ha => ?_, fun hn => exec_of_refuse (exec_logMeasurement_handed hp hs)
      (State.logMeasurement_of_exhausted hst hc hm hr hn)⟩
    have howner := State.logMeasurement_of_appended hst hc hm hr ha
    rw [w.condemned_or_kept (Record.append_state ha)] at howner
    obtain ⟨hexec, hanswers⟩ := exec_of_accept (exec_logMeasurement_handed hp hs) howner rfl
    refine ⟨_, hexec, hanswers, rfl, State.only_replied_of (l := [.context]) ?_ ..⟩
    exact (s1.setSlot_only i _).step (State.touchSlot_only _ i) (by decide) (by decide)
  case refused =>
    intro tag payload st s s1 hp hs rests
    refine ⟨fun h => exec_of_refuse (exec_logMeasurement_handed hp hs) ?_, fun i hst hc hm =>
      exec_of_refuse (exec_logMeasurement_handed hp hs) (State.logMeasurement_of_none hst hm hc)⟩
    obtain hst | hc := h
    · exact State.logMeasurement_of_unbound hst
    · exact State.logMeasurement_of_at_work hc

/-! ### A LOAD and a WRITE complete (R10, R28, R29) -/

/-- What the end of a request leaves whose result the Context Table tells. -/
def State.tellsEnd (s u t : State) (x : ContextResult) : Prop :=
  t.context.results = added s.context.results x ∧
    t.context.resultsLost = (s.context.resultsLost || decide (8 ≤ s.context.results.length)) ∧ s.movesOn t ∧
    (∀ j, t.slot j = s.cleaned j (u.slot j)) ∧ t.notices = (u.notify .context).notices ∧
    t.capture = u.capture ∧ t.engine = u.engine ∧ t.store.places = u.store.places ∧ t.store.table = u.store.table ∧
    t.store.window = u.store.window ∧ t.store.results = u.store.results

theorem State.tellsEnd_of {s u : State} (hscan : u.store.scanned = s.store.scanned)
    (hwait : u.store.waiting = s.store.waiting) (hresults : u.context.results = s.context.results)
    (hlost : u.context.resultsLost = s.context.resultsLost) (i : Ix) (n : Nat) (o : ContextOutcome) :
    s.tellsEnd u (u.addContextResult i n o).endService ⟨i, n, o⟩ := by
  obtain ⟨hplaces, htable, _, hstored, _⟩ := (u.addContextResult i n o).endService_sameRecords
  have honly := (u.addContextResult i n o).endService_only
  refine ⟨?_, ?_, State.endService_movesOn (u := u.addContextResult i n o) hscan hwait,
    State.endService_slot (u := u.addContextResult i n o) hscan hwait, honly.2 .notices (by decide),
    honly.2 .capture (by decide), honly.2 .engine (by decide), hplaces, htable,
    State.endService_window _, hstored⟩
  · rw [State.endService_results, ← addResult_eq_added, ← hresults]; rfl
  · rw [State.endService_resultsLost, ← hresults, ← hlost]; rfl

section
variable {s : State} {n k : Nat} {i : Ix} {r : Record} {content : Option Record}

theorem exec_loadComplete_of_served (h : s.store.service = some ⟨.load n i, content⟩) :
    exec .loadComplete s = .next (s.completeLoad n i).endService := by
  show execLoadComplete s = _
  simp only [execLoadComplete, h]

theorem exec_writeComplete_of_served (h : s.store.service = some ⟨.write n i, content⟩) :
    exec .writeComplete s = .next (s.completeWrite n i content).endService := by
  show execWriteComplete s = _
  simp only [execWriteComplete, h]

/-- The slot as a LOAD fills it, before a requested binding is made (R29). -/
def Slot.filled (sl : Slot) (r : Record) : Slot :=
  { sl with state := .openSlot, working := some r, dirty := false, measurement := none, requested := none }

/-- The state as a LOAD leaves it, before its result is told: with the requested binding made (R29, R31). -/
def State.filled (i : Ix) (r : Record) (s : State) : State :=
  match (s.slot i).requested with
  | some st => (s.setSlot i ((s.slot i).filled r)).makeBinding i st
  | none => s.setSlot i ((s.slot i).filled r)

theorem State.filled_of_asked {st : Station} (h : (s.slot i).requested = some st) :
    s.filled i r = (s.setSlot i ((s.slot i).filled r)).makeBinding i st := by
  simp only [State.filled, h]

theorem State.filled_of_unasked (h : (s.slot i).requested = none) :
    s.filled i r = s.setSlot i ((s.slot i).filled r) := by
  simp only [State.filled, h]

theorem State.completeLoad_of_good (hk : s.store.placeOf n = some k) (hb : (s.store.place k).body = some r) :
    s.completeLoad n i = (s.filled i r).addContextResult i n .loaded := by
  simp only [State.completeLoad, Store.readBody_of_place hk, hb]
  rfl

theorem State.completeLoad_of_bad (hk : s.store.placeOf n = some k) (hb : (s.store.place k).body = none) :
    s.completeLoad n i = ((s.mapStore fun st => st.setMark k true).freeSlot i).addContextResult i n .recordDamaged := by
  simp only [State.completeLoad, Store.readBody_of_place hk, hb]

theorem State.completeLoad_of_gone (hk : s.store.placeOf n = none) :
    s.completeLoad n i = (s.freeSlot i).addContextResult i n .noRecord := by
  simp [State.completeLoad, Store.readBody, hk]

/-- A LOAD leaves the store to the request in service, and the results told. -/
theorem State.filled_kept : (s.filled i r).store = s.store ∧ (s.filled i r).context.results = s.context.results ∧
    (s.filled i r).context.resultsLost = s.context.resultsLost := by
  unfold State.filled
  split <;> exact ⟨rfl, rfl, rfl⟩

theorem State.filled_slot_self :
    (s.filled i r).slot i =
      { s.slot i with
        state := .openSlot
        working := some r
        dirty := false
        measurement := none
        requested := none
        binding := match (s.slot i).requested with
          | some st => some st
          | none => (s.slot i).binding } := by
  cases h : (s.slot i).requested with
  | none => rw [State.filled_of_unasked h, State.setSlot_slot_self]; rfl
  | some st =>
    rw [State.filled_of_asked h, State.makeBinding_slot, if_pos rfl, State.setSlot_slot_self]
    rfl

theorem State.filled_slot_of_ne {j : Ix} (hj : j ≠ i) : (s.filled i r).slot j = s.slot j := by
  cases h : (s.slot i).requested with
  | none => rw [State.filled_of_unasked h, State.setSlot_slot, if_neg hj]
  | some st => rw [State.filled_of_asked h, State.makeBinding_slot, if_neg hj, State.setSlot_slot, if_neg hj]

theorem State.filled_areas (w : Wheel) :
    (s.filled i r).capture.areas.get w.ix =
      if (s.slot i).requested = some w.station then [] else s.capture.areas.get w.ix := by
  cases h : (s.slot i).requested with
  | none => rw [State.filled_of_unasked h]; simp [State.setSlot]
  | some st =>
    rw [State.filled_of_asked h, State.makeBinding_areas]
    simp only [Option.some.injEq, eq_comm (a := st)]
    rfl

theorem State.filled_sweepOf (st : Station) :
    (s.filled i r).sweepOf st = if (s.slot i).requested = some st then Sweep.idle else s.sweepOf st := by
  cases h : (s.slot i).requested with
  | none => rw [State.filled_of_unasked h]; simp [State.setSlot, State.sweepOf]
  | some st' =>
    rw [State.filled_of_asked h, State.makeBinding_sweepOf]
    simp only [Option.some.injEq, eq_comm (a := st')]
    rfl

/-- A slot that ends up clean is not changed by a WRITE of it going into service. -/
theorem State.cleaned_of_clean {sl : Slot} (h : sl.dirty = false) : s.cleaned i sl = sl := by
  unfold State.cleaned
  split
  · cases sl
    cases h
    rfl
  · rfl

/-- What a WRITE makes of the store, with the place of its record known (R10). -/
theorem Store.writeBody_of_place {st : Store} (hk : st.placeOf n = some k) :
    st.writeBody n (some r) =
      (st.setPlace k ⟨(st.place k).header, r, crc16 r.bodyBytes⟩).setItem k { st.item k with damaged := false } := by
  simp only [Store.writeBody, hk, Store.rewrite_eq]

/-- What a write-back leaves in the slots: the incoming record LOADING, or a free slot (R28). -/
def State.writtenBack (i : Ix) (s : State) : State :=
  match (s.slot i).incoming with
  | some x => s.setSlot i { Slot.free (s.slot i).rank with
      state := .loading
      serial := some x.serial
      workOrder := some x.workOrder
      requested := x.requested }
  | none => s.freeSlot i

theorem State.writtenBack_only (i : Ix) (s : State) : Only [.context] s (s.writtenBack i) := by
  unfold State.writtenBack
  split
  · exact s.setSlot_only i _
  · exact s.freeSlot_only i

theorem State.writtenBack_results : (s.writtenBack i).context.results = s.context.results ∧
    (s.writtenBack i).context.resultsLost = s.context.resultsLost := by
  unfold State.writtenBack
  split <;> exact ⟨rfl, rfl⟩

/-- The state after the WRITE's effect on the store (R10). -/
def State.bodyWritten (n : Nat) (content : Option Record) (s : State) : State :=
  s.mapStore fun st => st.writeBody n content

theorem State.completeWrite_of_ended (h : (s.slot i).state = .writing) (hn : (s.slot i).serial = some n)
    (hw : s.store.slotWriteWaiting i = false) :
    s.completeWrite n i content = ((s.bodyWritten n content).writtenBack i).addContextResult i n .writtenBack := by
  simp only [State.completeWrite, h, hn, hw, and_self, if_true]
  rfl

theorem State.completeWrite_of_kept
    (h : (s.slot i).state ≠ .writing ∨ (s.slot i).serial ≠ some n ∨ s.store.slotWriteWaiting i = true) :
    s.completeWrite n i content = s.bodyWritten n content := by
  refine if_neg ?_
  rintro ⟨hs, hn, hw⟩
  simp [hs, hn, hw] at h

end

/-- Settles O29: the slots and the record after each completion, then the request that goes into service. -/
theorem loadsAndWritesEndInTheirSlots : Obligations.LoadsAndWritesEndInTheirSlots := by
  refine ⟨?load, ?write⟩
  case load =>
    intro s n i content hs ends tellsContext
    have honly : Only [.store, .context, .notices, .capture, .engine] s (s.completeLoad n i).endService :=
      (s.completeLoad_only n i).step (State.endService_only _) (by decide) (by decide)
    refine ⟨fun k r hk hb => ?good, fun k hk hb => ?bad, fun hk => ?gone⟩
    case good =>
      obtain ⟨hstore, hresults, hlost⟩ := s.filled_kept (i := i) (r := r)
      rw [State.completeLoad_of_good hk hb] at honly
      obtain ⟨tresults, tlost, tmoves, tslot, tnotices, tcapture, tengine, tplaces, ttable, twindow, tstored⟩ :=
        State.tellsEnd_of (s := s) (by rw [hstore]) (by rw [hstore]) hresults hlost i n .loaded
      have hcontext : ((s.filled i r).notify .context).notices.get .context = (s.notices.get .context).event := by
        cases hreq : (s.slot i).requested with
        | none => rw [State.filled_of_unasked hreq]; rfl
        | some st => rw [State.filled_of_asked hreq]; cases st <;> rfl
      refine ⟨_, ⟨(exec_loadComplete_of_served hs).trans (by rw [State.completeLoad_of_good hk hb]), tresults, tlost,
        tmoves, tplaces.trans (by rw [hstore]), twindow.trans (by rw [hstore]), tstored.trans (by rw [hstore]),
        by rw [tnotices, hcontext], honly⟩, ?self, fun j hj => ?other, ttable.trans (by rw [hstore]), fun w => ?areas,
        fun st => ?sweep, fun st hreq => ⟨?notices, ?engine⟩, fun hreq => ⟨?capture, ?engineKept, ?context⟩⟩
      case self =>
        exact (tslot i).trans
          ((State.cleaned_of_clean (by rw [State.filled_slot_self])).trans State.filled_slot_self)
      case other => rw [tslot, State.filled_slot_of_ne hj]
      case areas => rw [tcapture, State.filled_areas]
      case sweep => exact (congrArg (fun c : Capture => c.sweep.get st) tcapture).trans (State.filled_sweepOf st)
      case notices => rw [tnotices, State.filled_of_asked hreq]; cases st <;> rfl
      case engine => rw [tengine, State.filled_of_asked hreq]; rfl
      case capture => rw [tcapture, State.filled_of_unasked hreq]; rfl
      case engineKept => rw [tengine, State.filled_of_unasked hreq]; rfl
      case context => exact tnotices.trans (by rw [State.filled_of_unasked hreq]; rfl)
    case bad =>
      rw [State.completeLoad_of_bad hk hb] at honly
      obtain ⟨tresults, tlost, tmoves, tslot, tnotices, tcapture, tengine, tplaces, ttable, twindow, tstored⟩ :=
        State.tellsEnd_of (s := s) (u := (s.mapStore fun st => st.setMark k true).freeSlot i) rfl rfl rfl rfl i n
          .recordDamaged
      refine ⟨_, ⟨(exec_loadComplete_of_served hs).trans (by rw [State.completeLoad_of_bad hk hb]), tresults, tlost,
        tmoves, tplaces, twindow, tstored, ?_, honly⟩, tslot, fun hwf => ?_, tcapture, tengine, tnotices⟩
      · rw [tnotices]; exact State.notify_get_self _ _
      · have hitem (j : Nat) := Store.setItem_item hwf.2.1 k j { s.store.item k with damaged := true }
        rw [Store.item, ttable]
        refine ⟨(hitem k).trans (if_pos rfl), fun j hj => ?_⟩
        rw [Store.item, ttable]
        exact (hitem j).trans (if_neg hj)
    case gone =>
      rw [State.completeLoad_of_gone hk] at honly
      obtain ⟨tresults, tlost, tmoves, tslot, tnotices, tcapture, tengine, tplaces, ttable, twindow, tstored⟩ :=
        State.tellsEnd_of (s := s) (u := s.freeSlot i) rfl rfl rfl rfl i n .noRecord
      refine ⟨_, ⟨(exec_loadComplete_of_served hs).trans (by rw [State.completeLoad_of_gone hk]), tresults, tlost,
        tmoves, tplaces, twindow, tstored, ?_, honly⟩, tslot, ttable, tcapture, tengine, tnotices⟩
      rw [tnotices]; exact State.notify_get_self _ _
  case write =>
    intro s n k i r hs hk hwf
    have honly : Only [.store, .context, .notices] s (s.completeWrite n i (some r)).endService :=
      (s.completeWrite_only n i (some r)).step (State.endService_only _) (by decide) (by decide)
    have hbody := Store.writeBody_of_place (st := s.store) (r := r) hk
    have hscan : (s.bodyWritten n (some r)).store.scanned = s.store.scanned := by
      rw [State.bodyWritten, State.mapStore, hbody]; rfl
    have hwait : (s.bodyWritten n (some r)).store.waiting = s.store.waiting := by
      rw [State.bodyWritten, State.mapStore, hbody]; rfl
    have hwindow : (s.bodyWritten n (some r)).store.window = s.store.window := by
      rw [State.bodyWritten, State.mapStore, hbody]; rfl
    have hstored : (s.bodyWritten n (some r)).store.results = s.store.results := by
      rw [State.bodyWritten, State.mapStore, hbody]; rfl
    have hplace (j : Nat) : (s.bodyWritten n (some r)).store.place j =
        if j = k then ⟨(s.store.place k).header, r, crc16 r.bodyBytes⟩ else s.store.place j := by
      rw [State.bodyWritten, State.mapStore, hbody]
      exact Store.setPlace_place hwf.1 k j _
    have hitem (j : Nat) : (s.bodyWritten n (some r)).store.item j =
        if j = k then { s.store.item k with damaged := false } else s.store.item j := by
      rw [State.bodyWritten, State.mapStore, hbody]
      exact Store.setItem_item (st := s.store.setPlace k _) hwf.2.1 k j _
    have told {t : State} (hp : t.store.places = (s.bodyWritten n (some r)).store.places)
        (ht : t.store.table = (s.bodyWritten n (some r)).store.table) :
        t.store.place k = { s.store.place k with content := r, check := crc16 r.bodyBytes } ∧
        (t.store.place k).body = some r ∧ t.store.item k = { s.store.item k with damaged := false } ∧
        ∀ j, j ≠ k → t.store.place j = s.store.place j ∧ t.store.item j = s.store.item j := by
      have tplace (j : Nat) : t.store.place j = _ := (congrArg (Cells.read Place.blank · j) hp).trans (hplace j)
      have titem (j : Nat) : t.store.item j = _ := (congrArg (Cells.read TableItem.blank · j) ht).trans (hitem j)
      rw [tplace k, if_pos rfl, titem k, if_pos rfl]
      exact ⟨rfl, Place.body_checked _ r, rfl,
        fun j hj => ⟨(tplace j).trans (if_neg hj), (titem j).trans (if_neg hj)⟩⟩
    by_cases hends : (s.slot i).state = .writing ∧ (s.slot i).serial = some n ∧ s.store.slotWriteWaiting i = false
    · obtain ⟨hstate, hserial, hwaits⟩ := hends
      have hexec := exec_writeComplete_of_served hs
      rw [State.completeWrite_of_ended hstate hserial hwaits] at hexec honly
      have hback := (s.bodyWritten n (some r)).writtenBack_only i
      have hstore : ((s.bodyWritten n (some r)).writtenBack i).store = (s.bodyWritten n (some r)).store :=
        hback.2 .store (by decide)
      obtain ⟨hresults, hlost⟩ := (s.bodyWritten n (some r)).writtenBack_results (i := i)
      obtain ⟨tresults, tlost, tmoves, tslot, tnotices, _, _, tplaces, ttable, twindow, tstored⟩ :=
        State.tellsEnd_of (s := s) (u := (s.bodyWritten n (some r)).writtenBack i) (by rw [hstore, hscan])
          (by rw [hstore, hwait]) hresults hlost i n .writtenBack
      obtain ⟨hk1, hk2, hk3, hk4⟩ := told (tplaces.trans (by rw [hstore])) (ttable.trans (by rw [hstore]))
      have hnotices : ((s.bodyWritten n (some r)).writtenBack i).notices = s.notices :=
        hback.2 .notices (by decide)
      refine ⟨_, hexec, hk1, hk2, hk3, hk4, tmoves, by rw [twindow, hstore, hwindow],
        by rw [tstored, hstore, hstored], fun _ _ _ => ⟨tresults, tlost, ?_, fun hin => ?_, fun x hin => ⟨?_, ?_⟩⟩,
        fun hno => absurd hno (by simp [hstate, hserial, hwaits]), honly⟩
      · rw [tnotices, State.notify, State.notify, hnotices]
      · intro j
        rw [tslot, State.writtenBack, show ((s.bodyWritten n (some r)).slot i).incoming = none from hin]
        rfl
      · rw [tslot, State.writtenBack, show ((s.bodyWritten n (some r)).slot i).incoming = some x from hin]
        dsimp only
        rw [State.setSlot_slot_self]
        exact State.cleaned_of_clean rfl
      · intro j hj
        rw [tslot, State.writtenBack, show ((s.bodyWritten n (some r)).slot i).incoming = some x from hin]
        dsimp only
        rw [State.setSlot_slot, if_neg hj]
        rfl
    · have hkept : (s.slot i).state ≠ .writing ∨ (s.slot i).serial ≠ some n ∨ s.store.slotWriteWaiting i = true := by
        rwa [not_and_or, not_and_or, Bool.not_eq_false] at hends
      have hexec := exec_writeComplete_of_served hs
      rw [State.completeWrite_of_kept hkept] at hexec honly
      obtain ⟨tplaces, ttable, _, tstored, _⟩ := (s.bodyWritten n (some r)).endService_sameRecords
      obtain ⟨hk1, hk2, hk3, hk4⟩ := told tplaces ttable
      exact ⟨_, hexec, hk1, hk2, hk3, hk4, State.endService_movesOn hscan hwait,
        (State.endService_window _).trans hwindow, tstored.trans hstored,
        fun h1 h2 h3 => absurd ⟨h1, h2, h3⟩ hends,
        fun _ => ⟨State.endService_results _, State.endService_resultsLost _,
          (State.endService_only _).2 .notices (by decide), State.endService_slot hscan hwait⟩, honly⟩

end Sys2Proof.Machine
end

section
/-! PROOFS. The test of the start condition and what it leaves of a station (R64, R68), the debounced inputs (R79 to
R90), and the hold causes the lift and the stations take (R53, R167, R183). -/

namespace Sys2Proof.Machine

/-! ### The test of the start condition (R64, R65, R68) -/

section
variable {s : State}

/-- Where the start condition does not hold the test of it changes nothing. -/
theorem State.testStart_of_not_startCondition (h : s.startCondition = false) : s.testStart = s := by
  unfold State.testStart
  cases s.level.backlog with
  | zero => rfl
  | succ n =>
    unfold State.startRelevels
    split
    · rfl
    · exact if_neg (by rw [h]; exact Bool.false_ne_true)

theorem State.testStart_of_not_raised (h : s.lift.state ≠ .raised) : s.testStart = s :=
  State.testStart_of_not_startCondition (by simp [State.startCondition, h])

theorem State.testStart_of_busy (h : s.pitIdle = false) : s.testStart = s :=
  State.testStart_of_not_startCondition (by simp [State.startCondition, h])

theorem State.pitIdle_of_inWork {st : Station} (h : (s.cut st).state.inWork = true) : s.pitIdle = false := by
  cases st <;> simp [State.pitIdle, h]

theorem State.testStart_of_holding {st : Station} (h : (s.cut st).state = .holding) : s.testStart = s :=
  State.testStart_of_busy (State.pitIdle_of_inWork (st := st) (by rw [h]; rfl))

end

/-- A station with LEVEL taken from its hold cause set: one HELD for nothing else goes back to APPROACH (R68, R170). -/
def CutStation.released (x : CutStation) : CutStation :=
  if x.state = .held ∧ { x.holds with level := false } = CutCauses.empty then
    { x with state := .approach, holds := { x.holds with level := false } }
  else { x with holds := { x.holds with level := false } }

theorem CutStation.released_of_not_held {x : CutStation} (h : x.state ≠ .held) :
    x.released = { x with holds := { x.holds with level := false } } := if_neg fun hx => h hx.1

/-- Taking LEVEL from a station twice takes no more than once. -/
theorem CutStation.released_released (x : CutStation) : x.released.released = x.released := by
  by_cases h : x.state = .held ∧ { x.holds with level := false } = CutCauses.empty
  · simp [CutStation.released, h, CutCauses.empty]
  · have hself : x.released = { x with holds := { x.holds with level := false } } := if_neg h
    rw [hself]
    exact if_neg h

theorem CutStation.released_not_held {x : CutStation} (h : x.state ≠ .held) : x.released.state ≠ .held := by
  rwa [CutStation.released_of_not_held h]

/-- The tool carriage and the roller drive of a station have got no demand from `s` to `t`. -/
def State.sameDrives (st : Station) (s t : State) : Prop :=
  t.axes.tool.get st = s.axes.tool.get st ∧ t.axes.roller.get st = s.axes.roller.get st

theorem State.sameDrives_of_only {l : List Block} {s t : State} (h : Only l s t) (hl : Block.axes ∉ l) (st : Station) :
    State.sameDrives st s t := by
  have haxes : t.axes = s.axes := h.2 .axes hl
  rw [State.sameDrives, haxes]
  exact ⟨rfl, rfl⟩

/-- From `s` to `t` a station has stayed or has lost the cause LEVEL, and its drives have a new demand only where it was
HELD. -/
def State.freesStation (st : Station) (s t : State) : Prop :=
  (t.cut st = s.cut st ∨ t.cut st = (s.cut st).released) ∧ ((s.cut st).state ≠ .held → State.sameDrives st s t)

section
variable {s t u : State} {st : Station}

theorem State.freesStation.refl : State.freesStation st s s := ⟨.inl rfl, fun _ => ⟨rfl, rfl⟩⟩

theorem State.freesStation.trans (h : State.freesStation st s t) (k : State.freesStation st t u) :
    State.freesStation st s u := by
  obtain ⟨hcut, hdrives⟩ := h
  obtain ⟨kcut, kdrives⟩ := k
  refine ⟨?_, fun hnot => ?_⟩
  · obtain hcut | hcut := hcut
    · rwa [hcut] at kcut
    · obtain kcut | kcut := kcut
      · exact .inr (kcut.trans hcut)
      · rw [hcut, CutStation.released_released] at kcut
        exact .inr kcut
  · have hnot' : (t.cut st).state ≠ .held := by
      obtain hcut | hcut := hcut
      · rwa [hcut]
      · rw [hcut]; exact CutStation.released_not_held hnot
    obtain ⟨htool, hroller⟩ := hdrives hnot
    obtain ⟨ktool, kroller⟩ := kdrives hnot'
    exact ⟨ktool.trans htool, kroller.trans hroller⟩

theorem State.freesStation_of_only {l : List Block} (h : Only l s t) (hstations : Block.stations ∉ l)
    (haxes : Block.axes ∉ l) : State.freesStation st s t :=
  ⟨.inl (State.cut_of_only h hstations st), fun _ => State.sameDrives_of_only h haxes st⟩

theorem State.freesStation.ite {p : Prop} [Decidable p] (h : State.freesStation st s t)
    (k : State.freesStation st s u) : State.freesStation st s (if p then t else u) := by
  split <;> assumption

end

/-- A station that leaves HELD gives its own drives a demand, and no other. -/
theorem State.leaveHeld_of_held {s : State} {st : Station}
    (h : (s.cut st).state = .held ∧ (s.cut st).holds = CutCauses.empty) (st' : Station) :
    (s.leaveHeld st).cut st' = (if st' = st then { s.cut st with state := .approach } else s.cut st') ∧
      (st' ≠ st → State.sameDrives st' s (s.leaveHeld st)) := by
  rw [State.leaveHeld, if_pos h]
  have honly := ((s.putCut st { s.cut st with state := .approach }).driveRoller st .turning).driveApproach_only st
  refine ⟨?_, fun hst => ?_⟩
  · rw [State.cut_of_only honly (by decide)]
    exact s.putCut_cut st st' _
  · have happroach : State.sameDrives st' ((s.putCut st { s.cut st with state := .approach }).driveRoller st .turning)
        (((s.putCut st { s.cut st with state := .approach }).driveRoller st .turning).driveApproach st) := by
      unfold State.driveApproach
      split
      · exact ⟨Two.get_set_other _ _ hst, rfl⟩
      · exact ⟨rfl, rfl⟩
    have hput := State.sameDrives_of_only (s.putCut_only st { s.cut st with state := .approach }) (by decide) st'
    exact ⟨happroach.1.trans hput.1, (happroach.2.trans (Two.get_set_other _ _ hst)).trans hput.2⟩

theorem State.leaveHeld_of_not_held {s : State} {st : Station}
    (h : ¬((s.cut st).state = .held ∧ (s.cut st).holds = CutCauses.empty)) : s.leaveHeld st = s := if_neg h

/-- LEVEL taken from a station (R68). -/
theorem State.removeLevel_cut (s : State) (st st' : Station) :
    (s.removeLevel st).cut st' = if st' = st then (s.cut st).released else s.cut st' := by
  have hput (x : Station) := s.putCut_cut st x { s.cut st with holds := { (s.cut st).holds with level := false } }
  have hself := (hput st).trans (if_pos rfl)
  rw [State.removeLevel]
  dsimp only
  by_cases hheld : (s.cut st).state = .held ∧ { (s.cut st).holds with level := false } = CutCauses.empty
  · rw [(State.leaveHeld_of_held (by rw [hself]; exact hheld) st').1, hself, hput, CutStation.released, if_pos hheld]
    split <;> rfl
  · rw [State.leaveHeld_of_not_held (by rw [hself]; exact hheld), hput, CutStation.released, if_neg hheld]

theorem State.removeLevel_freesStation (s : State) (st st' : Station) :
    State.freesStation st' s (s.removeLevel st) := by
  refine ⟨?_, fun hnot => ?_⟩
  · rw [s.removeLevel_cut st st']
    split
    next h => rw [h]; exact .inr rfl
    next => exact .inl rfl
  · have hput (x : Station) := s.putCut_cut st x { s.cut st with holds := { (s.cut st).holds with level := false } }
    have hsame := State.sameDrives_of_only
      (s.putCut_only st { s.cut st with holds := { (s.cut st).holds with level := false } }) (by decide) st'
    rw [State.removeLevel]
    dsimp only
    by_cases hheld : (s.cut st).state = .held ∧ { (s.cut st).holds with level := false } = CutCauses.empty
    · have hst : st' ≠ st := fun h => hnot (h ▸ hheld.1)
      have hleave := (State.leaveHeld_of_held (by rw [(hput st).trans (if_pos rfl)]; exact hheld) st').2 hst
      exact ⟨hleave.1.trans hsame.1, hleave.2.trans hsame.2⟩
    · rw [State.leaveHeld_of_not_held (by rw [(hput st).trans (if_pos rfl)]; exact hheld)]
      exact hsame

theorem State.completeRelevel_freesStation (s : State) (moved : Bool) (st : Station) :
    State.freesStation st s (s.completeRelevel moved) := by
  have hput (l : Lift) (v : Level) : State.freesStation st s (s.putLift l v) :=
    State.freesStation_of_only (s.putLift_only l v) (by decide) (by decide)
  have hend (x : State) : State.freesStation st x x.endUrgent :=
    ((State.freesStation_of_only (x.putLift_only _ _) (by decide) (by decide)).trans
      (State.removeLevel_freesStation _ .a st)).trans (State.removeLevel_freesStation _ .b st)
  unfold State.completeRelevel
  exact .ite ((hput _ _).trans (hend _)) (hput _ _)

/-- The test of the start condition takes the cause LEVEL from a station, or leaves it. -/
theorem State.testStart_freesStation (s : State) (st : Station) : State.freesStation st s s.testStart := by
  unfold State.testStart
  generalize s.level.backlog = n
  induction n generalizing s with
  | zero => exact .refl
  | succ n ih =>
    unfold State.startRelevels
    split
    · exact .refl
    · exact .ite (.ite (State.freesStation_of_only (s.putLift_only _ _) (by decide) (by decide))
        ((s.completeRelevel_freesStation false st).trans (ih _))) .refl

/-- The test leaves the lift state, and the sweeps. -/
theorem State.testStart_lift_state (s : State) : s.testStart.lift.state = s.lift.state :=
  ((Lift.seen_eq_iff _ _).1 s.testStart_standsAs.1).1

theorem State.testStart_sweepOf (s : State) (st : Station) : s.testStart.sweepOf st = s.sweepOf st := by
  have hcapture : s.testStart.capture = s.capture := s.testStart_only.2 .capture (by decide)
  rw [State.sweepOf, hcapture, State.sweepOf]

/-! ### Both stations held and both sweeps paused (R87, R116, R167, R183) -/

/-- A hold cause handed to both stations, and both sweeps told to pause. -/
def State.holdWork (c : CutCause) (p : PauseCause) (s : State) : State :=
  (((s.giveCause c .a).giveCause c .b).pauseSweep p .a).pauseSweep p .b

section
variable (s : State) (c : CutCause) (p : PauseCause)

theorem State.holdWork_cut (st : Station) : (s.holdWork c p).cut st = (s.cut st).given c := by
  have hpause : (s.holdWork c p).stations = ((s.giveCause c .a).giveCause c .b).stations :=
    (State.pauseSweep_both_only _ p).2 .stations (by decide)
  rw [State.cut, hpause, State.giveCause_both_stations, Two.get_map]
  rfl

theorem State.holdWork_sweepOf (st : Station) : (s.holdWork c p).sweepOf st = (s.sweepOf st).pausedFor p := by
  have hcuts : ((s.giveCause c .a).giveCause c .b).capture = s.capture :=
    (s.giveCause_both_only c).2 .capture (by decide)
  rw [State.sweepOf, State.holdWork, State.pauseSweep_both_sweep, Two.get_map, hcuts]
  rfl

theorem State.holdWork_only : Only [.stations, .axes, .capture, .notices] s (s.holdWork c p) :=
  (s.giveCause_both_only c).step (State.pauseSweep_both_only _ p) (by decide) (by decide)

theorem State.holdWork_liftKept : s.liftKept (s.holdWork c p) :=
  (((s.giveCause_liftKept c .a).trans (State.giveCause_liftKept _ c .b)).trans
    (State.pauseSweep_liftKept _ p .a)).trans (State.pauseSweep_liftKept _ p .b)

theorem State.holdWork_quiet : s.quiet (s.holdWork c p) :=
  (((s.giveCause_quiet c .a).trans (State.giveCause_quiet _ c .b)).trans
    (State.pauseSweep_quiet _ p .a)).trans (State.pauseSweep_quiet _ p .b)

end

/-- A station in APPROACH or CUTTING takes its first cause, whatever the cause (R167). -/
theorem CutStation.given_of_working {x : CutStation} (h : x.state = .approach ∨ x.state = .cutting) (c : CutCause) :
    x.given c = { x with
      state := .holding
      holds := CutCauses.empty.add c
      heldAt := some x.toolLateral } := by
  obtain h | h := h <;> simp only [CutStation.given, h]

/-- One in HOLDING or HELD adds any cause but SILENCE (R167). -/
theorem CutStation.given_of_held {x : CutStation} (h : x.state = .holding ∨ x.state = .held) {c : CutCause}
    (hc : c ≠ .silence) : x.given c = { x with holds := x.holds.add c } := by
  obtain h | h := h <;> simp only [CutStation.given, h, if_neg hc]

theorem CutStation.given_silence_of_held {x : CutStation} (h : x.state = .holding ∨ x.state = .held) :
    x.given .silence = x := by
  obtain h | h := h <;> simp only [CutStation.given, h, if_true]

/-- No cause reaches a station at rest or on its way home (R167). -/
theorem CutStation.given_of_rest {x : CutStation}
    (h : x.state = .idle ∨ x.state = .retract ∨ x.state = .aborting ∨ x.state = .stopped) (c : CutCause) :
    x.given c = x := by
  obtain h | h | h | h := h <;> simp only [CutStation.given, h]

/-- A station at work, or one that draws clear, keeps the pit from being idle. -/
theorem CutStation.given_holding {x : CutStation} (h : x.state = .approach ∨ x.state = .cutting ∨ x.state = .holding)
    (c : CutCause) : (x.given c).state = .holding := by
  obtain h | h | h := h
  · simp only [CutStation.given, h]
  · simp only [CutStation.given, h]
  · simp only [CutStation.given, h]
    split
    · exact h
    · rfl

/-! ### A hold cause taken by the lift (R53, R75) -/

section
variable {s : State}

theorem State.giveLiftCause_of_hold {c : LiftCause} (h : s.lift.state = .hold)
    (hc : c = .estop ∨ c = .pressure ∨ c = .precondition ∧ s.lift.move ≠ none) :
    s.giveLiftCause c = s.addLiftCause c := by
  obtain rfl | rfl | ⟨rfl, hmove⟩ := hc
  · simp only [State.giveLiftCause, h]
  · simp only [State.giveLiftCause, h]
  · simp only [State.giveLiftCause, h, Option.ne_none_iff_isSome.1 hmove, if_true]

/-- The causes but SILENCE stop the lift in a move and at the bridge stop. -/
theorem State.giveLiftCause_of_moving {c : LiftCause} (hc : c ≠ .silence)
    (h : s.lift.state = .raising ∨ s.lift.state = .lowering ∨ ∃ d, s.lift.state = .bridgeWait d) :
    s.giveLiftCause c = s.enterHold c := by
  obtain h | h | ⟨d, h⟩ := h
  · cases c <;> simp only [State.giveLiftCause, h]
  · cases c <;> simp only [State.giveLiftCause, h]
  · cases c with
    | silence => exact absurd rfl hc
    | _ => simp only [State.giveLiftCause, h]

theorem State.giveLiftCause_of_raised {c : LiftCause} (hc : c ≠ .silence) (hp : c ≠ .precondition)
    (h : s.lift.state = .raised) : s.giveLiftCause c = s.enterHold c := by
  cases c with
  | silence => exact absurd rfl hc
  | precondition => exact absurd rfl hp
  | _ => simp only [State.giveLiftCause, h]

theorem State.giveLiftCause_silence_of_moving (h : s.lift.state = .raising ∨ s.lift.state = .lowering) :
    s.giveLiftCause .silence = s.enterHold .silence := by
  obtain h | h := h <;> simp only [State.giveLiftCause, h]

theorem State.giveLiftCause_silence_of_relevel (h : s.lift.state = .raised) (hr : s.level.relevel ≠ none) :
    s.giveLiftCause .silence = s.enterHold .silence := by
  simp only [State.giveLiftCause, h, Option.ne_none_iff_isSome.1 hr, if_true]

/-- SILENCE stops a lift that moves or is levelled, and no other (R53, R183). -/
theorem State.giveLiftCause_silence_of_rest (h : s.lift.state ≠ .raising ∧ s.lift.state ≠ .lowering)
    (hr : s.lift.state = .raised → s.level.relevel = none) : s.giveLiftCause .silence = s := by
  obtain ⟨hraising, hlowering⟩ := h
  cases hstate : s.lift.state
  case raising => exact absurd hstate hraising
  case lowering => exact absurd hstate hlowering
  case raised => simp [State.giveLiftCause, hstate, hr hstate]
  all_goals simp only [State.giveLiftCause, hstate]

/-- PRESSURE stops a lift that moves or is raised, is added in HOLD, and reaches no other (R53, R86). -/
theorem State.giveLiftCause_pressure_of_rest
    (hmove : ¬(s.lift.state = .raising ∨ s.lift.state = .lowering ∨ ∃ d, s.lift.state = .bridgeWait d))
    (hraised : s.lift.state ≠ .raised) (hhold : s.lift.state ≠ .hold) : s.giveLiftCause .pressure = s := by
  cases hstate : s.lift.state
  case raising => exact absurd (.inl hstate) hmove
  case lowering => exact absurd (.inr (.inl hstate)) hmove
  case bridgeWait d => exact absurd (.inr (.inr ⟨d, hstate⟩)) hmove
  case raised => exact absurd hstate hraised
  case hold => exact absurd hstate hhold
  all_goals simp only [State.giveLiftCause, hstate]

theorem State.giveLiftCause_precondition_of_rest
    (hmove : ¬(s.lift.state = .raising ∨ s.lift.state = .lowering ∨ ∃ d, s.lift.state = .bridgeWait d))
    (hhold : s.lift.state ≠ .hold ∨ s.lift.move = none) : s.giveLiftCause .precondition = s := by
  cases hstate : s.lift.state
  case raising => exact absurd (.inl hstate) hmove
  case lowering => exact absurd (.inr (.inl hstate)) hmove
  case bridgeWait d => exact absurd (.inr (.inr ⟨d, hstate⟩)) hmove
  case hold =>
    have hnone : s.lift.move = none := hhold.resolve_left (not_not.2 hstate)
    simp [State.giveLiftCause, hstate, hnone]
  all_goals simp only [State.giveLiftCause, hstate]

/-- An entry to HOLD from a move or from the bridge stop is one write of the lift. -/
theorem State.enterHold_of_moving (c : LiftCause)
    (h : s.lift.state = .raising ∨ s.lift.state = .lowering ∨ ∃ d, s.lift.state = .bridgeWait d) :
    s.enterHold c = s.putLift { (s.lift.stopped .hold) with holds := LiftCauses.empty.add c }
      { s.level with relevel := none } := by
  have hlevel : s.level.leaveParking s.lift.state = s.level :=
    s.level.leaveParking_of_not_parked (by rcases h with h | h | ⟨d, h⟩ <;> simp [h])
  rw [State.enterHold_of_not_raised c (by rcases h with h | h | ⟨d, h⟩ <;> simp [h]), hlevel]

theorem State.enterHold_moving_lift (c : LiftCause)
    (h : s.lift.state = .raising ∨ s.lift.state = .lowering ∨ ∃ d, s.lift.state = .bridgeWait d) :
    (s.enterHold c).lift = { s.lift.halted .hold with holds := LiftCauses.empty.add c } ∧
      (s.enterHold c).level = { s.level with relevel := none } ∧
      Only [.lift, .level, .notices] s (s.enterHold c) := by
  rw [State.enterHold_of_moving c h, State.putLift_lift, State.putLift_level, Lift.revalve_held]
  exact ⟨rfl, rfl, s.putLift_only _ _⟩

end

/-! ### The silence supervisor expires (R183) -/

/-- The link as it takes the expiry. -/
def State.silenceTaken (s : State) : State :=
  State.notify .link { s with link := { s.link with supervisor := .expired, flags := s.link.flags.setSilence } }

section
variable {s : State}

theorem exec_silenceExpiry_of_running {length : Nat} (h : s.link.supervisor = .running length) :
    exec .silenceExpiry s = .next ((s.silenceTaken.giveLiftCause .silence).holdWork .silence .silence).testStart := by
  show Host.Outcome.next s.silenceExpires = _
  rw [State.silenceExpires, h]
  rfl

theorem exec_silenceExpiry_of_rest (h : s.link.supervisor = .stopped ∨ s.link.supervisor = .expired) :
    exec .silenceExpiry s = .next s := by
  show Host.Outcome.next s.silenceExpires = _
  obtain h | h := h <;> rw [State.silenceExpires, h]

theorem State.silenceTaken_only (s : State) : Only [.link, .notices] s s.silenceTaken :=
  ⟨rfl, fun b hb => by cases b <;> first | rfl | exact absurd (by decide) hb⟩

theorem State.silenceTaken_told (s : State) : s.silenceTaken.notices.get .link = (s.notices.get .link).event :=
  State.notify_get_self { s with link := { s.link with supervisor := .expired, flags := s.link.flags.setSilence } } _

theorem State.silenceTaken_liftKept (s : State) : s.liftKept s.silenceTaken :=
  .inl (State.notify_get_of_ne
    { s with link := { s.link with supervisor := .expired, flags := s.link.flags.setSilence } } (by decide))

theorem SourceState.event_told (x : SourceState) :
    x.event.pending = true ∨ x.masked = true ∧ x.event.missed = true := by
  unfold SourceState.event
  split
  next h => exact .inr ⟨h, rfl⟩
  next => exact .inl rfl

end

/-- Settles O14: the lift takes the cause first, then the stations and the sweeps; the test of the start condition that
follows finds no start where a station draws clear or the lift is no longer raised. -/
theorem silenceStopsMovingWork : Obligations.SilenceStopsMovingWork := by
  intro s
  refine ⟨fun length hrun => ?expires, exec_silenceExpiry_of_rest⟩
  case expires =>
    have hlink := s.silenceTaken_only
    have hgive := s.silenceTaken.giveLiftCause_only .silence
    have hhold := (s.silenceTaken.giveLiftCause .silence).holdWork_only .silence .silence
    have htest := ((s.silenceTaken.giveLiftCause .silence).holdWork .silence .silence).testStart_only
    have hquiet := ((s.silenceTaken.giveLiftCause_quiet .silence).trans
      (State.holdWork_quiet _ .silence .silence)).trans (State.testStart_quiet _)
    have hkept := (State.holdWork_liftKept (s.silenceTaken.giveLiftCause .silence) .silence .silence).trans
      (State.testStart_liftKept _)
    have hall := ((hlink.step hgive (k := [.link, .notices, .lift, .level, .stations, .axes, .capture, .context, .engine])
      (by decide) (by decide)).step hhold (List.Subset.refl _) (by decide)).step htest (List.Subset.refl _) (by decide)
    have hafter : Only [.stations, .axes, .capture, .notices, .lift, .level] (s.silenceTaken.giveLiftCause .silence)
        ((s.silenceTaken.giveLiftCause .silence).holdWork .silence .silence).testStart :=
      hhold.step htest (by decide) (by decide)
    -- The lift and Level Maintenance as the test of the start condition leaves them, when the lift is not raised.
    have hstill (h : (s.silenceTaken.giveLiftCause .silence).lift.state ≠ .raised ∨
        (s.silenceTaken.giveLiftCause .silence).level.backlog = 0) :
        ((s.silenceTaken.giveLiftCause .silence).holdWork .silence .silence).testStart =
          (s.silenceTaken.giveLiftCause .silence).holdWork .silence .silence := by
      have hl : ((s.silenceTaken.giveLiftCause .silence).holdWork .silence .silence).lift =
        (s.silenceTaken.giveLiftCause .silence).lift := hhold.2 .lift (by decide)
      have hv : ((s.silenceTaken.giveLiftCause .silence).holdWork .silence .silence).level =
        (s.silenceTaken.giveLiftCause .silence).level := hhold.2 .level (by decide)
      obtain h | h := h
      · exact State.testStart_of_not_raised (by rwa [hl])
      · exact State.testStart_of_no_backlog (by rwa [hv])
    have hlift : ((s.silenceTaken.giveLiftCause .silence).holdWork .silence .silence).lift =
      (s.silenceTaken.giveLiftCause .silence).lift := hhold.2 .lift (by decide)
    have hlevel : ((s.silenceTaken.giveLiftCause .silence).holdWork .silence .silence).level =
      (s.silenceTaken.giveLiftCause .silence).level := hhold.2 .level (by decide)
    have hrest (h : ¬(s.lift.state = .raising ∨ s.lift.state = .lowering))
        (hr : s.lift.state = .raised → s.level.relevel = none) :
        s.silenceTaken.giveLiftCause .silence = s.silenceTaken :=
      State.giveLiftCause_silence_of_rest (s := s.silenceTaken) (not_or.1 h) hr
    refine ⟨_, exec_silenceExpiry_of_running hrun, ?link, ?told, fun hmoving => ?moving, fun hraised hrel => ?relevel,
      fun hraised hnone => ?raised, fun hno => ?context, fun hstate => ?resting, fun st hno => ?work, hall⟩
    case link =>
      exact (hafter.2 .link (by decide)).trans (hgive.2 .link (by decide))
    case told =>
      rw [hquiet.2, s.silenceTaken_told]
      exact (s.notices.get .link).event_told
    case moving =>
      have hgiven := State.giveLiftCause_silence_of_moving (s := s.silenceTaken) hmoving
      obtain ⟨hl, _, _⟩ := State.enterHold_moving_lift (s := s.silenceTaken) .silence
        (hmoving.elim .inl fun h => .inr (.inl h))
      rw [← hgiven] at hl
      have hnot : s.silenceTaken.lift.state ≠ .hold := by
        have hsame : s.silenceTaken.lift.state = s.lift.state := rfl
        rcases hmoving with h | h <;> simp [hsame, h]
      have htold := s.silenceTaken.enterHold_liftTold .silence hnot
      rw [← hgiven] at htold
      refine ⟨?_, ?_, ?_, ?_, s.silenceTaken_liftKept.told (htold.after hkept)⟩
      all_goals
        rw [hstill (.inl (by rw [hl]; simp [Lift.halted])), hlift, hl]
        rfl
    case relevel =>
      have hgiven := State.giveLiftCause_silence_of_relevel (s := s.silenceTaken) hraised hrel
      obtain ⟨hl, hv, hdeparts⟩ := State.enterHold_from_raised (s := s.silenceTaken) .silence hraised
      have htold := s.silenceTaken.enterHold_liftTold .silence (by
        have hsame : s.silenceTaken.lift.state = s.lift.state := rfl
        simp [hsame, hraised])
      have hstale := hdeparts.allStale
      rw [← hgiven] at hl hv htold hstale
      have hcontext : ((s.silenceTaken.giveLiftCause .silence).holdWork .silence .silence).testStart.context =
        (s.silenceTaken.giveLiftCause .silence).context := hafter.2 .context (by decide)
      have hs := hstill (.inr (by rw [hv]))
      refine ⟨by rw [hs, hlift, hl]; rfl, by rw [hs, hlift, hl]; rfl, ?_, by rw [hs, hlift, hl]; rfl,
        by rw [hs, hlevel, hv], by rw [hs, hlevel, hv], by rw [hs, hlevel, hv]; rfl, fun i m hm => ?_,
        s.silenceTaken_liftKept.told (htold.after hkept)⟩
      · rw [hs, hlift, hl]
        exact congrArg some hraised
      · rw [State.slot, hcontext] at hm
        exact hstale i m hm
    case raised =>
      rw [State.testStart_lift_state, hlift, hrest (by simp [hraised]) fun _ => hnone]
      exact hraised
    case context =>
      have hgiven : (s.silenceTaken.giveLiftCause .silence).context = s.context ∧
          (s.silenceTaken.giveLiftCause .silence).engine = s.engine := by
        by_cases hmoving : s.lift.state = .raising ∨ s.lift.state = .lowering
        · rw [State.giveLiftCause_silence_of_moving (s := s.silenceTaken) hmoving]
          obtain ⟨_, _, honly⟩ := State.enterHold_moving_lift (s := s.silenceTaken) .silence
            (hmoving.elim .inl fun h => .inr (.inl h))
          exact ⟨honly.2 .context (by decide), honly.2 .engine (by decide)⟩
        · rw [hrest hmoving fun hraised => not_not.1 fun hrel => hno ⟨hraised, hrel⟩]
          exact ⟨rfl, rfl⟩
      exact ⟨(hafter.2 .context (by decide)).trans hgiven.1, (hafter.2 .engine (by decide)).trans hgiven.2⟩
    case resting =>
      have hnot : ¬(s.lift.state = .raising ∨ s.lift.state = .lowering) ∧ s.lift.state ≠ .raised := by
        rcases hstate with h | h | h | h | h | h | ⟨d, h⟩ <;> simp [h]
      have hg := hrest hnot.1 fun hraised => absurd hraised hnot.2
      have hs := hstill (.inl (by rw [hg]; exact hnot.2))
      rw [hs, hlift, hlevel, hg]
      exact ⟨rfl, rfl⟩
    case work =>
      have hkeptWork : (s.silenceTaken.giveLiftCause .silence).stations = s.stations ∧
          (s.silenceTaken.giveLiftCause .silence).capture = s.capture := by
        by_cases hmoving : s.lift.state = .raising ∨ s.lift.state = .lowering
        · rw [State.giveLiftCause_silence_of_moving (s := s.silenceTaken) hmoving]
          obtain ⟨_, _, honly⟩ := State.enterHold_moving_lift (s := s.silenceTaken) .silence
            (hmoving.elim .inl fun h => .inr (.inl h))
          exact ⟨honly.2 .stations (by decide), honly.2 .capture (by decide)⟩
        · rw [hrest hmoving fun hraised => not_not.1 fun hrel => hno ⟨hraised, hrel⟩]
          exact ⟨rfl, rfl⟩
      have hcut : ((s.silenceTaken.giveLiftCause .silence).holdWork .silence .silence).cut st =
          (s.cut st).given .silence := by
        rw [State.holdWork_cut, State.cut, hkeptWork.1]
        rfl
      have hsweep : ((s.silenceTaken.giveLiftCause .silence).holdWork .silence .silence).testStart.sweepOf st =
          (s.sweepOf st).pausedFor .silence := by
        rw [State.testStart_sweepOf, State.holdWork_sweepOf, State.sweepOf, hkeptWork.2]
        rfl
      refine ⟨fun hwork => ?_, fun hmotion => ?_, fun hheld => ?_, fun hpaused => ?_⟩
      · rw [State.testStart_of_holding (st := st) (by rw [hcut, CutStation.given_of_working hwork]), hcut,
          CutStation.given_of_working hwork]
        exact ⟨rfl, rfl, rfl⟩
      · rw [hsweep, Sweep.pausedFor_eq, if_pos hmotion]
      · obtain hholding | ⟨hheld, hbacklog⟩ := hheld
        · rw [State.testStart_of_holding (st := st) (by rw [hcut, CutStation.given_silence_of_held (.inl hholding)]; exact hholding),
            hcut, CutStation.given_silence_of_held (.inl hholding)]
        · have hzero : (s.silenceTaken.giveLiftCause .silence).level.backlog = 0 := by
            by_cases hmoving : s.lift.state = .raising ∨ s.lift.state = .lowering
            · rw [State.giveLiftCause_silence_of_moving (s := s.silenceTaken) hmoving,
                (State.enterHold_moving_lift (s := s.silenceTaken) .silence
                  (hmoving.elim .inl fun h => .inr (.inl h))).2.1]
              exact hbacklog
            · rw [hrest hmoving fun hraised => not_not.1 fun hrel => hno ⟨hraised, hrel⟩]
              exact hbacklog
          rw [hstill (.inr hzero), hcut, CutStation.given_silence_of_held (.inr hheld)]
      · rw [hsweep, Sweep.pausedFor_eq, if_neg (by simp [hpaused])]

/-! ### The debounced inputs (R79 to R81, R90) -/

section
variable {s : State} {i : Input}

/-- Only the waits of RETRACT and ABORTING end with the tools home (R90). -/
theorem State.testHome_of_no_wait {st : Station} (h : (s.cut st).state ≠ .retract ∧ (s.cut st).state ≠ .aborting) :
    s.testHome st = s := by
  unfold State.testHome
  split
  · split
    next hstate => exact absurd hstate h.1
    next hstate => exact absurd hstate h.2
    next => rfl
  · rfl

/-- Only the wait at the bridge stop ends with the bridges (R90). -/
theorem State.testBridges_of_no_wait (h : ∀ d, s.lift.state ≠ .bridgeWait d) : s.testBridges = s := by
  unfold State.testBridges
  split
  next hstate _ => exact absurd hstate (h .up)
  next hstate _ => exact absurd hstate (h .down)
  next => rfl

theorem State.testPressure_of_no_wait
    (h : ¬(s.lift.state = .unparking ∧ s.level.parkStep = some .pressureWait)) : s.testPressure = s :=
  if_neg fun hall => h ⟨hall.1, hall.2.1⟩

/-- An accepted change that ends no wait and is no fall that a block acts on is handed to no block. -/
theorem State.handOut_of_unheeded {rise : Bool}
    (h : rise = true ∧ i ∈ [Input.estopOk, .guardClosed, .holddownA, .holddownB, .probeParkedA, .probeParkedB] ∨
      rise = true ∧ i = .pressureOk ∧ ¬(s.lift.state = .unparking ∧ s.level.parkStep = some .pressureWait) ∨
      (∃ st : Station, rise = true ∧ i = st.toolhome ∧ (s.cut st).state ≠ .retract ∧ (s.cut st).state ≠ .aborting) ∨
      (i = .bridgeAOut ∨ i = .bridgeBOut) ∧ ∀ d, s.lift.state ≠ .bridgeWait d) : s.handOut i rise = s := by
  obtain ⟨rfl, hi⟩ | ⟨rfl, rfl, hwait⟩ | ⟨st, rfl, rfl, hretract, haborting⟩ | ⟨hi, hbridge⟩ := h
  · simp only [List.mem_cons, List.not_mem_nil, or_false] at hi
    obtain rfl | rfl | rfl | rfl | rfl | rfl := hi <;> rfl
  · exact State.testPressure_of_no_wait hwait
  · have hhome := State.testHome_of_no_wait ⟨hretract, haborting⟩
    cases st <;> exact hhome
  · have hbridges := State.testBridges_of_no_wait hbridge
    obtain rfl | rfl := hi <;> exact hbridges

theorem State.handOut_inputs (s : State) (i : Input) (rise : Bool) : (s.handOut i rise).inputs = s.inputs :=
  (s.handOut_only i rise).2 .inputs (by decide)

theorem exec_debounceExpiry_of_timer (h : (s.inputs.get i).timer ≠ .stopped) :
    exec (.debounceExpiry i) s = .next ((s.acceptLevel i).handOut i (s.inputs.get i).raw) := by
  cases htimer : (s.inputs.get i).timer with
  | stopped => exact absurd htimer h
  | running length => exact exec_debounceExpiry_of_running ⟨htimer, rfl⟩

theorem InputState.rawChange_eq (x : InputState) (level : Bool) (debounce : Nat) :
    x.rawChange level debounce = { x with
      raw := level
      timer := if level = x.accepted then .stopped
        else if x.timer = .stopped then .running debounce else x.timer } := by
  unfold InputState.rawChange
  cases x.timer with
  | stopped => rfl
  | running n => simp

end

/-- Settles O37, by the filter's own input and by what an accepted change is handed out to. -/
theorem inputsAreDebounced : Obligations.InputsAreDebounced := by
  intro i s
  refine ⟨fun level => ⟨_, rfl, ?raw, fun j hj => Twelve.get_set_other _ _ hj, ?rawOnly⟩, fun hrun => ?accepted,
    fun hrun hcase => ?unheeded, fun hstopped => ?stopped⟩
  case raw =>
    refine (Twelve.get_set_same _ _ _).trans ?_
    exact InputState.rawChange_eq _ level s.debounceMs
  case rawOnly => exact ⟨rfl, fun b hb => by cases b <;> first | rfl | exact absurd (by decide) hb⟩
  case accepted =>
    have honly := (s.acceptLevel i).handOut_only i (s.inputs.get i).raw
    have hinputs := (s.acceptLevel i).handOut_inputs i (s.inputs.get i).raw
    refine ⟨_, exec_debounceExpiry_of_timer hrun, ?_, fun j hj => ?_, ?_, honly.2 .probes (by decide),
      honly.2 .setup (by decide), honly.2 .link (by decide)⟩
    · rw [hinputs]
      exact Twelve.get_set_same _ _ _
    · rw [hinputs]
      exact Twelve.get_set_other _ _ hj
    · rw [((s.acceptLevel i).handOut_quiet i _).1, State.acceptLevel_notices, State.notify_get_self]
  case unheeded =>
    rw [exec_debounceExpiry_of_timer hrun, State.handOut_of_unheeded (s := s.acceptLevel i) hcase]
    rfl
  case stopped =>
    show Host.Outcome.next (s.debounceExpires i) = _
    rw [State.debounceExpires, hstopped]

end Sys2Proof.Machine
end

section
/-! PROOFS. Chapter 10 within the pit: what the rewriting of a bound record leaves, the treatment of a cut's entry, the
abort of a station, and an emergency stop. -/

namespace Sys2Proof.Machine

/-! ### The records in the slots -/

/-- From `s` to `t` every slot holds what it held, its working copy with it; its rank, its measurement and its dirty flag
may have changed. -/
def State.keepsRecords (s t : State) : Prop :=
  ∀ j, (t.slot j).key = (s.slot j).key ∧ (t.slot j).working = (s.slot j).working

section
variable {s t u : State}

theorem State.keepsRecords.refl (s : State) : s.keepsRecords s := fun _ => ⟨rfl, rfl⟩

theorem State.keepsRecords.trans (h : s.keepsRecords t) (k : t.keepsRecords u) : s.keepsRecords u :=
  fun j => ⟨(k j).1.trans (h j).1, (k j).2.trans (h j).2⟩

theorem State.keepsRecords_of_only {l : List Block} (h : Only l s t) (hl : Block.context ∉ l) : s.keepsRecords t := by
  intro j
  have hcontext : t.context = s.context := h.2 .context hl
  rw [State.slot, hcontext]
  exact ⟨rfl, rfl⟩

theorem State.keepsRecords_serve (s : State) : s.keepsRecords s.serve := by
  unfold State.serve
  split
  next n i rest _ _ _ =>
    intro j
    have hslot := s.setSlot_slot i j { s.slot i with dirty := false }
    have hself : (State.slot { s.setSlot i { s.slot i with dirty := false } with
      store := { s.store with service := some ⟨.write n i, (s.slot i).working⟩, waiting := rest } } j) =
        (s.setSlot i { s.slot i with dirty := false }).slot j := rfl
    rw [hself, hslot]
    split
    next h => rw [h]; exact ⟨rfl, rfl⟩
    next => exact ⟨rfl, rfl⟩
  next => exact .refl s
  next => exact .refl s

theorem State.keepsRecords_queueWrite (s : State) (n : Nat) (i : Ix) : s.keepsRecords (s.queueWrite n i) := by
  have hspoil : s.keepsRecords (s.spoilWindow n) := State.keepsRecords_of_only (s.spoilWindow_only n) (by decide)
  cases hw : s.store.writeWaiting n with
  | true => rwa [State.queueWrite_of_waiting i hw]
  | false =>
    rw [State.queueWrite_of_not_waiting i hw]
    exact hspoil.trans (State.keepsRecords_serve { s.spoilWindow n with store := _ })

theorem State.keepsRecords.boundSlot (h : s.keepsRecords t) (st : Station) : t.boundSlot st = s.boundSlot st := by
  have hbinding (i : Ix) : (t.slot i).binding = (s.slot i).binding := (Slot.key_eq_iff.1 (h i).1).2.2.2.1
  simp only [State.boundSlot, hbinding]

theorem State.keepsRecords.serial (h : s.keepsRecords t) (i : Ix) : (t.slot i).serial = (s.slot i).serial :=
  (Slot.key_eq_iff.1 (h i).1).2.1

theorem State.keepsRecords_of_departs (h : s.departs t) : s.keepsRecords t := by
  intro j
  have hslot : t.slot j =
      { s.slot j with measurement := (s.slot j).measurement.map fun m => { m with stale := true } } := by
    rw [State.slot, h.1]
    exact Four.get_map _ _ j
  rw [hslot]
  exact ⟨rfl, rfl⟩

end

/-! ### A bound record rewritten (R162, R166, R172) -/

section
variable {s : State} {st : Station} {i : Ix}

theorem State.rewriteBound_of_unbound (h : s.boundSlot st = none) (f : Record → Record) : s.rewriteBound st f = s := by
  simp [State.rewriteBound, h]

/-- The slot with its working copy changed, before its WRITE is queued. -/
def State.slotRewritten (i : Ix) (f : Record → Record) (s : State) : State :=
  s.setSlot i { s.slot i with working := (s.slot i).working.map f, dirty := true }

theorem State.rewriteBound_of_bound (h : s.boundSlot st = some i) (f : Record → Record) :
    s.rewriteBound st f = match (s.slot i).serial with
      | some n => (s.slotRewritten i f).queueWrite n i
      | none => s.slotRewritten i f := by
  simp only [State.rewriteBound, h]
  rfl

theorem State.rewriteBound_of_serial {n : Nat} (h : s.boundSlot st = some i) (hn : (s.slot i).serial = some n)
    (f : Record → Record) : s.rewriteBound st f = (s.slotRewritten i f).queueWrite n i := by
  rw [State.rewriteBound_of_bound h, hn]

theorem State.slotRewritten_slot (s : State) (i j : Ix) (f : Record → Record) :
    (s.slotRewritten i f).slot j =
      if j = i then { s.slot i with working := (s.slot i).working.map f, dirty := true } else s.slot j :=
  s.setSlot_slot i j _

/-- The slot rewritten holds what it held but for its working copy, and every other slot what it held. -/
theorem State.rewriteBound_records (h : s.boundSlot st = some i) (f : Record → Record) (j : Ix) :
    ((s.rewriteBound st f).slot j).key = (s.slot j).key ∧
      ((s.rewriteBound st f).slot j).working =
        if j = i then (s.slot i).working.map f else (s.slot j).working := by
  have hkept : (s.slotRewritten i f).keepsRecords (s.rewriteBound st f) := by
    rw [State.rewriteBound_of_bound h]
    split
    · exact State.keepsRecords_queueWrite _ _ i
    · exact .refl _
  rw [(hkept j).1, (hkept j).2, State.slotRewritten_slot]
  split
  next hj => rw [hj]; exact ⟨rfl, rfl⟩
  next => exact ⟨rfl, rfl⟩

theorem State.rewriteBound_key (s : State) (st : Station) (f : Record → Record) (j : Ix) :
    ((s.rewriteBound st f).slot j).key = (s.slot j).key := by
  cases h : s.boundSlot st with
  | none => rw [State.rewriteBound_of_unbound h]
  | some i => exact (State.rewriteBound_records h f j).1

/-- The records and the place table are as they were, and no request has left the FIFO. -/
theorem State.rewriteBound_store (s : State) (st : Station) (f : Record → Record) :
    s.store.sameRecords (s.rewriteBound st f).store ∧
      ∀ r ∈ s.store.fifo, r ∈ (s.rewriteBound st f).store.fifo := by
  cases h : s.boundSlot st with
  | none =>
    rw [State.rewriteBound_of_unbound h]
    exact ⟨⟨rfl, rfl, rfl, rfl, rfl⟩, fun r hr => hr⟩
  | some i =>
    rw [State.rewriteBound_of_bound h]
    split
    · refine ⟨State.queueWrite_sameRecords (s := s.slotRewritten i f), fun r hr => ?_⟩
      rw [State.queueWrite_fifo]
      exact List.mem_append_left _ hr
    · exact ⟨⟨rfl, rfl, rfl, rfl, rfl⟩, fun r hr => hr⟩

/-- A WRITE of the record is in the FIFO. -/
theorem State.rewriteBound_queued {n : Nat} (h : s.boundSlot st = some i) (hn : (s.slot i).serial = some n)
    (f : Record → Record) : ∃ j, Request.write n j ∈ (s.rewriteBound st f).store.fifo := by
  rw [State.rewriteBound_of_serial h hn, State.queueWrite_fifo]
  cases hw : (s.slotRewritten i f).store.writeWaiting n with
  | true =>
    obtain ⟨j, hj⟩ := (Store.writeWaiting_iff _ n).1 hw
    exact ⟨j, List.mem_append_left _ (List.mem_append_right _ hj)⟩
  | false => exact ⟨i, List.mem_append_right _ (by simp)⟩

end

/-- A WRITE queued for a dirty slot is a write-back from any state with the same store. -/
theorem State.queueWrite_writesBack {s u : State} {n : Nat} {i : Ix} (hserved : s.store.fifoServed)
    (hstore : u.store = s.store) (hdirty : (u.slot i).dirty = true) : s.writesBack (u.queueWrite n i) n i [] := by
  have userved : u.store.fifoServed := by rwa [hstore]
  obtain ⟨hplaces, htable, hscanned, hresults, hlost⟩ := State.queueWrite_sameRecords (s := u) (n := n) (i := i)
  rw [hstore] at hplaces htable hscanned hresults hlost
  have hself := State.queueWrite_slot_self (n := n) (i := i) userved
  rw [hstore] at hself
  refine ⟨?_, State.queueWrite_fifoServed userved, fun r hr => State.queueWrite_service (by rwa [hstore]), fun hat => ?_,
    ?_, fun m => ?_, hplaces, htable, hscanned, hresults, hlost⟩
  · rw [State.queueWrite_fifo, hstore, List.append_nil]
  · have uat : u.store.servesAtOnce = true := by rw [hstore]; exact hat
    rw [State.queueWrite_service_of_servesAtOnce userved uat, hself]
  · rw [hself, hdirty, Bool.true_and]
    rfl
  · rw [State.queueWrite_record, hstore]

/-- A write-back reads of its end the store, and of the slot the working copy and the dirty flag. -/
theorem State.writesBack.of_eq {s s' t t' : State} {n : Nat} {i : Ix} {l : List Request} (h : s.writesBack t n i l)
    (hs : s'.store = s.store) (ht : t'.store = t.store) (hw : (t'.slot i).working = (t.slot i).working)
    (hd : (t'.slot i).dirty = (t.slot i).dirty) : s'.writesBack t' n i l := by
  unfold State.writesBack
  rw [hs, ht, hw, hd]
  exact h

section
variable {s : State} {st : Station} {i : Ix} {n : Nat} {r : Record} (hserved : s.store.fifoServed)
  (hb : s.boundSlot st = some i) (hn : (s.slot i).serial = some n) (hr : (s.slot i).working = some r)
include hserved hb hn

theorem State.rewriteBound_writesBack (f : Record → Record) : s.writesBack (s.rewriteBound st f) n i [] := by
  rw [State.rewriteBound_of_serial hb hn]
  refine State.queueWrite_writesBack hserved rfl ?_
  rw [State.slotRewritten_slot, if_pos rfl]

theorem State.rewriteBound_slot_of_ne (f : Record → Record) {j : Ix} (hj : j ≠ i) :
    (s.rewriteBound st f).slot j = s.slot j := by
  rw [State.rewriteBound_of_serial hb hn, State.queueWrite_slot_of_ne (s := s.slotRewritten i f) hserved hj,
    State.slotRewritten_slot, if_neg hj]

theorem State.rewriteBound_results (f : Record → Record) :
    (s.rewriteBound st f).context.results = s.context.results ∧
      (s.rewriteBound st f).context.resultsLost = s.context.resultsLost := by
  rw [State.rewriteBound_of_serial hb hn, State.queueWrite_results (s := s.slotRewritten i f) hserved,
    State.queueWrite_resultsLost (s := s.slotRewritten i f) hserved]
  exact ⟨rfl, rfl⟩

include hr

theorem State.rewriteBound_slot_self (f : Record → Record) : (s.rewriteBound st f).slot i =
    { s.slot i with working := some (f r), dirty := !(s.store.scanned && s.store.service.isNone) } := by
  rw [State.rewriteBound_of_serial hb hn, State.queueWrite_slot_self (s := s.slotRewritten i f) hserved,
    State.slotRewritten_slot, if_pos rfl, hr]
  rfl

end

/-! ### The entry of a cut that ends (R166, R172) -/

theorem Entry.finishCut_of_inProgress {e : Entry} {c : CutPart} (h : e.kind = .cut c) (hc : c.outcome = .inProgress)
    (o : CutOutcome) (done : Nat) (after : Pair (Option Int)) :
    e.finishCut o done after =
      { e with kind := .cut { c with outcome := o, completed := done, afterRadius := after } } := by
  simp only [Entry.finishCut, h, hc, if_true]

/-- What the treatment of an abort makes of a record, by whether a pass has entered CUTTING (R172, step 1). -/
def CutStation.treatsTo (x : CutStation) (r : Record) (w : Option Record) : Prop :=
  (∀ rest e c, x.entered = true → r.entries = rest ++ [e] → e.kind = .cut c → c.outcome = .inProgress →
    w = some { r with
      entries := rest ++ [{ e with kind := .cut { c with
        outcome := .aborted, completed := x.completed, afterRadius := ⟨none, none⟩ } }] }) ∧
  ∀ kept, x.entered = false → x.preCut = some kept →
    w = some { r with lastRadius := kept.lastRadius, entries := kept.entries }

theorem CutStation.treatEntry_treatsTo (x : CutStation) (r : Record) : x.treatsTo r (some (x.treatEntry r)) := by
  refine ⟨fun rest e c hentered hr he hc => ?_, fun kept hentered hkept => ?_⟩
  · rw [CutStation.treatEntry, if_pos hentered, Record.mapNewest_of_snoc hr, Entry.finishCut_of_inProgress he hc]
  · rw [CutStation.treatEntry, hentered, hkept]
    rfl

/-! ### The tools home (R90, R165, R172, R174) -/

section
variable (s : State) (st : Station)

theorem State.putCut_cut_self (x : CutStation) : (s.putCut st x).cut st = x := (s.putCut_cut st st x).trans (if_pos rfl)

theorem State.treatCut_plan : (s.treatCut st).plan st = none ∧ (s.treatCut st).plan st.other = s.plan st.other := by
  have hplans : (s.rewriteBound st (s.cut st).treatEntry).plans = s.plans :=
    (s.rewriteBound_only st _).2 .plans (by decide)
  obtain ⟨hself, hother⟩ := (s.rewriteBound st (s.cut st).treatEntry).removePlan_plan st
  refine ⟨hself, hother.trans ?_⟩
  rw [State.plan, hplans, State.plan]

theorem State.treatCut_rewrites :
    Only [.plans, .notices] (s.rewriteBound st (s.cut st).treatEntry) (s.treatCut st) := State.removePlan_only _ st

theorem State.treatCut_stations : (s.treatCut st).stations = s.stations := (s.treatCut_only st).2 .stations (by decide)

/-- Tools sent home, and the rollers stopped but where a recovery begins (R172, R174). -/
theorem State.enterAborting_of_away (k : AbortKind) (h : s.level? st.toolhome = false) :
    s.enterAborting k st =
      let s1 := s.putCut st { s.cut st with state := .aborting, abortKind := k, holds := CutCauses.empty }
      if k = .cut then s1.sendHome st else s1.driveTool st .home := by
  have honly : Only [.stations, .axes, .notices] s
      (if k = .cut then (s.putCut st { s.cut st with
          state := .aborting
          abortKind := k
          holds := CutCauses.empty }).sendHome st
        else (s.putCut st { s.cut st with
          state := .aborting
          abortKind := k
          holds := CutCauses.empty }).driveTool st .home) :=
    Only.ite ((s.putCut_only st _).step (State.sendHome_only _ st) (by decide) (by decide))
      ((s.putCut_only st _).step (State.driveTool_only _ st _) (by decide) (by decide))
  refine if_neg ?_
  rw [State.level?_of_only honly (by decide), h]
  exact Bool.false_ne_true

end

/-- What an abort leaves of a station whose tools are not home (R172). -/
theorem State.enterAborting_cut_away {s : State} {st : Station} (h : s.level? st.toolhome = false) :
    (s.enterAborting .cut st).cut st =
        { s.cut st with state := .aborting, abortKind := .cut, holds := CutCauses.empty } ∧
      (s.enterAborting .cut st).axes =
        { s.axes with roller := s.axes.roller.set st .stop, tool := s.axes.tool.set st .home } ∧
      (s.enterAborting .cut st).stations =
        s.stations.set st { s.cut st with state := .aborting, abortKind := .cut, holds := CutCauses.empty } ∧
      Only [.stations, .axes, .notices] s (s.enterAborting .cut st) := by
  have haxes : (s.putCut st { s.cut st with
      state := .aborting
      abortKind := .cut
      holds := CutCauses.empty }).axes = s.axes := (s.putCut_only st _).2 .axes (by decide)
  rw [s.enterAborting_of_away st .cut h]
  refine ⟨s.putCut_cut_self st _, ?_, State.putCut_stations s st _,
    (s.putCut_only st _).step (State.sendHome_only _ st) (by decide) (by decide)⟩
  simp only [State.sendHome, State.driveRoller_axes, State.driveTool_axes, if_true, haxes]

/-- The state in which a station has entered ABORTING and its tools have been sent home. -/
def State.sentHome (s : State) (st : Station) : State :=
  (s.putCut st { s.cut st with state := .aborting, abortKind := .cut, holds := CutCauses.empty }).sendHome st

theorem State.sentHome_only (s : State) (st : Station) : Only [.stations, .axes, .notices] s (s.sentHome st) :=
  (s.putCut_only st _).step (State.sendHome_only _ st) (by decide) (by decide)

theorem State.sentHome_cut (s : State) (st : Station) : (s.sentHome st).cut st =
    { s.cut st with state := .aborting, abortKind := .cut, holds := CutCauses.empty } := s.putCut_cut_self st _

/-- With the tools home the abort completes at once. -/
theorem State.enterAborting_cut_home {s : State} {st : Station} (h : s.level? st.toolhome = true) :
    s.enterAborting .cut st = (s.sentHome st).completeAbort st := by
  have hhome : (s.sentHome st).level? st.toolhome = true := by
    rw [State.level?_of_only (s.sentHome_only st) (by decide), h]
  have hstate : ((s.sentHome st).cut st).state = .aborting := by rw [s.sentHome_cut]
  show (s.sentHome st).testHome st = _
  simp only [State.testHome, hhome, hstate, if_true]

/-- An abort of kind CUT that completes (R172). -/
theorem State.completeAbort_of_cut {s : State} {st : Station} (h : (s.cut st).abortKind = .cut) :
    s.completeAbort st =
      (s.treatCut st).putCut st { s.cut st with state := .idle, abortKind := .none, preCut := none } := by
  have hcut : (s.treatCut st).cut st = s.cut st := by rw [State.cut, State.treatCut_stations, State.cut]
  simp only [State.completeAbort, h, if_true, hcut]

theorem State.completeAbort_of_recovery {s : State} {st : Station} (h : (s.cut st).abortKind ≠ .cut) :
    s.completeAbort st = s.putCut st { s.cut st with state := .idle, abortKind := .none } := by
  simp only [State.completeAbort, if_neg h]

/-- What an abort leaves of a station whose tools are home (R172). -/
theorem State.enterAborting_cut_home_rest {s : State} {st : Station} (h : s.level? st.toolhome = true) :
    (s.enterAborting .cut st).cut st =
        { s.cut st with state := .idle, abortKind := .none, holds := CutCauses.empty, preCut := none } ∧
      (s.enterAborting .cut st).plan st = none ∧ (s.enterAborting .cut st).plan st.other = s.plan st.other := by
  have hkind : ((s.sentHome st).cut st).abortKind = .cut := by rw [s.sentHome_cut]
  rw [State.enterAborting_cut_home h, State.completeAbort_of_cut hkind]
  have hplans : ∀ x, (((s.sentHome st).treatCut st).putCut st x).plans = ((s.sentHome st).treatCut st).plans :=
    fun x => (State.putCut_only _ st x).2 .plans (by decide)
  have hbefore : (s.sentHome st).plans = s.plans := (s.sentHome_only st).2 .plans (by decide)
  obtain ⟨hself, hother⟩ := (s.sentHome st).treatCut_plan st
  refine ⟨?_, ?_, ?_⟩
  · rw [State.putCut_cut_self, s.sentHome_cut]
  · rw [State.plan, hplans]
    exact hself
  · rw [State.plan, hplans]
    refine hother.trans ?_
    rw [State.plan, hbefore, State.plan]

theorem State.enterAborting_plan_other (s : State) (st : Station) :
    (s.enterAborting .cut st).plan st.other = s.plan st.other := by
  cases h : s.level? st.toolhome with
  | false =>
    obtain ⟨_, _, _, honly⟩ := State.enterAborting_cut_away h
    have hplans : (s.enterAborting .cut st).plans = s.plans := honly.2 .plans (by decide)
    rw [State.plan, hplans, State.plan]
  | true => exact (State.enterAborting_cut_home_rest h).2.2

/-! ### An accepted fall of PRESSURE_OK, of TOOLHOME_x and of PROBE_PARKED_x (R86, R89) -/

section
variable {s : State} {i : Input}

theorem State.handOut_precondition
    (hi : i ∈ [Input.toolhomeA, .toolhomeB, .probeParkedA, .probeParkedB]) :
    s.handOut i false = s.giveLiftCause .precondition := by
  simp only [List.mem_cons, List.not_mem_nil, or_false] at hi
  obtain rfl | rfl | rfl | rfl := hi <;> rfl

theorem State.handOut_level? (s : State) (i j : Input) (rise : Bool) : (s.handOut i rise).level? j = s.level? j := by
  rw [State.level?, State.handOut_inputs, State.level?]

theorem State.accepted_level? {raw : Bool} (h : (s.inputs.get i).raw = raw) (rise : Bool) :
    ((s.acceptLevel i).handOut i rise).level? i = raw := by
  rw [State.handOut_level?, State.acceptLevel_level?_self, h]

/-- A cause that stops a lift in a move (R53). -/
theorem State.handOut_of_moving {c : LiftCause} (hc : c ≠ .silence)
    (hout : (s.acceptLevel i).handOut i false = (s.acceptLevel i).giveLiftCause c)
    (hmoves : s.lift.state = .raising ∨ s.lift.state = .lowering ∨ ∃ d, s.lift.state = .bridgeWait d) :
    ((s.acceptLevel i).handOut i false).lift =
        { s.lift.halted .hold with holds := LiftCauses.empty.add c } ∧
      ((s.acceptLevel i).handOut i false).level = { s.level with relevel := none } ∧
      s.liftTold ((s.acceptLevel i).handOut i false) ∧
      Only [.lift, .level, .inputs, .notices] s ((s.acceptLevel i).handOut i false) := by
  obtain ⟨hlift, hlevel, honly⟩ := State.enterHold_moving_lift (s := s.acceptLevel i) c hmoves
  have hnot : (s.acceptLevel i).lift.state ≠ .hold := by
    rw [State.acceptLevel_lift]
    rcases hmoves with h | h | ⟨d, h⟩ <;> simp [h]
  rw [hout, State.giveLiftCause_of_moving (s := s.acceptLevel i) hc hmoves]
  exact ⟨hlift, hlevel, (s.acceptLevel_liftKept i).told (State.enterHold_liftTold _ c hnot),
    (s.acceptLevel_only i).step honly (by decide) (by decide)⟩

/-- A cause added in HOLD (R53). -/
theorem State.addLiftCause_rest (s : State) (c : LiftCause) :
    (s.addLiftCause c).lift.state = s.lift.state ∧ (s.addLiftCause c).lift.holds = s.lift.holds.add c ∧
      (s.addLiftCause c).lift.move = s.lift.move ∧ Only [.lift, .notices] s (s.addLiftCause c) := by
  have hlift : (s.addLiftCause c).lift = ({ s.lift with holds := s.lift.holds.add c } : Lift).revalve s.level.relevel :=
    State.putLift_lift ..
  rw [hlift]
  exact ⟨rfl, rfl, rfl, s.putLift_only_lift _⟩

end

/-! ### An accepted fall of GUARD_CLOSED (R87) -/

/-- A cause other than LEVEL stays in the set of a station from which LEVEL is taken. -/
theorem CutStation.released_guard {x : CutStation} (h : x.holds.guard = true) :
    x.released.state = x.state ∧ x.released.holds.guard = true := by
  have hnot : ¬(x.state = .held ∧ { x.holds with level := false } = CutCauses.empty) := fun hx => by
    have hguard := congrArg CutCauses.guard hx.2
    simp [CutCauses.empty, h] at hguard
  rw [CutStation.released, if_neg hnot]
  exact ⟨rfl, h⟩

/-- Settles O39: PRESSURE_OK, the preconditions, the guard and the clamps, each by what the accepted fall is handed out
to. -/
theorem guardAndClampFallsStopWork : Obligations.GuardAndClampFallsStopWork := by
  intro s length moves
  refine ⟨fun hrun hraw => ?pressure, fun i hi hrun hraw => ?precondition, fun hrun hraw => ?guard,
    fun st hrun hraw => ?clamp⟩
  case pressure =>
    have hacc := s.acceptLevel_only .pressureOk
    refine ⟨_, exec_debounceExpiry_of_running ⟨hrun, hraw⟩, State.accepted_level? hraw false, fun hmoves => ?moving,
      fun hraised => ?raised, fun hhold => ?hold, fun hno hnot hnothold => ?rest⟩
    case moving => exact State.handOut_of_moving (c := .pressure) nofun rfl hmoves
    case raised =>
      have hgive : (s.acceptLevel .pressureOk).handOut .pressureOk false =
          (s.acceptLevel .pressureOk).enterHold .pressure :=
        State.giveLiftCause_of_raised (s := s.acceptLevel .pressureOk) nofun nofun hraised
      obtain ⟨hlift, hlevel, hdeparts⟩ := State.enterHold_from_raised (s := s.acceptLevel .pressureOk) .pressure hraised
      have hnot : (s.acceptLevel .pressureOk).lift.state ≠ .hold := by
        rw [State.acceptLevel_lift, hraised]
        exact nofun
      have htold := (s.acceptLevel_liftKept .pressureOk).told (State.enterHold_liftTold _ .pressure hnot)
      have hdep : s.departs ((s.acceptLevel .pressureOk).enterHold .pressure) := hdeparts
      rw [hgive]
      exact ⟨hlift, hlevel, hdep.allStale, fun _ => hdep.cut_holding, fun st => (hdep.2.2.1 st).2.1,
        fun st hmotion => (hdep.2.2.2 st).trans (if_pos hmotion), hdep, htold,
        hacc.step (State.enterHold_only _ .pressure) (by decide) (by decide)⟩
    case hold =>
      have hgive : (s.acceptLevel .pressureOk).handOut .pressureOk false =
          (s.acceptLevel .pressureOk).addLiftCause .pressure :=
        State.giveLiftCause_of_hold (s := s.acceptLevel .pressureOk) hhold (.inr (.inl rfl))
      obtain ⟨hstate, hholds, hmove, honly⟩ := (s.acceptLevel .pressureOk).addLiftCause_rest .pressure
      rw [hgive]
      exact ⟨hstate.trans hhold, hholds, hmove, hacc.step honly (by decide) (by decide)⟩
    case rest =>
      have hgive : (s.acceptLevel .pressureOk).handOut .pressureOk false = s.acceptLevel .pressureOk :=
        State.giveLiftCause_pressure_of_rest (s := s.acceptLevel .pressureOk) hno hnot hnothold
      rw [hgive]
      exact hacc
  case precondition =>
    have hacc := s.acceptLevel_only i
    have hout := State.handOut_precondition (s := s.acceptLevel i) hi
    refine ⟨_, exec_debounceExpiry_of_running ⟨hrun, hraw⟩, State.accepted_level? hraw false,
      fun hmoves => State.handOut_of_moving (c := .precondition) nofun hout hmoves,
      fun hhold hmove => ?_, fun hno hrest => ?_⟩
    · obtain ⟨hstate, hholds, hkept, honly⟩ := (s.acceptLevel i).addLiftCause_rest .precondition
      rw [hout, State.giveLiftCause_of_hold (s := s.acceptLevel i) hhold (.inr (.inr ⟨rfl, hmove⟩))]
      exact ⟨hstate.trans hhold, hholds, hkept, hacc.step honly (by decide) (by decide)⟩
    · rw [hout, State.giveLiftCause_precondition_of_rest (s := s.acceptLevel i) hno hrest]
      exact hacc
  case guard =>
    have hexec := exec_debounceExpiry_of_running (i := .guardClosed) ⟨hrun, hraw⟩
    have hlevel := State.accepted_level? (i := .guardClosed) hraw false
    have hout : (s.acceptLevel .guardClosed).handOut .guardClosed false =
      ((s.acceptLevel .guardClosed).holdWork .guard .guard).testStart := rfl
    have hall : Only [.inputs, .notices, .stations, .axes, .capture, .lift, .level] s
        ((s.acceptLevel .guardClosed).holdWork .guard .guard).testStart :=
      ((s.acceptLevel_only .guardClosed).step (State.holdWork_only _ .guard .guard)
        (show _ ⊆ [.inputs, .notices, .stations, .axes, .capture, .lift, .level] by decide) (by decide)).step
        (State.testStart_only _) (List.Subset.refl _) (by decide)
    have hcut (st : Station) : ((s.acceptLevel .guardClosed).holdWork .guard .guard).cut st = (s.cut st).given .guard :=
      State.holdWork_cut _ .guard .guard st
    have hliftState : ((s.acceptLevel .guardClosed).holdWork .guard .guard).testStart.lift.state = s.lift.state := by
      have hkept : ((s.acceptLevel .guardClosed).holdWork .guard .guard).lift = s.lift :=
        (State.holdWork_only _ .guard .guard).2 .lift (by decide)
      rw [State.testStart_lift_state, hkept]
    refine ⟨_, hexec, hlevel, fun st hwork => ?work, fun st hheld => ?held, fun st hmotion => ?sweep, ?lift,
      ?context, ?store, ?plans⟩
    case work =>
      have hheld := CutStation.given_of_working hwork .guard
      rw [hout, State.testStart_of_holding (st := st) (by rw [hcut, hheld]), hcut, hheld]
      exact ⟨rfl, rfl, rfl⟩
    case held =>
      have hgiven := CutStation.given_of_held hheld (c := .guard) nofun
      have hfrees := (((s.acceptLevel .guardClosed).holdWork .guard .guard).testStart_freesStation st).1
      rw [hcut, hgiven] at hfrees
      rw [hout]
      obtain hsame | hreleased := hfrees
      · rw [hsame]
        exact ⟨rfl, rfl⟩
      · rw [hreleased]
        exact CutStation.released_guard rfl
    case sweep =>
      rw [hout, State.testStart_sweepOf, State.holdWork_sweepOf]
      exact ((s.sweepOf st).pausedFor_eq .guard).trans (if_pos hmotion)
    case lift => exact hliftState
    case context => exact hall.2 .context (by decide)
    case store => exact hall.2 .store (by decide)
    case plans => exact hall.2 .plans (by decide)
  case clamp =>
    have hexec := exec_debounceExpiry_of_running (i := st.holddown) ⟨hrun, hraw⟩
    have hlevel := State.accepted_level? (i := st.holddown) hraw false
    have hout : (s.acceptLevel st.holddown).handOut st.holddown false =
        (s.acceptLevel st.holddown).holddownFalls st := by
      cases st <;> rfl
    have hhome : (s.acceptLevel st.holddown).level? st.toolhome = s.level? st.toolhome :=
      s.acceptLevel_level?_of_ne _ (by cases st <;> decide)
    have hfalls : (s.acceptLevel st.holddown).holddownFalls st =
        (if (s.cut st).state.inWork = true then ((s.acceptLevel st.holddown).enterAborting .cut st).testStart
        else if (s.cut st).state = .held then (s.acceptLevel st.holddown).enterAborting .cut st
        else s.acceptLevel st.holddown) := by
      show (match (s.cut st).state with
        | .approach => ((s.acceptLevel st.holddown).enterAborting .cut st).testStart
        | .cutting => ((s.acceptLevel st.holddown).enterAborting .cut st).testStart
        | .holding => ((s.acceptLevel st.holddown).enterAborting .cut st).testStart
        | .held => (s.acceptLevel st.holddown).enterAborting .cut st
        | _ => s.acceptLevel st.holddown) = _
      cases (s.cut st).state <;> rfl
    -- What the abort leaves, the test of the start condition after it or not.
    have habort (t : State) (ht : State.freesStation st ((s.acceptLevel st.holddown).enterAborting .cut st) t)
        (hplans : t.plans = ((s.acceptLevel st.holddown).enterAborting .cut st).plans) :
        (s.level? st.toolhome = false →
          (t.cut st).state = .aborting ∧ (t.cut st).abortKind = .cut ∧ (t.cut st).holds = CutCauses.empty ∧
            t.axes.tool.get st = .home ∧ t.axes.roller.get st = .stop) ∧
        (s.level? st.toolhome = true → (t.cut st).state = .idle ∧ t.plan st = none) := by
      refine ⟨fun haway => ?_, fun hat => ?_⟩
      · obtain ⟨hcut, haxes, _⟩ := State.enterAborting_cut_away (st := st) (hhome.trans haway)
        obtain ⟨hfree, hdrives⟩ := ht
        obtain ⟨htool, hroller⟩ := hdrives (by rw [hcut]; exact nofun)
        rw [haxes] at htool hroller
        refine ⟨?_, ?_, ?_, htool.trans (Two.get_set_same _ st _), hroller.trans (Two.get_set_same _ st _)⟩
        all_goals
          obtain hsame | hreleased := hfree
          · rw [hsame, hcut]
          · rw [hreleased, hcut]
            rfl
      · obtain ⟨hcut, hplan, _⟩ := State.enterAborting_cut_home_rest (st := st) (hhome.trans hat)
        refine ⟨?_, by rw [State.plan, hplans]; exact hplan⟩
        obtain hsame | hreleased := ht.1
        · rw [hsame, hcut]
        · rw [hreleased, hcut]
          rfl
    have hlift : ((s.acceptLevel st.holddown).enterAborting .cut st).lift = s.lift :=
      (State.enterAborting_only _ .cut st).2 .lift (by decide)
    have hcapture : ((s.acceptLevel st.holddown).enterAborting .cut st).capture = s.capture :=
      (State.enterAborting_only _ .cut st).2 .capture (by decide)
    have hplanOther := (s.acceptLevel st.holddown).enterAborting_plan_other st
    have hstart := State.testStart_only ((s.acceptLevel st.holddown).enterAborting .cut st)
    have hstartPlans := hstart.2 .plans (by decide)
    refine ⟨_, hexec, hlevel, ?_⟩
    rw [hout, hfalls]
    by_cases hwork : (s.cut st).state.inWork = true
    · rw [if_pos hwork]
      refine ⟨fun _ => habort _ (State.testStart_freesStation _ st) hstartPlans, fun hno => ?_, ?_, ?_, ?_⟩
      · rw [hwork] at hno; cases hno
      · rw [State.plan, hstartPlans]; exact hplanOther
      · rw [State.testStart_lift_state, hlift]
      · exact (hstart.2 .capture (by decide)).trans hcapture
    · rw [if_neg hwork]
      by_cases hheld : (s.cut st).state = .held
      · rw [if_pos hheld]
        exact ⟨fun _ => habort _ .refl rfl, fun _ hno => absurd hheld hno, hplanOther, by rw [hlift], hcapture⟩
      · rw [if_neg hheld]
        exact ⟨fun h => (h.elim hwork hheld).elim, fun _ _ => rfl, rfl, rfl, rfl⟩

end Sys2Proof.Machine
end

section
/-! PROOFS. An emergency stop (R53, R75, R85, R173): what it makes of a station, of the other station, of the sweeps and
of the lift. -/

namespace Sys2Proof.Machine

/-! ### A station stopped (R173) -/

/-- A cut is under way at a station that is not at rest and is not on its way home for recovery. -/
def CutStation.underWay (x : CutStation) : Prop :=
  x.state ≠ .idle ∧ x.state ≠ .stopped ∧ ¬(x.state = .aborting ∧ x.abortKind = .recovery)

/-- What an emergency stop of `st` makes of that station: its record treated and its plan removed where a cut is under
way. -/
structure State.stopsStation (st : Station) (s t : State) : Prop where
  rest : (s.cut st).state = .idle ∨ (s.cut st).state = .stopped → t.cut st = s.cut st
  halted : ¬((s.cut st).state = .idle ∨ (s.cut st).state = .stopped) →
    (t.cut st).state = .stopped ∧ (t.cut st).holds = CutCauses.empty ∧ (t.cut st).abortKind = .none ∧
      (t.cut st).heldAt = none ∧ t.axes.roller.get st = .stop ∧
      t.axes.tool.get st = .position (s.cut st).toolLateral (s.cut st).toolRadius
  plan : (s.cut st).underWay → t.plan st = none
  treated : ∀ i n r, s.boundSlot st = some i → (s.slot i).serial = some n → (s.slot i).working = some r →
    (s.cut st).underWay → (t.cut st).preCut = none ∧ (∃ j, .write n j ∈ t.store.fifo) ∧
      (t.slot i).working = some ((s.cut st).treatEntry r)
  kept : ∀ i r, s.boundSlot st = some i → (s.slot i).working = some r → ¬(s.cut st).underWay →
    (t.slot i).working = some r ∧ (t.cut st).preCut = (s.cut st).preCut

/-- From `s` to `t` a station, its plan, its drives and the record bound to it have stayed, and no request has left the
FIFO. -/
structure State.sparesStation (st : Station) (s t : State) : Prop where
  cut : t.cut st = s.cut st
  plan : t.plan st = s.plan st
  drives : State.sameDrives st s t
  record : ∀ i, s.boundSlot st = some i → t.boundSlot st = some i ∧ (t.slot i).serial = (s.slot i).serial ∧
    (t.slot i).working = (s.slot i).working
  fifo : ∀ r ∈ s.store.fifo, r ∈ t.store.fifo

section
variable {s t u : State} {st : Station}

theorem State.sparesStation.refl : State.sparesStation st s s :=
  ⟨rfl, rfl, ⟨rfl, rfl⟩, fun _ h => ⟨h, rfl, rfl⟩, fun _ h => h⟩

/-- A stop of a station spared before it and after it. -/
theorem State.stopsStation.after (h : State.sparesStation st s t) (k : State.stopsStation st t u) :
    State.stopsStation st s u := by
  obtain ⟨hcut, -, -, hrecord, -⟩ := h
  obtain ⟨krest, khalted, kplan, ktreated, kkept⟩ := k
  rw [hcut] at krest khalted kplan ktreated kkept
  refine ⟨krest, khalted, kplan, fun i n r hb hn hr hw => ?_, fun i r hb hr hw => ?_⟩
  · obtain ⟨tb, tn, tr⟩ := hrecord i hb
    exact ktreated i n r tb (tn.trans hn) (tr.trans hr) hw
  · obtain ⟨tb, -, tr⟩ := hrecord i hb
    exact kkept i r tb (tr.trans hr) hw

theorem State.stopsStation.before (h : State.stopsStation st s t) (k : State.sparesStation st t u)
    (hbound : t.boundSlot st = s.boundSlot st) : State.stopsStation st s u := by
  obtain ⟨hrest, hhalted, hplan, htreated, hkept⟩ := h
  obtain ⟨kcut, kplan, ⟨ktool, kroller⟩, krecord, kfifo⟩ := k
  refine ⟨fun hr => kcut.trans (hrest hr), fun hr => ?_, fun hw => kplan.trans (hplan hw),
    fun i n r hb hn hr hw => ?_, fun i r hb hr hw => ?_⟩
  · rw [kcut, ktool, kroller]
    exact hhalted hr
  · obtain ⟨hpre, ⟨j, hj⟩, hworking⟩ := htreated i n r hb hn hr hw
    exact ⟨by rw [kcut, hpre], ⟨j, kfifo _ hj⟩, (krecord i (hbound.trans hb)).2.2.trans hworking⟩
  · obtain ⟨hworking, hpre⟩ := hkept i r hb hr hw
    exact ⟨(krecord i (hbound.trans hb)).2.2.trans hworking, by rw [kcut, hpre]⟩

end

section
variable (s : State) (st : Station)

theorem State.treatCut_records (i : Ix) (h : s.boundSlot st = some i) (j : Ix) :
    ((s.treatCut st).slot j).key = (s.slot j).key ∧
      ((s.treatCut st).slot j).working =
        if j = i then (s.slot i).working.map (s.cut st).treatEntry else (s.slot j).working := by
  have hkept := State.keepsRecords_of_only (s.treatCut_rewrites st) (by decide)
  rw [(hkept j).1, (hkept j).2]
  exact State.rewriteBound_records h _ j

theorem State.treatCut_key (j : Ix) : ((s.treatCut st).slot j).key = (s.slot j).key := by
  have hkept := State.keepsRecords_of_only (s.treatCut_rewrites st) (by decide)
  rw [(hkept j).1]
  exact s.rewriteBound_key st _ j

theorem State.treatCut_store : (s.treatCut st).store = (s.rewriteBound st (s.cut st).treatEntry).store :=
  (s.treatCut_rewrites st).2 .store (by decide)

/-- The station as an emergency stop leaves it. -/
def CutStation.stoppedShort (x : CutStation) : CutStation :=
  { x with
    state := .stopped
    holds := CutCauses.empty
    heldAt := none
    abortKind := .none
    preCut := if ¬(x.state = .aborting ∧ x.abortKind = .recovery) then none else x.preCut }

/-- The state as the treatment of a station's cut leaves it, where one is under way. -/
def State.treatedForStop : State :=
  if ¬((s.cut st).state = .aborting ∧ (s.cut st).abortKind = .recovery) then s.treatCut st else s

theorem State.stopStation_of_rest {s : State} {st : Station}
    (h : (s.cut st).state = .idle ∨ (s.cut st).state = .stopped) : s.stopStation st = s := if_pos h

theorem State.stopStation_of_at_work {s : State} {st : Station}
    (h : ¬((s.cut st).state = .idle ∨ (s.cut st).state = .stopped)) :
    s.stopStation st = ((((s.treatedForStop st).putCut st (s.cut st).stoppedShort).driveTool st
      (.position (s.cut st).toolLateral (s.cut st).toolRadius)).driveRoller st .stop) := if_neg h

/-- The drives of a station after a stop, from the state in which its cut has been treated. -/
theorem State.haltDrives_only (u : State) (x : CutStation) (d : ToolDemand) (e : RollerDemand) :
    Only [.stations, .axes, .notices] u (((u.putCut st x).driveTool st d).driveRoller st e) :=
  ((u.putCut_only st x).step (State.driveTool_only _ st d) (by decide)
    (show _ ⊆ [.stations, .axes, .notices] by decide)).step (State.driveRoller_only _ st e) (by decide) (by decide)

theorem State.treatedForStop_only : Only [.store, .context, .plans, .notices] s (s.treatedForStop st) := by
  unfold State.treatedForStop
  exact Only.ite ((s.treatCut_only st).mono (by decide)) (.refl _ s)

theorem State.treatedForStop_key (j : Ix) : ((s.treatedForStop st).slot j).key = (s.slot j).key := by
  unfold State.treatedForStop
  split
  · exact s.treatCut_key st j
  · rfl

end

/-- An emergency stop of a station. -/
theorem State.stopStation_stops (s : State) (st : Station) : State.stopsStation st s (s.stopStation st) := by
  by_cases hrest : (s.cut st).state = .idle ∨ (s.cut st).state = .stopped
  · have hno : ¬(s.cut st).underWay := fun hw => hrest.elim hw.1 hw.2.1
    rw [State.stopStation_of_rest hrest]
    exact ⟨fun _ => rfl, fun h => absurd hrest h, fun hw => absurd hw hno,
      fun _ _ _ _ _ _ hw => absurd hw hno, fun _ _ _ hr _ => ⟨hr, rfl⟩⟩
  · have honly := State.haltDrives_only st (s.treatedForStop st) (s.cut st).stoppedShort
      (.position (s.cut st).toolLateral (s.cut st).toolRadius) .stop
    have hkept := State.keepsRecords_of_only honly (by decide)
    rw [State.stopStation_of_at_work hrest]
    generalize ht : ((((s.treatedForStop st).putCut st (s.cut st).stoppedShort).driveTool st
      (.position (s.cut st).toolLateral (s.cut st).toolRadius)).driveRoller st .stop) = t at honly hkept ⊢
    have hcut : t.cut st = (s.cut st).stoppedShort := by
      rw [← ht]
      exact State.putCut_cut_self _ st _
    have hplans : t.plans = (s.treatedForStop st).plans := honly.2 .plans (by decide)
    have hstore : t.store = (s.treatedForStop st).store := honly.2 .store (by decide)
    refine ⟨fun h => absurd h hrest, fun _ => ?halted, fun hw => ?plan, fun i n r hb hn hr hw => ?treated,
      fun i r hb hr hno => ?kept⟩
    case halted =>
      rw [hcut]
      refine ⟨rfl, rfl, rfl, rfl, ?_, ?_⟩
      · rw [← ht]; exact Two.get_set_same _ st _
      · rw [← ht]; exact Two.get_set_same _ st _
    case plan =>
      rw [State.plan, hplans, State.treatedForStop, if_pos hw.2.2]
      exact (s.treatCut_plan st).1
    case treated =>
      have htreat : s.treatedForStop st = s.treatCut st := if_pos hw.2.2
      rw [htreat] at hkept hstore
      refine ⟨?_, ?_, ?_⟩
      · rw [hcut]; exact if_pos hw.2.2
      · rw [hstore, s.treatCut_store st]
        exact State.rewriteBound_queued hb hn _
      · rw [(hkept i).2, (s.treatCut_records st i hb i).2, if_pos rfl, hr]
        rfl
    case kept =>
      have hrecovery : (s.cut st).state = .aborting ∧ (s.cut st).abortKind = .recovery := by
        by_contra h
        exact hno ⟨fun hi => hrest (.inl hi), fun hs => hrest (.inr hs), h⟩
      have htreat : s.treatedForStop st = s := if_neg (not_not.2 hrecovery)
      rw [htreat] at hkept
      exact ⟨(hkept i).2.trans hr, by rw [hcut]; exact if_neg (not_not.2 hrecovery)⟩

/-- Stopping a station leaves what every slot is and whom it is bound to. -/
theorem State.stopStation_key (s : State) (st : Station) (j : Ix) :
    ((s.stopStation st).slot j).key = (s.slot j).key := by
  by_cases hrest : (s.cut st).state = .idle ∨ (s.cut st).state = .stopped
  · rw [State.stopStation_of_rest hrest]
  · rw [State.stopStation_of_at_work hrest, ← s.treatedForStop_key st j]
    exact (State.keepsRecords_of_only (State.haltDrives_only st _ _ _ _) (by decide) j).1

theorem State.boundSlot_of_keys {s t : State} (h : ∀ j, (t.slot j).key = (s.slot j).key) (st : Station) :
    t.boundSlot st = s.boundSlot st := by
  have hbinding (i : Ix) : (t.slot i).binding = (s.slot i).binding := (Slot.key_eq_iff.1 (h i)).2.2.2.1
  simp only [State.boundSlot, hbinding]

theorem State.stopStation_boundSlot (s : State) (st st' : Station) :
    (s.stopStation st).boundSlot st' = s.boundSlot st' := State.boundSlot_of_keys (s.stopStation_key st) st'

/-- The records and the place table are as they were. -/
theorem State.stopStation_store (s : State) (st : Station) :
    s.store.sameRecords (s.stopStation st).store ∧ ∀ r ∈ s.store.fifo, r ∈ (s.stopStation st).store.fifo := by
  by_cases hrest : (s.cut st).state = .idle ∨ (s.cut st).state = .stopped
  · rw [State.stopStation_of_rest hrest]
    exact ⟨⟨rfl, rfl, rfl, rfl, rfl⟩, fun _ h => h⟩
  · have hstore : (s.stopStation st).store = (s.treatedForStop st).store := by
      rw [State.stopStation_of_at_work hrest]
      exact (State.haltDrives_only st _ _ _ _).2 .store (by decide)
    rw [hstore]
    unfold State.treatedForStop
    split
    · rw [s.treatCut_store st]
      exact s.rewriteBound_store st _
    · exact ⟨⟨rfl, rfl, rfl, rfl, rfl⟩, fun _ h => h⟩

/-- Stopping a station spares the other. -/
theorem State.stopStation_spares (s : State) {st st' : Station} (h : st' ≠ st) :
    State.sparesStation st' s (s.stopStation st) := by
  by_cases hrest : (s.cut st).state = .idle ∨ (s.cut st).state = .stopped
  · rw [State.stopStation_of_rest hrest]
    exact .refl
  have honly := State.haltDrives_only st (s.treatedForStop st) (s.cut st).stoppedShort
    (.position (s.cut st).toolLateral (s.cut st).toolRadius) .stop
  refine ⟨?cut, ?plan, ?drives, fun i hb => ⟨(s.stopStation_boundSlot st st').trans hb,
    (Slot.key_eq_iff.1 (s.stopStation_key st i)).2.1, ?working⟩, (s.stopStation_store st).2⟩
  all_goals rw [State.stopStation_of_at_work hrest]
  case cut =>
    have hstations : (s.treatedForStop st).cut st' = s.cut st' :=
      State.cut_of_only (s.treatedForStop_only st) (by decide) st'
    exact ((s.treatedForStop st).putCut_cut st st' _).trans ((if_neg h).trans hstations)
  case plan =>
    have hplans := honly.2 .plans (by decide)
    rw [State.plan, hplans]
    unfold State.treatedForStop
    split
    · have hst : st' = st.other := by cases st <;> cases st' <;> first | rfl | exact absurd rfl h
      rw [hst]
      exact (s.treatCut_plan st).2
    · rfl
  case drives =>
    have haxes : ((s.treatedForStop st).putCut st (s.cut st).stoppedShort).axes = s.axes :=
      ((State.putCut_only _ st _).2 .axes (by decide)).trans ((s.treatedForStop_only st).2 .axes (by decide))
    unfold State.sameDrives
    simp only [State.driveRoller_axes, State.driveTool_axes, haxes]
    exact ⟨Two.get_set_other _ _ h, Two.get_set_other _ _ h⟩
  case working =>
    rw [(State.keepsRecords_of_only honly (by decide) i).2]
    unfold State.treatedForStop
    split
    · cases hown : s.boundSlot st with
      | none =>
        have hsame : s.treatCut st = s.removePlan st := by
          rw [State.treatCut, State.rewriteBound_of_unbound hown]
        rw [hsame]
        exact (State.keepsRecords_of_only (s.removePlan_only st) (by decide) i).2
      | some k =>
        have hik : i ≠ k := fun hik => h (Option.some.inj
          ((State.boundSlot_binding hb).symm.trans ((congrArg (fun x => (s.slot x).binding) hik).trans
            (State.boundSlot_binding hown))))
        rw [(s.treatCut_records st k hown i).2, if_neg hik]
    · rfl

/-! ### A sweep abandoned (R119) -/

/-- A sweep in motion or paused becomes ABANDONED; the stations, their plans and records are spared, and the drives of
the other station; the roller of a station with no sweep on it keeps its demand. -/
theorem State.abandonSweep_rest (s : State) (st : Station) :
    (s.abandonSweep st).capture.sweep = s.capture.sweep.set st
        (if (s.sweepOf st).state.onStation then { s.sweepOf st with state := .abandoned, cause := none, step := .none }
          else s.sweepOf st) ∧
      (s.abandonSweep st).axes.tool = s.axes.tool ∧
      ∀ st', (s.sweepOf st').state.onStation = false → (s.abandonSweep st).axes.roller.get st' = s.axes.roller.get st' := by
  by_cases h : (s.sweepOf st).state.onStation = true
  · rw [State.abandonSweep, if_pos h, if_pos h]
    refine ⟨rfl, rfl, fun st' hst' => Two.get_set_other _ _ ?_⟩
    rintro rfl
    rw [h] at hst'
    cases hst'
  · rw [State.abandonSweep, if_neg h, if_neg h]
    exact ⟨(Two.set_get_self ..).symm, rfl, fun _ _ => rfl⟩

/-! ### The lift stopped by an emergency stop (R53, R75) -/

section
variable {s : State}

/-- The states in which an emergency stop makes the lift enter HOLD. -/
def LiftState.stoppable (x : LiftState) : Prop :=
  x = .raising ∨ x = .lowering ∨ (∃ d, x = .bridgeWait d) ∨ x = .raised ∨ x = .parking ∨ x = .unparking

theorem State.giveLiftCause_estop_of_stoppable (h : s.lift.state.stoppable) :
    s.giveLiftCause .estop = s.enterHold .estop := by
  obtain h | h | ⟨d, h⟩ | h | h | h := h <;> simp only [State.giveLiftCause, h]

/-- An entry to HOLD records the state left, and takes its first cause (R52). -/
theorem State.enterHold_lift (s : State) (c : LiftCause) :
    (s.enterHold c).lift.state = .hold ∧ (s.enterHold c).lift.holds = LiftCauses.empty.add c ∧
      (s.enterHold c).lift.interrupted = some s.lift.state := by
  by_cases h : s.lift.state = .raised
  · rw [(State.enterHold_from_raised c h).1]
    exact ⟨rfl, rfl, rfl⟩
  · rw [State.enterHold_of_not_raised c h, State.putLift_lift, Lift.revalve_held]
    exact ⟨rfl, rfl, rfl⟩

/-- In the other states the lift holds, or stays, and no block but Level Maintenance is told. -/
theorem State.giveLiftCause_estop_of_rest (h : ¬s.lift.state.stoppable) :
    (s.giveLiftCause .estop).lift.state = s.lift.state ∧
      (s.lift.state = .hold → (s.giveLiftCause .estop).lift.holds = { s.lift.holds with estop := true }) ∧
      Only [.lift, .level, .notices] s (s.giveLiftCause .estop) := by
  cases hstate : s.lift.state
  case hold =>
    obtain ⟨hs, hh, _, honly⟩ := s.addLiftCause_rest .estop
    have hgive : s.giveLiftCause .estop = s.addLiftCause .estop := State.giveLiftCause_of_hold hstate (.inl rfl)
    rw [hgive]
    exact ⟨hs.trans hstate, fun _ => hh, honly.mono (by decide)⟩
  case parked =>
    have hgive : s.giveLiftCause .estop = s.cancelUnpark := by simp only [State.giveLiftCause, hstate]
    have hlift : s.cancelUnpark.lift = s.lift.revalve s.level.relevel := State.putLift_lift ..
    rw [hgive]
    refine ⟨?_, nofun, s.putLift_only _ _⟩
    rw [hlift]
    exact hstate
  case down =>
    have hgive : s.giveLiftCause .estop = s := by simp only [State.giveLiftCause, hstate]
    rw [hgive]
    exact ⟨hstate, nofun, .refl _ s⟩
  case fault =>
    have hgive : s.giveLiftCause .estop = s := by simp only [State.giveLiftCause, hstate]
    rw [hgive]
    exact ⟨hstate, nofun, .refl _ s⟩
  all_goals exact absurd (by simp [LiftState.stoppable, hstate]) h

/-- What an emergency stop of the lift leaves of a station and its sweep: the cause LIFT taken and the sweep paused, or
nothing (R56). -/
theorem State.giveLiftCause_estop_work (s : State) :
    s.keepsRecords (s.giveLiftCause .estop) ∧
      (∀ st, ((s.giveLiftCause .estop).cut st = s.cut st ∨
          (s.giveLiftCause .estop).cut st = (s.cut st).given .lift)) ∧
      ∀ st, ((s.giveLiftCause .estop).sweepOf st = s.sweepOf st ∨
          (s.giveLiftCause .estop).sweepOf st = (s.sweepOf st).pausedFor .lift) := by
  have of_only {u : State} (h : Only [.lift, .level, .notices] s u) : s.keepsRecords u ∧
      (∀ st, u.cut st = s.cut st ∨ u.cut st = (s.cut st).given .lift) ∧
      ∀ st, u.sweepOf st = s.sweepOf st ∨ u.sweepOf st = (s.sweepOf st).pausedFor .lift := by
    have hcapture : u.capture = s.capture := h.2 .capture (by decide)
    exact ⟨State.keepsRecords_of_only h (by decide), fun st => .inl (State.cut_of_only h (by decide) st),
      fun st => .inl (by rw [State.sweepOf, hcapture, State.sweepOf])⟩
  by_cases hstop : s.lift.state.stoppable
  · rw [State.giveLiftCause_estop_of_stoppable hstop]
    by_cases hraised : s.lift.state = .raised
    · have hdeparts := (State.enterHold_from_raised .estop hraised).2.2
      rw [State.enterHold_of_raised _ hraised] at hdeparts ⊢
      refine ⟨State.keepsRecords_of_departs hdeparts, fun st => .inr ?_, fun st => .inr ?_⟩
      · rw [State.departRaised_cut, State.putLift_cut]
      · rw [State.departRaised_sweepOf, State.sweepOf, State.putLift_capture, State.sweepOf]
    · rw [State.enterHold_of_not_raised _ hraised]
      exact of_only (s.putLift_only _ _)
  · exact of_only (State.giveLiftCause_estop_of_rest hstop).2.2

end

/-- The cause LIFT leaves of a station what an emergency stop reads: where its tools stand, its entry and its abort, and
whether it is at rest. -/
theorem CutStation.given_lift_kept (x : CutStation) :
    (x.given .lift).toolLateral = x.toolLateral ∧ (x.given .lift).toolRadius = x.toolRadius ∧
      (x.given .lift).treatEntry = x.treatEntry ∧ (x.given .lift).preCut = x.preCut ∧
      ((x.given .lift).state = .idle ↔ x.state = .idle) ∧ ((x.given .lift).state = .stopped ↔ x.state = .stopped) ∧
      ((x.given .lift).underWay ↔ x.underWay) := by
  obtain ⟨hwork, hheld, hrest⟩ := x.given_lift
  cases hstate : x.state
  case approach | cutting =>
    rw [hwork (by simp [hstate])]
    refine ⟨rfl, rfl, rfl, rfl, ?_⟩
    simp [CutStation.underWay, hstate]
  case holding | held =>
    rw [hheld (by simp [hstate])]
    refine ⟨rfl, rfl, rfl, rfl, ?_⟩
    simp [CutStation.underWay, hstate]
  case idle | retract | aborting | stopped =>
    rw [hrest (by simp [hstate])]
    simp [hstate]

/-! ### An accepted fall of ESTOP_OK (R85) -/

/-- The state in which both stations have been stopped. -/
def State.bothStopped (s : State) : State := (s.stopStation .a).stopStation .b

/-- The state in which both sweeps have been abandoned as well. -/
def State.workStopped (s : State) : State := (s.bothStopped.abandonSweep .a).abandonSweep .b

theorem State.bothStopped_stops (s : State) (st : Station) : State.stopsStation st s s.bothStopped := by
  cases st with
  | a =>
    exact (s.stopStation_stops .a).before (State.stopStation_spares _ (by decide)) (s.stopStation_boundSlot .a .a)
  | b => exact (State.stopStation_stops _ .b).after (s.stopStation_spares (by decide))

theorem State.bothStopped_only (s : State) :
    Only [.stations, .axes, .notices, .store, .context, .plans] s s.bothStopped :=
  (s.stopStation_only .a).step (State.stopStation_only _ .b) (by decide) (by decide)

theorem State.workStopped_after (s : State) : Only [.capture, .axes, .notices] s.bothStopped s.workStopped :=
  (s.bothStopped.abandonSweep_only .a).step (State.abandonSweep_only _ .b) (by decide) (by decide)

theorem State.workStopped_only (s : State) :
    Only [.stations, .axes, .notices, .store, .context, .plans, .capture] s s.workStopped :=
  s.bothStopped_only.step s.workStopped_after (by decide) (by decide)

theorem State.workStopped_liftKept (s : State) : s.liftKept s.workStopped :=
  (((s.stopStation_liftKept .a).trans (State.stopStation_liftKept _ .b)).trans (State.abandonSweep_liftKept _ .a)).trans
    (State.abandonSweep_liftKept _ .b)

/-- A sweep in motion or paused is abandoned, and the rollers of a station without one keep their demand. -/
theorem State.workStopped_sweeps (s : State) (st : Station) :
    s.workStopped.sweepOf st =
        (if (s.sweepOf st).state.onStation then { s.sweepOf st with state := .abandoned, cause := none, step := .none }
          else s.sweepOf st) ∧
      s.workStopped.axes.tool = s.bothStopped.axes.tool ∧
      ((s.sweepOf st).state.onStation = false →
        s.workStopped.axes.roller.get st = s.bothStopped.axes.roller.get st) := by
  have hcapture : s.bothStopped.capture = s.capture := s.bothStopped_only.2 .capture (by decide)
  have hbefore (o : Station) : s.bothStopped.sweepOf o = s.sweepOf o := by rw [State.sweepOf, hcapture, State.sweepOf]
  obtain ⟨hsweepA, htoolA, hrollerA⟩ := s.bothStopped.abandonSweep_rest .a
  obtain ⟨hsweepB, htoolB, hrollerB⟩ := (s.bothStopped.abandonSweep .a).abandonSweep_rest .b
  have hmiddle : (s.bothStopped.abandonSweep .a).sweepOf .b = s.sweepOf .b := by
    rw [State.sweepOf, hsweepA]
    exact hbefore .b
  have hfirst : (s.bothStopped.abandonSweep .a).sweepOf .a =
      if (s.sweepOf .a).state.onStation then { s.sweepOf .a with state := .abandoned, cause := none, step := .none }
      else s.sweepOf .a := by
    rw [State.sweepOf, hsweepA, hbefore .a]
    exact Two.get_set_same _ .a _
  refine ⟨?_, htoolB.trans htoolA, fun hoff => ?_⟩
  · show s.workStopped.capture.sweep.get st = _
    rw [State.workStopped, hsweepB, hmiddle]
    cases st with
    | a => exact hfirst
    | b => exact Two.get_set_same _ .b _
  · have hB : ((s.bothStopped.abandonSweep .a).sweepOf st).state.onStation = false := by
      cases st with
      | a => rw [hfirst, hoff]; exact hoff
      | b => rw [hmiddle]; exact hoff
    exact (hrollerB st hB).trans (hrollerA st (by rw [hbefore]; exact hoff))

theorem SweepState.onStation_iff (x : SweepState) :
    x.onStation = true ↔ x = .indexing ∨ x = .traversing ∨ x = .paused := by
  cases x <;> simp [SweepState.onStation]

/-- Pausing a sweep that is about to be abandoned changes nothing of what abandoning leaves. -/
theorem Sweep.abandoned_pausedFor (w : Sweep) (c : PauseCause) :
    (if (w.pausedFor c).state.onStation then { w.pausedFor c with state := .abandoned, cause := none, step := .none }
      else w.pausedFor c) =
    if w.state = .indexing ∨ w.state = .traversing ∨ w.state = .paused then
      { w with state := .abandoned, cause := none, step := .none } else w := by
  rw [Sweep.pausedFor_eq]
  cases w with
  | mk state rowsDone cause step run => cases state <;> rfl

theorem Sweep.abandoned_eq (w : Sweep) :
    (if w.state.onStation then { w with state := .abandoned, cause := none, step := .none } else w) =
    if w.state = .indexing ∨ w.state = .traversing ∨ w.state = .paused then
      { w with state := .abandoned, cause := none, step := .none } else w := by
  simp only [SweepState.onStation_iff]

theorem Sweep.pausedFor_of_off {w : Sweep} (h : w.state.onStation = false) (c : PauseCause) : w.pausedFor c = w := by
  rw [Sweep.pausedFor_eq, if_neg]
  intro hmotion
  have hon := (SweepState.onStation_iff w.state).2 (hmotion.elim .inl fun h => .inr (.inl h))
  rw [h] at hon
  cases hon

/-- Settles O38: the lift takes the cause, then each station is stopped and the other spared, then the sweeps are
abandoned; the lift is then not raised, so that no re-level can start. -/
theorem emergencyStopStopsThePit : Obligations.EmergencyStopStopsThePit := by
  intro s length hrun hraw
  have hexec := exec_debounceExpiry_of_running (i := .estopOk) ⟨hrun, hraw⟩
  have hlevel := State.accepted_level? (i := .estopOk) hraw false
  have hout : (s.acceptLevel .estopOk).handOut .estopOk false =
    (((s.acceptLevel .estopOk).giveLiftCause .estop).workStopped).testStart := rfl
  obtain ⟨hrecords, hcuts, hsweeps⟩ := (s.acceptLevel .estopOk).giveLiftCause_estop_work
  have hgive := (s.acceptLevel .estopOk).giveLiftCause_only .estop
  have hacc := s.acceptLevel_only .estopOk
  -- The lift after the cause, by its state.
  have hlift : (s.lift.state.stoppable →
      ((s.acceptLevel .estopOk).giveLiftCause .estop).lift.state = .hold ∧
        ((s.acceptLevel .estopOk).giveLiftCause .estop).lift.holds = { LiftCauses.empty with estop := true } ∧
        ((s.acceptLevel .estopOk).giveLiftCause .estop).lift.interrupted = some s.lift.state ∧
        s.liftTold ((s.acceptLevel .estopOk).giveLiftCause .estop)) ∧
      (¬s.lift.state.stoppable →
        ((s.acceptLevel .estopOk).giveLiftCause .estop).lift.state = s.lift.state ∧
          (s.lift.state = .hold → ((s.acceptLevel .estopOk).giveLiftCause .estop).lift.holds =
            { s.lift.holds with estop := true })) := by
    refine ⟨fun hstop => ?_, fun hno => ?_⟩
    · rw [State.giveLiftCause_estop_of_stoppable (s := s.acceptLevel .estopOk) hstop]
      obtain ⟨hstate, hholds, hwas⟩ := (s.acceptLevel .estopOk).enterHold_lift .estop
      have hnot : (s.acceptLevel .estopOk).lift.state ≠ .hold := by
        rw [State.acceptLevel_lift]
        rcases hstop with h | h | ⟨d, h⟩ | h | h | h <;> simp [h]
      exact ⟨hstate, hholds, hwas, (s.acceptLevel_liftKept .estopOk).told (State.enterHold_liftTold _ .estop hnot)⟩
    · obtain ⟨hstate, hholds, _⟩ := State.giveLiftCause_estop_of_rest (s := s.acceptLevel .estopOk) hno
      exact ⟨hstate, hholds⟩
  generalize hu : (s.acceptLevel .estopOk).giveLiftCause .estop = u at *
  have hafter := u.workStopped_only
  have htLift : u.workStopped.lift = u.lift := hafter.2 .lift (by decide)
  have hidle : u.workStopped.testStart = u.workStopped := by
    refine State.testStart_of_not_raised ?_
    rw [htLift]
    by_cases hstop : s.lift.state.stoppable
    · rw [(hlift.1 hstop).1]; exact nofun
    · rw [(hlift.2 hstop).1]
      exact fun h => hstop (by simp [LiftState.stoppable, h])
  rw [hidle] at hout
  have hstops (st : Station) := u.bothStopped_stops st
  have hcutEnd (st : Station) : u.workStopped.cut st = u.bothStopped.cut st :=
    State.cut_of_only u.workStopped_after (by decide) st
  have hplansEnd : u.workStopped.plans = u.bothStopped.plans := u.workStopped_after.2 .plans (by decide)
  have hstoreEnd : u.workStopped.store = u.bothStopped.store := u.workStopped_after.2 .store (by decide)
  have hslotEnd (i : Ix) : u.workStopped.slot i = u.bothStopped.slot i := by
    have hcontext : u.workStopped.context = u.bothStopped.context := u.workStopped_after.2 .context (by decide)
    rw [State.slot, hcontext, State.slot]
  -- What the cause LIFT has left of a station.
  have hkept (st : Station) : (u.cut st).toolLateral = (s.cut st).toolLateral ∧
      (u.cut st).toolRadius = (s.cut st).toolRadius ∧ (u.cut st).treatEntry = (s.cut st).treatEntry ∧
      (u.cut st).preCut = (s.cut st).preCut ∧ ((u.cut st).state = .idle ↔ (s.cut st).state = .idle) ∧
      ((u.cut st).state = .stopped ↔ (s.cut st).state = .stopped) ∧ ((u.cut st).underWay ↔ (s.cut st).underWay) := by
    obtain h | h := hcuts st
    · rw [h]
      exact ⟨rfl, rfl, rfl, rfl, Iff.rfl, Iff.rfl, Iff.rfl⟩
    · rw [h]
      exact (s.cut st).given_lift_kept
  have hbound (st : Station) : u.boundSlot st = s.boundSlot st := hrecords.boundSlot st
  have hserial (i : Ix) : (u.slot i).serial = (s.slot i).serial := hrecords.serial i
  have hworking (i : Ix) : (u.slot i).working = (s.slot i).working := (hrecords i).2
  have hsameStore : s.store.sameRecords u.workStopped.store := by
    have hstore : u.store = s.store := (hgive.2 .store (by decide)).trans (hacc.2 .store (by decide))
    rw [← hstore, hstoreEnd]
    exact (u.stopStation_store .a).1.trans (State.stopStation_store _ .b).1
  refine ⟨_, hexec, hlevel, ?_⟩
  rw [hout]
  refine ⟨fun st hidle hstopped => ?halted, fun st hidle => ?stopped, fun st hidle => ?idle,
    fun st i n r hb hn hr => ⟨fun hcutting => ?treated, fun hno => ?kept⟩, hsameStore.1, hsameStore.2.1,
    fun st => ?sweep, fun hstop => ?lift, fun hhold => ?hold, fun hrest => ?rest, ?probes⟩
  case halted =>
    obtain ⟨hlateral, hradius, _, _, hidleIff, hstoppedIff, hwayIff⟩ := hkept st
    have hrest : ¬((u.cut st).state = .idle ∨ (u.cut st).state = .stopped) := by
      rw [hidleIff, hstoppedIff]
      exact fun h => h.elim hidle hstopped
    obtain ⟨_, hholds, hkind, hheldAt, hroller, htool⟩ := (hstops st).halted hrest
    obtain ⟨_, htoolEnd, hrollerEnd⟩ := u.workStopped_sweeps st
    refine ⟨by rw [hcutEnd, hholds], by rw [hcutEnd, hkind], by rw [hcutEnd, hheldAt], fun hno => ?_, fun hoff => ?_, ?_⟩
    · rw [State.plan, hplansEnd]
      exact (hstops st).plan (hwayIff.2 ⟨hidle, hstopped, hno⟩)
    · refine (hrollerEnd ?_).trans hroller
      obtain h | h := hsweeps st
      · rw [h]; exact hoff
      · rw [h]
        exact (congrArg (fun w : Sweep => w.state.onStation) ((s.sweepOf st).pausedFor_of_off hoff .lift)).trans hoff
    · rw [htoolEnd, htool, hlateral, hradius]
  case stopped =>
    obtain ⟨_, _, _, _, hidleIff, hstoppedIff, _⟩ := hkept st
    rw [hcutEnd]
    by_cases hstopped : (s.cut st).state = .stopped
    · rw [(hstops st).rest (.inr (hstoppedIff.2 hstopped))]
      exact hstoppedIff.2 hstopped
    · refine ((hstops st).halted ?_).1
      rw [hidleIff, hstoppedIff]
      exact fun h => h.elim hidle hstopped
  case idle =>
    have hsame : u.cut st = s.cut st := (hcuts st).elim id fun h =>
      h.trans (CutStation.given_of_rest (.inl hidle) .lift)
    rw [hcutEnd, (hstops st).rest (.inl (by rw [hsame]; exact hidle)), hsame]
  case treated =>
    obtain ⟨_, _, htreat, _, _, _, hwayIff⟩ := hkept st
    obtain ⟨hpre, hqueued, hrecord⟩ := (hstops st).treated i n r ((hbound st).trans hb) ((hserial i).trans hn)
      ((hworking i).trans hr) (hwayIff.2 hcutting)
    rw [htreat] at hrecord
    obtain ⟨hentered, hnone⟩ := (s.cut st).treatEntry_treatsTo r
    refine ⟨by rw [hcutEnd, hpre], by rw [hstoreEnd]; exact hqueued, ?_, ?_⟩
    · intro rest e c he hentries hkind hin
      rw [hslotEnd, hrecord]
      exact hentered rest e c he hentries hkind hin
    · intro kept he hpreCut
      rw [hslotEnd, hrecord]
      exact hnone kept he hpreCut
  case kept =>
    obtain ⟨_, _, _, hpre, _, _, hwayIff⟩ := hkept st
    obtain ⟨hrecord, hkeptPre⟩ := (hstops st).kept i r ((hbound st).trans hb) ((hworking i).trans hr)
      fun h => hno (hwayIff.1 h)
    exact ⟨by rw [hslotEnd, hrecord], by rw [hcutEnd, hkeptPre, hpre]⟩
  case sweep =>
    rw [(u.workStopped_sweeps st).1]
    obtain h | h := hsweeps st
    · rw [h]
      exact (s.sweepOf st).abandoned_eq
    · rw [h]
      exact (s.sweepOf st).abandoned_pausedFor .lift
  case lift =>
    obtain ⟨hstate, hholds, hwas, htold⟩ := hlift.1 hstop
    rw [htLift]
    exact ⟨hstate, hholds, hwas, htold.after u.workStopped_liftKept⟩
  case hold =>
    obtain ⟨hstate, hholds⟩ := hlift.2 (by simp [LiftState.stoppable, hhold])
    rw [htLift]
    exact ⟨hstate.trans hhold, hholds hhold⟩
  case rest =>
    rw [htLift]
    refine (hlift.2 ?_).1
    rcases hrest with h | h | h <;> simp [LiftState.stoppable, h]
  case probes =>
    exact ((hafter.2 .probes (by decide)).trans (hgive.2 .probes (by decide))).trans (hacc.2 .probes (by decide))

end Sys2Proof.Machine
end

section
/-! PROOFS. Chapter 10: the passes of a cut, its completion, and its abort. -/

namespace Sys2Proof.Machine

/-! ### A cut that completes (R166) -/

/-- What the completion of the cut of `p` at `st` leaves of the station, of the plans and of the record `r` in slot `i`
(R166). -/
def State.completesCut (st : Station) (i : Ix) (p : Plan) (done n : Nat) (r : Record) (s t : State) : Prop :=
  (t.cut st).state = .idle ∧ (t.cut st).preCut = none ∧ t.plan st = none ∧ (t.cut st).completed = done ∧
    (∀ rest e c, r.entries = rest ++ [e] → e.kind = .cut c → c.outcome = .inProgress →
      (t.slot i).working =
        some { r with
          lastRadius := ⟨some p.target, some p.target⟩
          entries := rest ++ [{ e with kind := .cut { c with
            outcome := .complete, completed := done, afterRadius := ⟨some p.target, some p.target⟩ } }] }) ∧
    s.writesBack t n i [] ∧ (∀ j, j ≠ i → t.slot j = s.slot j) ∧ t.context.results = s.context.results ∧
    t.context.resultsLost = s.context.resultsLost ∧ t.plan st.other = s.plan st.other

section
variable {s t u : State} {st : Station} {i : Ix} {p : Plan} {done n : Nat} {r : Record}

/-- The completion reads of its beginning the store, the slots and the plans. -/
theorem State.completesCut.from (h : State.completesCut st i p done n r t u) (hstore : t.store = s.store)
    (hcontext : t.context = s.context) (hplans : t.plans = s.plans) : State.completesCut st i p done n r s u := by
  have hslot (j : Ix) : t.slot j = s.slot j := by rw [State.slot, hcontext, State.slot]
  have hplan : t.plan st.other = s.plan st.other := by rw [State.plan, hplans, State.plan]
  obtain ⟨hstate, hpre, hgone, hdone, hwork, hwrite, hrest, hresults, hlost, hother⟩ := h
  exact ⟨hstate, hpre, hgone, hdone, hwork, hwrite.of_eq hstore.symm rfl rfl rfl,
    fun j hj => (hrest j hj).trans (hslot j), by rw [hresults, hcontext], by rw [hlost, hcontext], hother.trans hplan⟩

/-- What follows may take the cause LEVEL from the station and move other blocks. -/
theorem State.completesCut.keeps (h : State.completesCut st i p done n r s t) (hfree : State.freesStation st t u)
    (hstore : u.store = t.store) (hcontext : u.context = t.context) (hplans : u.plans = t.plans) :
    State.completesCut st i p done n r s u := by
  have hslot (j : Ix) : u.slot j = t.slot j := by rw [State.slot, hcontext, State.slot]
  have hplan (x : Station) : u.plan x = t.plan x := by rw [State.plan, hplans, State.plan]
  obtain ⟨hstate, hpre, hgone, hdone, hwork, hwrite, hrest, hresults, hlost, hother⟩ := h
  have hcut : (u.cut st).state = (t.cut st).state ∧ (u.cut st).preCut = (t.cut st).preCut ∧
      (u.cut st).completed = (t.cut st).completed := by
    obtain hsame | hreleased := hfree.1
    · rw [hsame]
      exact ⟨rfl, rfl, rfl⟩
    · rw [hreleased, CutStation.released_of_not_held (by rw [hstate]; exact nofun)]
      exact ⟨rfl, rfl, rfl⟩
  obtain ⟨cstate, cpre, cdone⟩ := hcut
  refine ⟨cstate.trans hstate, cpre.trans hpre, (hplan st).trans hgone, cdone.trans hdone,
    fun rest e c hr he hc => ?_, hwrite.of_eq rfl hstore (by rw [hslot]) (by rw [hslot]),
    fun j hj => (hslot j).trans (hrest j hj), by rw [hcontext, hresults], by rw [hcontext, hlost],
    (hplan st.other).trans hother⟩
  rw [hslot]
  exact hwork rest e c hr he hc

/-- The record of a cut that completes. -/
def Record.completed (target : Option Int) (done : Nat) (r : Record) : Record :=
  { (r.mapNewest (Entry.finishCut .complete done ⟨target, target⟩)) with lastRadius := ⟨target, target⟩ }

theorem Record.completed_of_inProgress {rest : List Entry} {e : Entry} {c : CutPart} {target : Option Int}
    (hr : r.entries = rest ++ [e]) (he : e.kind = .cut c) (hc : c.outcome = .inProgress) :
    r.completed target done = { r with
      lastRadius := ⟨target, target⟩
      entries := rest ++ [{ e with kind := .cut { c with
        outcome := .complete, completed := done, afterRadius := ⟨target, target⟩ } }] } := by
  rw [Record.completed, Record.mapNewest_of_snoc hr, Entry.finishCut_of_inProgress he hc]

theorem State.completeCut_eq (s : State) (st : Station) :
    s.completeCut st =
      let s1 := (s.rewriteBound st (Record.completed ((s.plan st).map fun p => p.target)
        (s.cut st).completed)).removePlan st
      s1.putCut st { s1.cut st with state := .idle, preCut := none } := rfl

/-- The completion of the cut with the plan that is in execution. -/
theorem State.completeCut_completesCut (hserved : s.store.fifoServed) (hb : s.boundSlot st = some i)
    (hn : (s.slot i).serial = some n) (hr : (s.slot i).working = some r) (hp : s.plan st = some p) :
    State.completesCut st i p (s.cut st).completed n r s (s.completeCut st) := by
  rw [State.completeCut_eq, hp]
  generalize hf : Record.completed ((some p).map fun p => p.target) (s.cut st).completed = f
  have hwork := State.rewriteBound_slot_self hserved hb hn hr f
  have hwrite := State.rewriteBound_writesBack hserved hb hn f
  have hresults := State.rewriteBound_results hserved hb hn f
  have hslots (j : Ix) (hj : j ≠ i) := State.rewriteBound_slot_of_ne hserved hb hn f hj
  have honly := s.rewriteBound_only st f
  generalize s.rewriteBound st f = v at hwork hwrite hresults hslots honly ⊢
  have hcut : (v.removePlan st).cut st = s.cut st :=
    (State.cut_of_only (v.removePlan_only st) (by decide) st).trans (State.cut_of_only honly (by decide) st)
  obtain ⟨hgone, hother⟩ := v.removePlan_plan st
  have hvplan : v.plan st.other = s.plan st.other := by rw [State.plan, honly.2 .plans (by decide), State.plan]
  have hlast : Only [.plans, .stations, .notices] v
      ((v.removePlan st).putCut st { (v.removePlan st).cut st with
        state := .idle
        preCut := none }) :=
    (v.removePlan_only st).step (State.putCut_only _ st _) (by decide) (by decide)
  have hself := (v.removePlan st).putCut_cut_self st { (v.removePlan st).cut st with
    state := .idle
    preCut := none }
  have hplans : ((v.removePlan st).putCut st { (v.removePlan st).cut st with
    state := .idle
    preCut := none }).plans = (v.removePlan st).plans := State.putCut_plans _ st _
  dsimp only
  generalize (v.removePlan st).putCut st { (v.removePlan st).cut st with
    state := .idle
    preCut := none } = t at hlast hself hplans ⊢
  have hcontext : t.context = v.context := hlast.2 .context (by decide)
  have hstore : t.store = v.store := hlast.2 .store (by decide)
  have hslot (j : Ix) : t.slot j = v.slot j := by rw [State.slot, hcontext, State.slot]
  refine ⟨by rw [hself], by rw [hself], ?_, by rw [hself, hcut], fun rest e c he hk hc => ?_,
    hwrite.of_eq rfl hstore (by rw [hslot]) (by rw [hslot]), fun j hj => (hslot j).trans (hslots j hj),
    by rw [hcontext, hresults.1], by rw [hcontext, hresults.2], ?_⟩
  · rw [State.plan, hplans]
    exact hgone
  · rw [hslot, hwork, ← hf]
    exact congrArg some (Record.completed_of_inProgress he hk hc)
  · rw [State.plan, hplans]
    exact hother.trans hvplan

end

/-! ### The tools home (R90, R165) -/

section
variable {s : State} {st : Station}

theorem State.testHome_of_away (h : s.level? st.toolhome = false) : s.testHome st = s :=
  if_neg (by rw [h]; exact Bool.false_ne_true)

theorem State.testHome_of_retract (h : s.level? st.toolhome = true) (hstate : (s.cut st).state = .retract) :
    s.testHome st = s.completeCut st := by
  simp only [State.testHome, h, hstate, if_true]

theorem State.testHome_of_aborting (h : s.level? st.toolhome = true) (hstate : (s.cut st).state = .aborting) :
    s.testHome st = s.completeAbort st := by
  simp only [State.testHome, h, hstate, if_true]

theorem State.handOut_toolhome_rise (s : State) (st : Station) : s.handOut st.toolhome true = s.testHome st := by
  cases st <;> rfl

/-- An accepted rise of TOOLHOME_x is the test of the wait for it. -/
theorem exec_debounceExpiry_toolhome {length : Nat} (hrun : (s.inputs.get st.toolhome).timer = .running length)
    (hraw : (s.inputs.get st.toolhome).raw = true) :
    exec (.debounceExpiry st.toolhome) s = .next ((s.acceptLevel st.toolhome).testHome st) ∧
      (s.acceptLevel st.toolhome).level? st.toolhome = true := by
  refine ⟨?_, by rw [State.acceptLevel_level?_self, hraw]⟩
  rw [exec_debounceExpiry_of_running ⟨hrun, hraw⟩, State.handOut_toolhome_rise]

end

/-! ### The passes (R155, R163, R164) -/

section
variable {s : State} {st : Station} {p : Plan} {q : Pass}

theorem State.passRadius_eq (hp : s.plan st = some p) (hq : p.pass = some q) : s.passRadius st = some q.radius := by
  simp [State.passRadius, hp, hq]

theorem State.driveApproach_eq (hp : s.plan st = some p) (hq : p.pass = some q) :
    s.driveApproach st = s.driveTool st (.position
      (if (s.cut st).begun then (s.cut st).heldAt.getD (p.zoneFirst * 1000) else p.zoneFirst * 1000) q.radius) := by
  simp only [State.driveApproach, State.passRadius_eq hp hq, hp, lateralPosition]

theorem State.driveFeed_eq (hp : s.plan st = some p) (hq : p.pass = some q) :
    s.driveFeed st = s.driveTool st (.feed (p.zoneLast * 1000) p.feed q.radius) := by
  simp only [State.driveFeed, State.passRadius_eq hp hq, hp, lateralPosition]

theorem State.pulse_of_not_cutting (h : (s.cut st).state ≠ .cutting) : s.pulse st = s := if_neg h

theorem State.pulse_of_cutting (h : (s.cut st).state = .cutting) : s.pulse st =
    if (s.cut st).counter ≤ 1 then s.endPass st
    else s.putCut st { s.cut st with counter := (s.cut st).counter - 1 } := if_pos h

/-- The station at the end of a pass. -/
def CutStation.passEnded (x : CutStation) (now : CutState) : CutStation :=
  { x with counter := 0, begun := false, completed := x.completed + 1, state := now }

/-- The state in which the last pass has ended and the tools have been sent home. -/
def State.retracted (st : Station) (s : State) : State :=
  (s.putCut st ((s.cut st).passEnded .retract)).sendHome st

theorem State.retracted_only (st : Station) (s : State) : Only [.stations, .axes, .notices] s (s.retracted st) :=
  (s.putCut_only st _).step (State.sendHome_only _ st) (by decide) (by decide)

theorem State.retracted_cut (st : Station) (s : State) : (s.retracted st).cut st = (s.cut st).passEnded .retract :=
  s.putCut_cut_self st _

theorem State.retracted_axes (st : Station) (s : State) : (s.retracted st).axes =
    { s.axes with roller := s.axes.roller.set st .stop, tool := s.axes.tool.set st .home } := by
  have haxes : (s.putCut st ((s.cut st).passEnded .retract)).axes = s.axes := State.putCut_axes s st _
  rw [State.retracted]
  simp only [State.sendHome, State.driveRoller_axes, State.driveTool_axes, haxes]

theorem State.endPass_of_last (hp : s.plan st = some p) (h : p.passes.length ≤ p.passIndex) :
    s.endPass st = ((s.retracted st).testHome st).testStart := by
  simp only [State.endPass, hp, if_neg (Nat.not_lt.2 h)]
  rfl

theorem State.endPass_of_next (hp : s.plan st = some p) (h : p.passIndex < p.passes.length) :
    s.endPass st = ((s.putPlan st (some { p with passIndex := p.passIndex + 1 })).putCut st
      ((s.cut st).passEnded .approach)).driveApproach st := by
  simp only [State.endPass, hp, if_pos h]
  rfl

theorem State.plan_of_only {l : List Block} {s t : State} (h : Only l s t) (hl : Block.plans ∉ l) (st : Station) :
    t.plan st = s.plan st := by
  have hplans : t.plans = s.plans := h.2 .plans hl
  rw [State.plan, hplans, State.plan]

end

/-- Settles O53: reports and arrivals, the revolution pulses by the counter, and the end of the last pass. -/
theorem passesRunToTheEndOfTheCut : Obligations.PassesRunToTheEndOfTheCut := by
  intro st s x completes
  refine ⟨fun lateral radius => ?report, fun p q hstate hp hq => ?approach, fun hstate => ?stays,
    fun hstate hcount => ?pulse, fun hstate => congrArg Host.Outcome.next (State.pulse_of_not_cutting hstate),
    fun p hstate hcount hp => ?last, fun length i n p r hrun hraw _ hstate hb hn hr hp hserved => ?rise⟩
  case report =>
    exact congrArg Host.Outcome.next (State.putCut_unchanged s st { s.cut st with
      toolLateral := lateral
      toolRadius := radius } rfl)
  case approach =>
    have hexec : exec (.toolApproachArrival st) s = .next (s.approachArrives st) := rfl
    have hstate' : (s.cut st).state = .approach := hstate
    simp only [State.approachArrives, if_pos hstate', hp, Option.map_some, Option.getD_some] at hexec
    have honly := s.putCut_only st { s.cut st with
      state := .cutting
      counter := if (s.cut st).begun then (s.cut st).counter else p.revolutions
      loaded := if (s.cut st).begun then (s.cut st).loaded else p.revolutions
      begun := true
      entered := true }
    refine ⟨_, hexec, ?_⟩
    rw [State.driveFeed_eq ((State.plan_of_only honly (by decide) st).trans hp) hq]
    refine ⟨State.putCut_stations s st _, ?_, honly.step (State.driveTool_only _ st _) (by decide) (by decide)⟩
    rw [State.driveTool_axes, State.putCut_axes]
  case stays => exact congrArg Host.Outcome.next (if_neg hstate)
  case pulse =>
    have hexec : exec (.revolutionPulse st) s = .next (s.pulse st) := rfl
    have hmore : ¬(s.cut st).counter ≤ 1 := Nat.not_le.2 hcount
    rw [hexec, State.pulse_of_cutting hstate, if_neg hmore]
    exact congrArg Host.Outcome.next (State.putCut_unchanged s st _ rfl)
  case last =>
    have hexec : exec (.revolutionPulse st) s = .next (s.endPass st) := by
      have hpulse : exec (.revolutionPulse st) s = .next (s.pulse st) := rfl
      rw [hpulse, State.pulse_of_cutting hstate, if_pos (Nat.le_of_eq hcount)]
    have hretract := s.retracted_only st
    have htoolhome := State.level?_of_only hretract (by decide) st.toolhome
    refine ⟨fun q hnext hone hq => ?next, fun hlast haway => ?away, fun i n r hlast hhome hb hn hr hserved => ?home⟩
    case next =>
      rw [State.endPass_of_next hp hnext] at hexec
      have hplan := s.putPlan_only st (some { p with passIndex := p.passIndex + 1 })
      have hput := (s.putPlan st (some { p with passIndex := p.passIndex + 1 })).putCut_only st
        ((s.cut st).passEnded .approach)
      have hself : ((s.putPlan st (some { p with passIndex := p.passIndex + 1 })).putCut st
          ((s.cut st).passEnded .approach)).plan st = some { p with passIndex := p.passIndex + 1 } :=
        (State.plan_of_only hput (by decide) st).trans (Two.get_set_same s.plans st _)
      have hcut := (s.putPlan st (some { p with passIndex := p.passIndex + 1 })).putCut_cut_self st
        ((s.cut st).passEnded .approach)
      have hbegun : ((s.cut st).passEnded .approach).begun = false := rfl
      refine ⟨_, hexec, ?_⟩
      rw [State.driveApproach_eq hself hq, hcut, hbegun, if_neg Bool.false_ne_true]
      refine ⟨State.putCut_stations _ st _, State.putCut_plans _ st _, ?_,
        (hplan.step hput (show _ ⊆ [.plans, .stations, .notices] by decide) (by decide)).step
          (State.driveTool_only _ st _) (by decide) (by decide)⟩
      rw [State.driveTool_axes, State.putCut_axes, State.putPlan_axes]
    case away =>
      rw [State.endPass_of_last hp hlast, State.testHome_of_away (htoolhome.trans haway)] at hexec
      have hstart := (s.retracted st).testStart_only
      have hfree := ((s.retracted st).testStart_freesStation st).1
      have hcut : ((s.retracted st).testStart.cut st).state = .retract ∧
          ((s.retracted st).testStart.cut st).completed = (s.cut st).completed + 1 ∧
          ((s.retracted st).testStart.cut st).counter = 0 := by
        have hnot : ((s.retracted st).cut st).state ≠ .held := by rw [s.retracted_cut]; exact nofun
        rw [CutStation.released_of_not_held hnot, s.retracted_cut] at hfree
        obtain h | h := hfree <;> rw [h] <;> exact ⟨rfl, rfl, rfl⟩
      obtain ⟨hnow, hdone, hzero⟩ := hcut
      refine ⟨_, hexec, hnow, hdone, hzero, ?_, ?_, ?_, fun hbacklog => ?_⟩
      · exact ((State.plan_of_only hstart (by decide) st).trans (State.plan_of_only hretract (by decide) st)).trans hp
      · exact (hstart.2 .store (by decide)).trans (hretract.2 .store (by decide))
      · exact (hstart.2 .context (by decide)).trans (hretract.2 .context (by decide))
      · have hlevel : (s.retracted st).level = s.level := hretract.2 .level (by decide)
        rw [State.testStart_of_no_backlog (by rw [hlevel, hbacklog])]
        exact ⟨s.retracted_axes st, hretract.mono (by decide)⟩
    case home =>
      have hnow : ((s.retracted st).cut st).state = .retract := by rw [s.retracted_cut]; rfl
      rw [State.endPass_of_last hp hlast, State.testHome_of_retract (htoolhome.trans hhome) hnow] at hexec
      have hstore : (s.retracted st).store = s.store := hretract.2 .store (by decide)
      have hcontext : (s.retracted st).context = s.context := hretract.2 .context (by decide)
      have hslot : (s.retracted st).slot i = s.slot i := by rw [State.slot, hcontext, State.slot]
      have hbound : (s.retracted st).boundSlot st = some i :=
        (State.keepsRecords.boundSlot (State.keepsRecords_of_only hretract (by decide)) st).trans hb
      have hdone := State.completeCut_completesCut (by rw [hstore]; exact hserved) hbound (by rw [hslot]; exact hn)
        (by rw [hslot]; exact hr) ((State.plan_of_only hretract (by decide) st).trans hp)
      rw [s.retracted_cut] at hdone
      have hstart := ((s.retracted st).completeCut st).testStart_only
      exact ⟨_, hexec, (hdone.from hstore hcontext (hretract.2 .plans (by decide))).keeps
        (State.testStart_freesStation _ st) (hstart.2 .store (by decide)) (hstart.2 .context (by decide))
        (hstart.2 .plans (by decide))⟩
  case rise =>
    obtain ⟨hexec, hhome⟩ := exec_debounceExpiry_toolhome hrun hraw
    rw [State.testHome_of_retract hhome hstate] at hexec
    have hacc := s.acceptLevel_only st.toolhome
    have hdone : State.completesCut st i p ((s.acceptLevel st.toolhome).cut st).completed n r
        (s.acceptLevel st.toolhome) ((s.acceptLevel st.toolhome).completeCut st) :=
      State.completeCut_completesCut (s := s.acceptLevel st.toolhome) hserved hb hn hr hp
    exact ⟨_, hexec, hdone.from (hacc.2 .store (by decide)) (hacc.2 .context (by decide)) (hacc.2 .plans (by decide))⟩

end Sys2Proof.Machine
end

section
/-! PROOFS. Chapter 10: a station aborted by CUT ABORT, and its end with the tools home (R172, R174). -/

namespace Sys2Proof.Machine

/-! ### The record of a bound slot rewritten, and the slot made most recent (R9, R23) -/

/-- From `s` to `t` slot `i` has the working copy `w`, which a WRITE takes to the store, and every other slot is what it
was. -/
structure State.rewritesSlot (i : Ix) (n : Nat) (w : Record) (s t : State) : Prop where
  slot : t.slot i = { s.slot i with working := some w, dirty := !(s.store.scanned && s.store.service.isNone) }
  rest : ∀ j, j ≠ i → t.slot j = s.slot j
  results : t.context.results = s.context.results
  lost : t.context.resultsLost = s.context.resultsLost
  write : s.writesBack t n i []

section
variable {s t u : State} {st : Station} {i : Ix} {n : Nat} {w r : Record}

/-- The rewriting reads of its beginning and of its end the store and the slots. -/
theorem State.rewritesSlot.of_same (h : State.rewritesSlot i n w s t) {s' t' : State} (hstore : s'.store = s.store)
    (hcontext : s'.context = s.context) (tstore : t'.store = t.store) (tcontext : t'.context = t.context) :
    State.rewritesSlot i n w s' t' := by
  have sslot (j : Ix) : s'.slot j = s.slot j := by rw [State.slot, hcontext, State.slot]
  have tslot (j : Ix) : t'.slot j = t.slot j := by rw [State.slot, tcontext, State.slot]
  obtain ⟨hslot, hrest, hresults, hlost, hwrite⟩ := h
  exact ⟨by rw [tslot, sslot, hslot, hstore], fun j hj => by rw [tslot, sslot, hrest j hj],
    by rw [tcontext, hresults, hcontext], by rw [tcontext, hlost, hcontext],
    hwrite.of_eq hstore tstore (by rw [tslot]) (by rw [tslot])⟩

theorem State.rewriteBound_rewritesSlot (hserved : s.store.fifoServed) (hb : s.boundSlot st = some i)
    (hn : (s.slot i).serial = some n) (hr : (s.slot i).working = some r) (f : Record → Record) :
    State.rewritesSlot i n (f r) s (s.rewriteBound st f) := by
  obtain ⟨hresults, hlost⟩ := State.rewriteBound_results hserved hb hn f
  exact ⟨State.rewriteBound_slot_self hserved hb hn hr f,
    fun j hj => State.rewriteBound_slot_of_ne hserved hb hn f hj, hresults, hlost,
    State.rewriteBound_writesBack hserved hb hn f⟩

/-- A slot rewritten is what it was but for its working copy. -/
theorem State.rewritesSlot.boundSlot (h : State.rewritesSlot i n w s t) (st : Station) :
    t.boundSlot st = s.boundSlot st := by
  refine State.boundSlot_of_keys (fun j => ?_) st
  by_cases hj : j = i
  · rw [hj, h.slot]; rfl
  · rw [h.rest j hj]

/-- The slot rewritten is the one that becomes most recent, so every other slot moves back as it would have. -/
theorem State.rewritesSlot.touched (h : State.rewritesSlot i n w s t) (hb : s.boundSlot st = some i) :
    (t.touchStation st).slot i =
        { s.slot i with working := some w, rank := 0, dirty := !(s.store.scanned && s.store.service.isNone) } ∧
      (∀ j, j ≠ i → (t.touchStation st).slot j = (s.context.touch i).slots.get j) ∧
      (t.touchStation st).context.results = s.context.results ∧
      (t.touchStation st).context.resultsLost = s.context.resultsLost ∧ s.writesBack (t.touchStation st) n i [] := by
  have htouch : t.touchStation st = t.touchSlot i := by
    rw [State.touchStation, (h.boundSlot st).trans hb]
  have hself : (t.touchSlot i).slot i = { t.slot i with rank := 0 } := Context.touch_get_self t.context i
  rw [htouch]
  refine ⟨?_, fun j hj => ?_, h.results, h.lost, h.write.of_eq rfl rfl ?_ ?_⟩
  · rw [hself, h.slot]
  · have hrank : (t.slot i).rank = (s.slot i).rank := by rw [h.slot]
    rw [State.slot, State.slot] at hrank
    have hget : t.context.slots.get j = s.context.slots.get j := h.rest j hj
    exact (Context.touch_get_of_ne t.context hj).trans (by rw [hrank, hget, Context.touch_get_of_ne s.context hj])
  · rw [hself]
  · rw [hself]

end

/-! ### A command accepted that makes the bound slot most recent -/

section
variable {c : Instr} {s s1 u : State} {kind tag : Byte} {r : Answered} {st : Station}

theorem exec_of_touched (hexec : exec c s = .next (r.sent kind tag)) (hr : r = (u.touchStation st).accept)
    (hlink : u.link = s1.link) :
    exec c s = .next ((u.touchStation st).replied kind tag .ok .none) ∧
      s1.answers ((u.touchStation st).replied kind tag .ok .none) kind tag .ok .none ∧
      Only [.context, .link] u ((u.touchStation st).replied kind tag .ok .none) := by
  have htouch := u.touchStation_only st
  have htlink : (u.touchStation st).link = s1.link := by rw [htouch.2 .link (by decide), hlink]
  obtain ⟨hnext, hanswers⟩ := exec_of_accept hexec hr htlink
  exact ⟨hnext, hanswers, State.only_replied_of htouch ..⟩

/-- Where the owner left the slots as they were, the slot of the station is all that changed there. -/
theorem State.touchStation_context (hcontext : u.context = s1.context) (st : Station) :
    (u.touchStation st).context = (s1.touchStation st).context := by
  rw [State.touchStation_eq st hcontext]

end

/-! ### An abort that completes (R172) -/

section
variable {s : State} {st : Station} {i : Ix} {n : Nat} {r : Record}

theorem State.removePlan_plans (s : State) (st : Station) : (s.removePlan st).plans = s.plans.set st none := by
  unfold State.removePlan
  split
  next => rfl
  next h =>
    have hnone : s.plans.get st = none := by simpa [State.plan] using h
    rw [← hnone, Two.set_get_self]

/-- The completion of an abort of kind CUT: the station, the plans, the record and the rest. -/
theorem State.completeAbort_stations (hk : (s.cut st).abortKind = .cut) :
    (s.completeAbort st).stations =
      s.stations.set st { s.cut st with state := .idle, abortKind := .none, preCut := none } := by
  rw [State.completeAbort_of_cut hk, State.putCut_stations, State.treatCut_stations]

theorem State.completeAbort_plans (hk : (s.cut st).abortKind = .cut) :
    (s.completeAbort st).plans = s.plans.set st none := by
  have hplans : (s.rewriteBound st (s.cut st).treatEntry).plans = s.plans :=
    (s.rewriteBound_only st _).2 .plans (by decide)
  have htreat : (s.treatCut st).plans = (s.rewriteBound st (s.cut st).treatEntry).plans.set st none :=
    State.removePlan_plans _ st
  rw [State.completeAbort_of_cut hk, State.putCut_plans, htreat, hplans]

theorem State.completeAbort_rewritesSlot (hserved : s.store.fifoServed) (hb : s.boundSlot st = some i)
    (hn : (s.slot i).serial = some n) (hr : (s.slot i).working = some r) (hk : (s.cut st).abortKind = .cut) :
    State.rewritesSlot i n ((s.cut st).treatEntry r) s (s.completeAbort st) := by
  have hafter : Only [.plans, .notices, .stations] (s.rewriteBound st (s.cut st).treatEntry) (s.completeAbort st) := by
    rw [State.completeAbort_of_cut hk]
    exact (s.treatCut_rewrites st).step (State.putCut_only _ st _) (by decide) (by decide)
  exact (State.rewriteBound_rewritesSlot hserved hb hn hr _).of_same rfl rfl (hafter.2 .store (by decide))
    (hafter.2 .context (by decide))

/-- The completion of a recovery touches the station alone (R174). -/
theorem State.completeAbort_recovery (hk : (s.cut st).abortKind ≠ .cut) :
    (s.completeAbort st).stations = s.stations.set st { s.cut st with state := .idle, abortKind := .none } ∧
      Only [.stations, .notices] s (s.completeAbort st) := by
  rw [State.completeAbort_of_recovery hk]
  exact ⟨State.putCut_stations s st _, s.putCut_only st _⟩

end

/-! ### CUT ABORT (R172, R174) -/

section
variable {s : State} {st : Station}

theorem exec_cutAbort_handed {tag : Byte} {payload : List Byte} {s1 : State} (hp : stationParam payload = .ok st)
    (hs : s.handed 0x63 tag payload = some s1) :
    exec (.cutAbort tag payload) s = .next ((s1.cutAbort st).sent 0x63 tag) := State.plainCommand_next hp hs

/-- What an abort from a state at work comes to: the departure, and from a state in work the test of the start
condition after it. -/
theorem State.cutAbort_of_working
    (h : (s.cut st).state = .approach ∨ (s.cut st).state = .cutting ∨ (s.cut st).state = .holding ∨
      (s.cut st).state = .held) :
    ∃ u, s.cutAbort st = (u.touchStation st).accept ∧ State.freesStation st (s.enterAborting .cut st) u ∧
      Only [.lift, .level, .stations, .axes, .notices] (s.enterAborting .cut st) u ∧
      (s.level.backlog = 0 → u = s.enterAborting .cut st) := by
  have hlevel : (s.enterAborting .cut st).level = s.level := (s.enterAborting_only .cut st).2 .level (by decide)
  have htested (h : s.cutAbort st = (((s.enterAborting .cut st).testStart).touchStation st).accept) :
      ∃ u, s.cutAbort st = (u.touchStation st).accept ∧ State.freesStation st (s.enterAborting .cut st) u ∧
        Only [.lift, .level, .stations, .axes, .notices] (s.enterAborting .cut st) u ∧
        (s.level.backlog = 0 → u = s.enterAborting .cut st) :=
    ⟨_, h, State.testStart_freesStation _ st, State.testStart_only _,
      fun hb => State.testStart_of_no_backlog (by rw [hlevel, hb])⟩
  obtain h | h | h | h := h
  · exact htested (by simp only [State.cutAbort, h])
  · exact htested (by simp only [State.cutAbort, h])
  · exact htested (by simp only [State.cutAbort, h])
  · exact ⟨_, by simp only [State.cutAbort, h], .refl, .refl _ _, fun _ => rfl⟩

theorem State.cutAbort_of_stopped (h : (s.cut st).state = .stopped) : s.cutAbort st =
    if s.level? .estopOk then ((s.enterAborting .recovery st).touchStation st).accept
    else s.refuse .causePresent := by
  simp only [State.cutAbort, h]

/-- What a recovery leaves of a station: in IDLE with its tools home, else on its way (R174). -/
theorem State.enterAborting_recovery (s : State) (st : Station) :
    (s.enterAborting .recovery st).stations = s.stations.set st
        (if s.level? st.toolhome then { s.cut st with state := .idle, abortKind := .none, holds := CutCauses.empty }
          else { s.cut st with state := .aborting, abortKind := .recovery, holds := CutCauses.empty }) ∧
      (s.enterAborting .recovery st).axes = { s.axes with tool := s.axes.tool.set st .home } ∧
      Only [.stations, .axes, .notices] s (s.enterAborting .recovery st) := by
  have hput := s.putCut_only st { s.cut st with
    state := .aborting
    abortKind := .recovery
    holds := CutCauses.empty }
  have hcut := s.putCut_cut_self st { s.cut st with
    state := .aborting
    abortKind := .recovery
    holds := CutCauses.empty }
  have hstations := State.putCut_stations s st { s.cut st with
    state := .aborting
    abortKind := .recovery
    holds := CutCauses.empty }
  have haxes := State.putCut_axes s st { s.cut st with
    state := .aborting
    abortKind := .recovery
    holds := CutCauses.empty }
  have henter : s.enterAborting .recovery st = ((s.putCut st { s.cut st with
    state := .aborting
    abortKind := .recovery
    holds := CutCauses.empty }).driveTool st .home).testHome st := rfl
  rw [henter]
  generalize s.putCut st { s.cut st with
    state := .aborting
    abortKind := .recovery
    holds := CutCauses.empty } = v at hput hcut hstations haxes ⊢
  have honly : Only [.stations, .axes, .notices] s (v.driveTool st .home) :=
    hput.step (State.driveTool_only v st .home) (by decide) (by decide)
  have hdcut : (v.driveTool st .home).cut st = v.cut st := rfl
  cases hhome : s.level? st.toolhome with
  | false =>
    rw [State.testHome_of_away ((State.level?_of_only honly (by decide) _).trans hhome), if_neg Bool.false_ne_true]
    exact ⟨hstations, by rw [State.driveTool_axes, haxes], honly⟩
  | true =>
    have hstate : ((v.driveTool st .home).cut st).state = .aborting := by rw [hdcut, hcut]
    have hkind : ((v.driveTool st .home).cut st).abortKind ≠ .cut := by rw [hdcut, hcut]; exact nofun
    obtain ⟨hdone, hlast⟩ := State.completeAbort_recovery hkind
    rw [State.testHome_of_aborting ((State.level?_of_only honly (by decide) _).trans hhome) hstate, if_pos rfl]
    refine ⟨?_, ?_, honly.step hlast (by decide) (by decide)⟩
    · rw [hdone, hdcut, hcut, State.driveTool_stations, hstations, Two.set_set_same]
    · rw [show _ = _ from hlast.2 .axes (by decide), State.driveTool_axes, haxes]

end

/-- Settles O52: CUT ABORT by the state of the station and by the tools, and the accepted rise of TOOLHOME_x. -/
theorem abortsTreatTheEntry : Obligations.AbortsTreatTheEntry := by
  constructor
  · intro tag payload st s s1 hp hs x working home
    have hcommand := exec_cutAbort_handed hp hs
    have hhomeAxes (h : working) : home =
        { s1.axes with roller := s1.axes.roller.set st .stop, tool := s1.axes.tool.set st .home } := by
      have hnot : x.state ≠ .stopped := by rcases h with h | h | h | h <;> rw [h] <;> exact nofun
      exact congrArg (fun d => ({ s1.axes with roller := d, tool := s1.axes.tool.set st .home } : Axes)) (if_neg hnot)
    refine ⟨fun hwork haway => ?away, fun i n r hwork hhome hserved hb hn hr => ?home, fun hab => ?aborting,
      fun hstopped => ⟨fun hestop => ?refused, fun hestop => ?recovery⟩, fun hrest => ?rest⟩
    case away =>
      obtain ⟨u, howner, ⟨hfree, _⟩, hlast, hquiet⟩ := State.cutAbort_of_working hwork
      obtain ⟨hcut, haxes, hstations, honly⟩ := State.enterAborting_cut_away haway
      have hall : Only [.lift, .level, .stations, .axes, .notices] s1 u :=
        (honly.mono (by decide)).trans hlast
      obtain ⟨hexec, hanswers, hreplied⟩ := exec_of_touched hcommand howner (hall.2 .link (by decide))
      have hcutt := State.cut_of_only hreplied (by decide) st
      have hnow : (u.cut st).state = .aborting ∧ (u.cut st).abortKind = .cut := by
        have hnot : ((s1.enterAborting .cut st).cut st).state ≠ .held := by rw [hcut]; exact nofun
        rw [CutStation.released_of_not_held hnot, hcut] at hfree
        obtain h | h := hfree <;> rw [h] <;> exact ⟨rfl, rfl⟩
      refine ⟨_, hexec, hanswers, (hreplied.2 .plans (by decide)).trans (hall.2 .plans (by decide)),
        (hreplied.2 .store (by decide)).trans (hall.2 .store (by decide)),
        State.touchStation_context (hall.2 .context (by decide)) st, by rw [hcutt, hnow.1], by rw [hcutt, hnow.2],
        fun hbacklog => ?_⟩
      have hu := hquiet hbacklog
      rw [hu] at hreplied ⊢
      exact ⟨(hreplied.2 .stations (by decide)).trans hstations,
        ((hreplied.2 .axes (by decide)).trans haxes).trans (hhomeAxes hwork).symm,
        honly.step hreplied (by decide) (by decide)⟩
    case home =>
      obtain ⟨u, howner, ⟨hfree, _⟩, hlast, hquiet⟩ := State.cutAbort_of_working hwork
      have hall : Only [.context, .store, .plans, .lift, .level, .stations, .axes, .notices] s1 u :=
        (s1.enterAborting_only .cut st).step hlast (by decide) (by decide)
      obtain ⟨hexec, hanswers, hreplied⟩ := exec_of_touched hcommand howner (hall.2 .link (by decide))
      obtain ⟨hcut, hplan, hother⟩ := State.enterAborting_cut_home_rest hhome
      have hsent := s1.sentHome_only st
      have hkind : ((s1.sentHome st).cut st).abortKind = .cut := by rw [s1.sentHome_cut]
      have hstore : (s1.sentHome st).store = s1.store := hsent.2 .store (by decide)
      have hcontext : (s1.sentHome st).context = s1.context := hsent.2 .context (by decide)
      have hslot : (s1.sentHome st).slot i = s1.slot i := by rw [State.slot, hcontext, State.slot]
      have hdone := State.completeAbort_rewritesSlot (s := s1.sentHome st) (st := st) (by rw [hstore]; exact hserved)
        ((State.keepsRecords.boundSlot (State.keepsRecords_of_only hsent (by decide)) st).trans hb)
        (by rw [hslot]; exact hn) (by rw [hslot]; exact hr) hkind
      rw [← State.enterAborting_cut_home hhome, s1.sentHome_cut] at hdone
      have hrewrites : State.rewritesSlot i n (x.treatEntry r) s1 u :=
        hdone.of_same hstore.symm hcontext.symm (hlast.2 .store (by decide)) (hlast.2 .context (by decide))
      obtain ⟨hself, hslots, hresults, hlost, hwrite⟩ := hrewrites.touched hb
      have hnow : (u.cut st).state = .idle ∧ (u.cut st).abortKind = .none ∧ (u.cut st).preCut = none ∧
          (u.cut st).material = x.material := by
        have hnot : ((s1.enterAborting .cut st).cut st).state ≠ .held := by rw [hcut]; exact nofun
        rw [CutStation.released_of_not_held hnot, hcut] at hfree
        obtain h | h := hfree <;> rw [h] <;> exact ⟨rfl, rfl, rfl, rfl⟩
      rw [← State.cut_of_only hreplied (by decide) st] at hnow
      obtain ⟨hstate, habort, hpre, hmaterial⟩ := hnow
      have hplant (x : Station) : ((u.touchStation st).replied 0x63 tag .ok .none).plan x =
          (s1.enterAborting .cut st).plan x :=
        (State.plan_of_only hreplied (by decide) x).trans (State.plan_of_only hlast (by decide) x)
      obtain ⟨haborted, hputback⟩ := x.treatEntry_treatsTo r
      have hworking : (((u.touchStation st).replied 0x63 tag .ok .none).slot i).working = some (x.treatEntry r) :=
        congrArg Slot.working hself
      refine ⟨_, hexec, hanswers, hstate, habort, hpre, hmaterial, (hplant st).trans hplan,
        (hplant st.other).trans hother, congrArg Slot.rank hself,
        fun rest e c he hr hk hc => hworking.trans (haborted rest e c he hr hk hc),
        fun kept he hk => hworking.trans (hputback kept he hk), hwrite, hslots, hresults, hlost, fun hbacklog => ?_⟩
      have hu := hquiet hbacklog
      have hafter : Only [.context, .store, .plans, .stations, .notices] (s1.sentHome st) (s1.enterAborting .cut st) := by
        rw [State.enterAborting_cut_home hhome]
        exact State.completeAbort_only _ st
      have haxes : (s1.sentHome st).axes =
          { s1.axes with roller := s1.axes.roller.set st .stop, tool := s1.axes.tool.set st .home } := by
        have hput : (s1.putCut st { s1.cut st with
          state := .aborting
          abortKind := .cut
          holds := CutCauses.empty }).axes = s1.axes := State.putCut_axes s1 st _
        simp only [State.sentHome, State.sendHome, State.driveRoller_axes, State.driveTool_axes, hput]
      rw [hu] at hreplied ⊢
      exact ⟨(((hreplied.2 .axes (by decide)).trans (hafter.2 .axes (by decide))).trans haxes).trans
        (hhomeAxes hwork).symm, (s1.enterAborting_only .cut st).step hreplied (by decide) (by decide)⟩
    case aborting =>
      have howner : s1.cutAbort st = (s1.touchStation st).accept := by
        have hab' : (s1.cut st).state = .aborting := hab
        simp only [State.cutAbort, hab']
      rw [(exec_of_touched hcommand howner rfl).1]
      refine congrArg Host.Outcome.next ?_
      rw [State.touchStation_eq st (s := s1) (s1 := s1) rfl]
      rfl
    case refused =>
      refine exec_of_refuse hcommand ((State.cutAbort_of_stopped hstopped).trans (if_neg ?_))
      rw [hestop]
      exact Bool.false_ne_true
    case recovery =>
      have howner := (State.cutAbort_of_stopped hstopped).trans (if_pos hestop)
      obtain ⟨hstations, haxes, honly⟩ := s1.enterAborting_recovery st
      obtain ⟨hexec, hanswers, hreplied⟩ := exec_of_touched hcommand howner (honly.2 .link (by decide))
      have hhome : home = { s1.axes with tool := s1.axes.tool.set st .home } :=
        congrArg (fun d => ({ s1.axes with roller := d, tool := s1.axes.tool.set st .home } : Axes)) (if_pos hstopped)
      exact ⟨_, hexec, hanswers, (hreplied.2 .stations (by decide)).trans hstations,
        ((hreplied.2 .axes (by decide)).trans haxes).trans hhome.symm,
        State.touchStation_context (honly.2 .context (by decide)) st, honly.step hreplied (by decide) (by decide)⟩
    case rest =>
      refine exec_of_refuse hcommand ?_
      obtain h | h := hrest
      · have h' : (s1.cut st).state = .idle := h
        simp only [State.cutAbort, h']
      · have h' : (s1.cut st).state = .retract := h
        simp only [State.cutAbort, h']
  · intro st s length hrun hraw hstate
    obtain ⟨hexec, hhome⟩ := exec_debounceExpiry_toolhome hrun hraw
    have hacc := s.acceptLevel_only st.toolhome
    have hcut : (s.acceptLevel st.toolhome).cut st = s.cut st := State.cut_of_only hacc (by decide) st
    rw [State.testHome_of_aborting hhome (by rw [hcut, hstate])] at hexec
    refine ⟨fun hkind => ?recovered, fun i n r hkind hserved hb hn hr => ?aborted⟩
    case recovered =>
      have hk : ((s.acceptLevel st.toolhome).cut st).abortKind ≠ .cut := by rw [hcut]; exact hkind
      obtain ⟨hstations, honly⟩ := State.completeAbort_recovery hk
      exact ⟨_, hexec, hstations, hacc.step honly (by decide) (by decide)⟩
    case aborted =>
      have hk : ((s.acceptLevel st.toolhome).cut st).abortKind = .cut := by rw [hcut]; exact hkind
      have hrewrites := State.completeAbort_rewritesSlot (s := s.acceptLevel st.toolhome) hserved hb hn hr hk
      obtain ⟨haborted, hputback⟩ := ((s.acceptLevel st.toolhome).cut st).treatEntry_treatsTo r
      have hworking := congrArg Slot.working hrewrites.slot
      exact ⟨_, hexec, State.completeAbort_stations hk, State.completeAbort_plans hk,
        fun rest e c he hr hkd hc => hworking.trans (haborted rest e c he hr hkd hc),
        fun kept he hkp => hworking.trans (hputback kept he hkp), hrewrites.rest,
        hrewrites.write.of_eq (hacc.2 .store (by decide)).symm rfl rfl rfl, hrewrites.results, hrewrites.lost,
        hacc.step (State.completeAbort_only _ st) (by decide) (by decide)⟩

end Sys2Proof.Machine
end

section
/-! PROOFS. Chapter 4: the owed re-levels (R64, R65), begun where a point is off level and completed where none is, and
the end of an urgent demand (R68). -/

namespace Sys2Proof.Machine

/-! ### The start condition (R64) -/

section
variable {s t u : State} {pit : Pit}

theorem Four.any_iff (m : Four Bool) : m.toList.any id = true ↔ m ≠ Four.const false := by
  obtain ⟨a, b, c, d⟩ := m
  cases a <;> cases b <;> cases c <;> cases d <;> decide

theorem State.pitIdle_iff : s.pitIdle = true ↔
    (∀ st, (s.cut st).state.inWork = false) ∧ ∀ st, (s.sweepOf st).state.inMotion = false := by
  have hall (P : Station → Prop) : (∀ st, P st) ↔ P .a ∧ P .b := ⟨fun h => ⟨h .a, h .b⟩, fun h st => by
    cases st
    · exact h.1
    · exact h.2⟩
  rw [hall, hall]
  simp [State.pitIdle, and_assoc]

theorem State.startCondition_iff : s.startCondition = true ↔
    s.lift.state = .raised ∧ s.level.relevel = none ∧ 0 < s.level.backlog ∧ s.pitIdle = true := by
  simp [State.startCondition, and_assoc]

/-- The pit is as idle in a state with the same stations and the same sweeps. -/
theorem State.pitIdle_of_only {l : List Block} (h : Only l s t) (hs : Block.stations ∉ l) (hc : Block.capture ∉ l) :
    t.pitIdle = s.pitIdle := by
  have hcapture : t.capture = s.capture := h.2 .capture hc
  simp only [State.pitIdle, State.cut_of_only h hs, State.sweepOf, hcapture]

/-- Which points are off level is not a matter of their valves. -/
theorem Lift.offLevel_revalve (l : Lift) (m : Option (Four Bool)) (band : Int) :
    (l.revalve m).offLevel band = l.offLevel band := rfl

/-! ### A re-level begun (R65) -/

theorem State.testStart_of_off (hpit : s.setup.pit = some pit) (hstart : s.startCondition = true)
    (hoff : s.lift.offLevel pit.relevelBand ≠ Four.const false) :
    s.testStart = s.beginRelevel (s.lift.offLevel pit.relevelBand) pit := by
  obtain ⟨_, _, howed, _⟩ := State.startCondition_iff.1 hstart
  obtain ⟨n, hn⟩ := Nat.exists_eq_succ_of_ne_zero (Nat.pos_iff_ne_zero.1 howed)
  rw [State.testStart, hn]
  simp only [State.startRelevels, hpit, if_pos hstart, if_pos ((Four.any_iff _).2 hoff)]

/-! ### All that is owed completed at once (R65, R68) -/

/-- Level Maintenance and the lift as the completion of a re-level that moves nothing leaves them, before the end of an
urgent demand. -/
def State.stepPaid (s : State) : State :=
  s.putLift { s.lift with moveTimer := .stopped } { s.level with backlog := s.level.backlog - 1, relevel := none }

theorem State.completeRelevel_false (s : State) :
    s.completeRelevel false =
      if s.level.backlog - 1 = 0 ∧ s.level.urgent = true then s.stepPaid.endUrgent else s.stepPaid := by
  have hlevel (v : Level) (l : Lift) : (s.putLift l v).level = v := State.putLift_level s l v
  simp only [State.completeRelevel, State.stepPaid, hlevel, Bool.false_eq_true, if_false]

theorem State.stepPaid_notices (h : 0 < s.level.backlog) : s.stepPaid.notices = (s.notify .lift).notices := by
  refine (State.putLift_notices s _ _).trans (if_neg fun hsame => ?_)
  have hback := congrArg Level.backlog hsame.2
  simp only [Level.seen] at hback
  omega

theorem Level.paid_eq {v : Level} {n : Nat} (hn : v.backlog = n + 1) (hnone : v.relevel = none) :
    { v with backlog := v.backlog - 1, relevel := none } = { v with backlog := n } := by
  obtain ⟨backlog, interval, epoch, relevel, urgent, parkStep, dwell, unparkPending, lockRaised, relief⟩ := v
  obtain rfl : backlog = n + 1 := hn
  obtain rfl : relevel = none := hnone
  rfl

theorem State.stepPaid_level {n : Nat} (hn : s.level.backlog = n + 1) (hnone : s.level.relevel = none) :
    s.stepPaid.level = { s.level with backlog := n } := (State.putLift_level ..).trans (Level.paid_eq hn hnone)

theorem State.stepPaid_only (s : State) : Only [.lift, .level, .notices] s s.stepPaid := s.putLift_only _ _

theorem State.stepPaid_setup (s : State) : s.stepPaid.setup = s.setup := s.stepPaid_only.2 .setup (by decide)

theorem State.stepPaid_offLevel (s : State) (band : Int) : s.stepPaid.lift.offLevel band = s.lift.offLevel band := by
  have hlift : s.stepPaid.lift = ({ s.lift with moveTimer := .stopped } : Lift).revalve none := State.putLift_lift ..
  rw [hlift, Lift.offLevel_revalve]
  rfl

/-- While more than one is owed the next one starts at once. -/
theorem State.stepPaid_startCondition {n : Nat} (hn : s.level.backlog = n + 2) (hstart : s.startCondition = true) :
    s.stepPaid.startCondition = true := by
  obtain ⟨hraised, hnone, _, hidle⟩ := State.startCondition_iff.1 hstart
  have hlevel := State.stepPaid_level hn hnone
  have hlift : s.stepPaid.lift = ({ s.lift with moveTimer := .stopped } : Lift).revalve none := State.putLift_lift ..
  refine State.startCondition_iff.2 ⟨by rw [hlift]; exact hraised, by rw [hlevel]; exact hnone,
    by rw [hlevel]; exact n.succ_pos, ?_⟩
  rw [State.pitIdle_of_only s.stepPaid_only (by decide) (by decide), hidle]

theorem State.startRelevels_succ_of_level (hpit : s.setup.pit = some pit)
    (hoff : s.lift.offLevel pit.relevelBand = Four.const false) (hstart : s.startCondition = true) (n : Nat) :
    State.startRelevels (n + 1) s = State.startRelevels n (s.completeRelevel false) := by
  have hany : ¬(s.lift.offLevel pit.relevelBand).toList.any id = true := fun h => (Four.any_iff _).1 h hoff
  simp only [State.startRelevels, hpit, if_pos hstart, if_neg hany]

/-- The re-levels that are owed, when no point is off level: each is completed at once, and with the last of them an
urgent demand ends. -/
theorem State.startRelevels_of_level {pit : Pit} (n : Nat) : ∀ {s : State}, s.setup.pit = some pit →
    s.lift.offLevel pit.relevelBand = Four.const false → s.level.backlog = n + 1 → s.startCondition = true →
    ∃ v, State.startRelevels (n + 1) s = (if s.level.urgent = true then v.endUrgent else v) ∧
      v.level = { s.level with backlog := 0 } ∧ v.notices = (s.notify .lift).notices ∧
      Only [.lift, .level, .notices] s v := by
  induction n with
  | zero =>
    intro s hpit hoff hn hstart
    obtain ⟨_, hnone, howed, _⟩ := State.startCondition_iff.1 hstart
    refine ⟨s.stepPaid, ?_, State.stepPaid_level hn hnone, State.stepPaid_notices howed, s.stepPaid_only⟩
    rw [State.startRelevels_succ_of_level hpit hoff hstart, State.startRelevels, State.completeRelevel_false, hn]
    simp
  | succ n ih =>
    intro s hpit hoff hn hstart
    obtain ⟨_, hnone, howed, _⟩ := State.startCondition_iff.1 hstart
    have hlevel := State.stepPaid_level hn hnone
    obtain ⟨v, hv, hvlevel, hvnotices, honly⟩ := ih (s := s.stepPaid) (by rw [s.stepPaid_setup, hpit])
      (by rw [s.stepPaid_offLevel, hoff]) (by rw [hlevel]) (State.stepPaid_startCondition hn hstart)
    have hmore : ¬(s.level.backlog - 1 = 0 ∧ s.level.urgent = true) := by rw [hn]; exact fun h => Nat.succ_ne_zero n h.1
    refine ⟨v, ?_, by rw [hvlevel, hlevel], ?_, s.stepPaid_only.trans honly⟩
    · rw [State.startRelevels_succ_of_level hpit hoff hstart, State.completeRelevel_false, if_neg hmore, hv, hlevel]
    · have htwice : (s.stepPaid.notify .lift).notices = ((s.notify .lift).notify .lift).notices :=
        congrArg (fun x : Notices => x.set .lift (x.get .lift).event) (State.stepPaid_notices howed)
      rw [hvnotices, htwice, State.notify_notify]

theorem State.testStart_of_level (hpit : s.setup.pit = some pit)
    (hoff : s.lift.offLevel pit.relevelBand = Four.const false) (hstart : s.startCondition = true) :
    ∃ v, s.testStart = (if s.level.urgent = true then v.endUrgent else v) ∧
      v.level = { s.level with backlog := 0 } ∧ v.notices = (s.notify .lift).notices ∧
      Only [.lift, .level, .notices] s v := by
  obtain ⟨_, _, howed, _⟩ := State.startCondition_iff.1 hstart
  obtain ⟨n, hn⟩ := Nat.exists_eq_succ_of_ne_zero (Nat.pos_iff_ne_zero.1 howed)
  rw [State.testStart, hn]
  exact State.startRelevels_of_level n hpit hoff hn hstart

/-! ### The end of an urgent demand (R68) -/

theorem State.removeLevel_level (s : State) (st : Station) : (s.removeLevel st).level = s.level := by
  have hput := s.putCut_only st { s.cut st with holds := { (s.cut st).holds with level := false } }
  have hleave := State.leaveHeld_only (s.putCut st { s.cut st with
    holds := { (s.cut st).holds with level := false } }) st
  exact (hleave.2 .level (by decide)).trans (hput.2 .level (by decide))

theorem State.endUrgent_level (s : State) : s.endUrgent.level = { s.level with urgent := false } := by
  have h : (s.putLift s.lift { s.level with urgent := false }).level = { s.level with urgent := false } :=
    State.putLift_level ..
  rw [State.endUrgent, State.removeLevel_level, State.removeLevel_level, h]

theorem State.endUrgent_cut (s : State) (st : Station) : s.endUrgent.cut st = (s.cut st).released := by
  have hput (x : Station) : (s.putLift s.lift { s.level with urgent := false }).cut x = s.cut x := State.putLift_cut ..
  rw [State.endUrgent, State.removeLevel_cut, State.removeLevel_cut, State.removeLevel_cut, hput, hput]
  cases st <;> rfl

/-- The drives of a station that is not released from HELD have no new demand. -/
theorem State.removeLevel_sameDrives (s : State) {st st' : Station}
    (h : st' ≠ st ∨ ¬((s.cut st).state = .held ∧ { (s.cut st).holds with level := false } = CutCauses.empty)) :
    State.sameDrives st' s (s.removeLevel st) := by
  have hput := s.putCut_cut_self st { s.cut st with holds := { (s.cut st).holds with level := false } }
  have hsame := State.sameDrives_of_only
    (s.putCut_only st { s.cut st with holds := { (s.cut st).holds with level := false } }) (by decide) st'
  rw [State.removeLevel]
  dsimp only
  by_cases hheld : (s.cut st).state = .held ∧ { (s.cut st).holds with level := false } = CutCauses.empty
  · have hleave := (State.leaveHeld_of_held (by rw [hput]; exact hheld) st').2 (h.resolve_right (not_not.2 hheld))
    exact ⟨hleave.1.trans hsame.1, hleave.2.trans hsame.2⟩
  · rw [State.leaveHeld_of_not_held (by rw [hput]; exact hheld)]
    exact hsame

/-- What the end of an urgent demand does to the drives of a station is what taking LEVEL from it does. -/
theorem State.endUrgent_drives (s : State) (st : Station) : ∃ v, v.cut st = s.cut st ∧ v.plan st = s.plan st ∧
    State.sameDrives st s v ∧ State.sameDrives st (v.removeLevel st) s.endUrgent := by
  have hput := s.putLift_only s.lift { s.level with urgent := false }
  have hdrives := State.sameDrives_of_only hput (by decide) st
  cases st with
  | a =>
    exact ⟨s.putLift s.lift { s.level with urgent := false }, State.putLift_cut .., State.plan_of_only hput (by decide) _,
      hdrives, State.removeLevel_sameDrives _ (.inl (by decide))⟩
  | b =>
    have hfirst : State.sameDrives .b (s.putLift s.lift { s.level with urgent := false })
        ((s.putLift s.lift { s.level with urgent := false }).removeLevel .a) :=
      State.removeLevel_sameDrives _ (.inl (by decide))
    have hplan : ((s.putLift s.lift { s.level with urgent := false }).removeLevel .a).plan .b =
        (s.putLift s.lift { s.level with urgent := false }).plan .b :=
      (State.plan_of_only (State.leaveHeld_only _ .a) (by decide) .b).trans
        (State.plan_of_only (State.putCut_only _ .a _) (by decide) .b)
    refine ⟨(s.putLift s.lift { s.level with urgent := false }).removeLevel .a, ?_,
      hplan.trans (State.plan_of_only hput (by decide) _),
      ⟨hfirst.1.trans hdrives.1, hfirst.2.trans hdrives.2⟩, rfl, rfl⟩
    rw [State.removeLevel_cut]
    exact (if_neg (by decide)).trans (State.putLift_cut ..)

/-- A station released from HELD turns its rollers and goes back to the wheel (R68, R170). -/
theorem State.leaveHeld_drives {s : State} {st : Station}
    (h : (s.cut st).state = .held ∧ (s.cut st).holds = CutCauses.empty) :
    (s.leaveHeld st).stations = s.stations.set st { s.cut st with state := .approach } ∧
      (s.leaveHeld st).axes.roller = s.axes.roller.set st .turning ∧
      ∀ p q, s.plan st = some p → p.pass = some q → (s.leaveHeld st).axes =
        { s.axes with
          roller := s.axes.roller.set st .turning
          tool := s.axes.tool.set st
            (.position (if (s.cut st).begun then (s.cut st).heldAt.getD (p.zoneFirst * 1000) else p.zoneFirst * 1000)
              q.radius) } := by
  have hput := s.putCut_only st { s.cut st with state := .approach }
  have haxes : (s.putCut st { s.cut st with state := .approach }).axes = s.axes := hput.2 .axes (by decide)
  have hcut := s.putCut_cut_self st { s.cut st with state := .approach }
  rw [State.leaveHeld, if_pos h]
  refine ⟨?_, ?_, fun p q hp hq => ?_⟩
  · have hdrive := ((s.putCut st { s.cut st with state := .approach }).driveRoller st .turning).driveApproach_only st
    exact (hdrive.2 .stations (by decide)).trans (State.putCut_stations s st _)
  · unfold State.driveApproach
    split
    · rw [State.driveTool_axes, State.driveRoller_axes, haxes]
    · rw [State.driveRoller_axes, haxes]
  · have hplan : ((s.putCut st { s.cut st with state := .approach }).driveRoller st .turning).plan st = some p :=
      (State.plan_of_only hput (by decide) st).trans hp
    have hcut' : ((s.putCut st { s.cut st with state := .approach }).driveRoller st .turning).cut st =
      { s.cut st with state := .approach } := hcut
    rw [State.driveApproach_eq hplan hq, hcut', State.driveTool_axes, State.driveRoller_axes, haxes]

end

end Sys2Proof.Machine
end

section
/-! PROOFS. Chapter 10: feed holds, the tools backed off, and the resumption of a pass (R167 to R170). -/

namespace Sys2Proof.Machine

section
variable {s : State} {st : Station}

/-! ### FEED HOLD (R167, R168) -/

theorem exec_feedHold_handed {tag : Byte} {payload : List Byte} {s1 : State} (hp : stationParam payload = .ok st)
    (hs : s.handed 0x61 tag payload = some s1) :
    exec (.feedHold tag payload) s = .next ((s1.feedHold st).sent 0x61 tag) := State.plainCommand_next hp hs

theorem State.feedHold_of_holdable (h : (s.cut st).state.holdable = true) :
    s.feedHold st = ((s.giveCause .host st).touchStation st).accept := if_pos h

theorem State.giveCause_of_working (h : (s.cut st).state = .approach ∨ (s.cut st).state = .cutting) (c : CutCause) :
    s.giveCause c st = s.enterHolding c st := by
  obtain h | h := h <;> simp only [State.giveCause, h]

theorem State.giveCause_of_held (h : (s.cut st).state = .holding ∨ (s.cut st).state = .held) {c : CutCause}
    (hc : c ≠ .silence) : s.giveCause c st = s.putCut st { s.cut st with holds := (s.cut st).holds.add c } := by
  obtain h | h := h <;> simp only [State.giveCause, h, if_neg hc]

/-- A station that begins to hold for a cause (R167). -/
def CutStation.holdingFor (x : CutStation) (c : CutCause) : CutStation :=
  { x with state := .holding, holds := CutCauses.empty.add c, heldAt := some x.toolLateral }

theorem State.enterHolding_eq (s : State) (c : CutCause) (st : Station) : s.enterHolding c st =
    match s.passRadius st with
    | some radius => (s.putCut st ((s.cut st).holdingFor c)).driveTool st
        (.position (s.cut st).toolLateral (radius + Config.backOff))
    | none => s.putCut st ((s.cut st).holdingFor c) := rfl

/-- It backs its tools off where they stand (R167). -/
theorem State.enterHolding_rest (s : State) (c : CutCause) (st : Station) (h : (s.cut st).state ≠ .holding) :
    (s.enterHolding c st).stations = s.stations.set st ((s.cut st).holdingFor c) ∧
      (∀ p q, s.plan st = some p → p.pass = some q → (s.enterHolding c st).axes =
        { s.axes with tool := s.axes.tool.set st (.position (s.cut st).toolLateral (q.radius + 2000)) }) ∧
      (s.enterHolding c st).notices = (s.notify (.station st)).notices ∧
      Only [.stations, .axes, .notices] s (s.enterHolding c st) := by
  have hput := State.putCut_changed s st ((s.cut st).holdingFor c) (fun hsame => h (congrArg Prod.fst hsame).symm)
  have honly := s.putCut_only st ((s.cut st).holdingFor c)
  have hdrive : Only [.axes] (s.putCut st ((s.cut st).holdingFor c)) (s.enterHolding c st) := by
    rw [s.enterHolding_eq c st]
    split
    · exact State.driveTool_only _ st _
    · exact .refl _ _
  refine ⟨(hdrive.2 .stations (by decide)).trans (State.putCut_stations s st _), fun p q hp hq => ?_,
    (hdrive.2 .notices (by decide)).trans (by rw [hput]), honly.step hdrive (by decide) (by decide)⟩
  rw [s.enterHolding_eq c st, State.passRadius_eq hp hq, State.driveTool_axes, State.putCut_axes]
  rfl

/-! ### RESUME (R169) -/

theorem exec_resume_handed {tag : Byte} {payload : List Byte} {s1 : State} (hp : stationParam payload = .ok st)
    (hs : s.handed 0x62 tag payload = some s1) :
    exec (.resume tag payload) s = .next ((s1.resumeCut st).sent 0x62 tag) := State.plainCommand_next hp hs

/-- The checks of RESUME, in their order (R169). -/
def State.resumeChecks (s : State) (st : Station) : List (Bool × Code) :=
  [(decide ((s.cut st).state ≠ .holding ∧ (s.cut st).state ≠ .held), .wrongState),
    (decide (s.lift.state ≠ .raised), .causePresent), (!s.level? .guardClosed, .causePresent),
    (s.notLevel, .levelPending)]

theorem State.resumeCut_eq (s : State) (st : Station) : s.resumeCut st =
    match firstOf (s.resumeChecks st) with
    | some c => s.refuse c
    | none => (((s.putCut st { s.cut st with holds := (s.cut st).holds.resumed }).leaveHeld st).touchStation st).accept := by
  have howed : s.levelOwed = s.notLevel := rfl
  simp only [State.resumeCut, State.resumeChecks, firstOf_cons, firstOf_nil, decide_eq_true_eq, howed]
  repeat' split
  all_goals simp_all

/-- A station in HOLDING or HELD is at its checks when RESUME passes them. -/
theorem State.state_of_resumeChecks (h : firstOf (s.resumeChecks st) = none) :
    (s.cut st).state = .holding ∨ (s.cut st).state = .held := by
  by_contra hno
  rw [not_or] at hno
  simp [State.resumeChecks, firstOf_cons, hno.1, hno.2] at h

/-! ### The tools clear of the wheel (R167, R170) -/

/-- The state in which the tools are clear: HELD, the rollers stopped. -/
def State.toolsClear (st : Station) (s : State) : State :=
  (s.driveRoller st .stop).putCut st { s.cut st with state := .held }

theorem State.backoffArrives_of_holding (h : (s.cut st).state = .holding) : s.backoffArrives st =
    if (s.cut st).holds = CutCauses.empty then (s.toolsClear st).leaveHeld st else (s.toolsClear st).testStart :=
  if_pos h

theorem State.toolsClear_only (st : Station) (s : State) : Only [.stations, .axes, .notices] s (s.toolsClear st) :=
  (s.driveRoller_only st .stop).step (State.putCut_only _ st _) (by decide) (by decide)

theorem State.toolsClear_stations (st : Station) (s : State) :
    (s.toolsClear st).stations = s.stations.set st { s.cut st with state := .held } := State.putCut_stations ..

theorem State.toolsClear_axes (st : Station) (s : State) :
    (s.toolsClear st).axes = { s.axes with roller := s.axes.roller.set st .stop } := State.putCut_axes ..

theorem State.toolsClear_cut (st : Station) (s : State) :
    (s.toolsClear st).cut st = { s.cut st with state := .held } := State.putCut_cut_self ..

theorem State.toolsClear_cut_other (st : Station) (s : State) : (s.toolsClear st).cut st.other = s.cut st.other :=
  ((s.driveRoller st .stop).putCut_cut st st.other _).trans (if_neg (by cases st <;> decide))

/-- With the tools clear a re-level starts when the rest of the pit is at rest and one is owed (R64). -/
theorem State.toolsClear_startCondition_iff (st : Station) (s : State) : (s.toolsClear st).startCondition = true ↔
    s.lift.state = .raised ∧ s.level.relevel = none ∧ 0 < s.level.backlog ∧ (s.cut st.other).state.inWork = false ∧
      ∀ o, (s.sweepOf o).state ≠ .indexing ∧ (s.sweepOf o).state ≠ .traversing := by
  have honly := s.toolsClear_only st
  have hlift : (s.toolsClear st).lift = s.lift := honly.2 .lift (by decide)
  have hlevel : (s.toolsClear st).level = s.level := honly.2 .level (by decide)
  have hsweep (o : Station) : (s.toolsClear st).sweepOf o = s.sweepOf o := by
    have hcapture : (s.toolsClear st).capture = s.capture := honly.2 .capture (by decide)
    rw [State.sweepOf, hcapture, State.sweepOf]
  have hcuts : (∀ o, ((s.toolsClear st).cut o).state.inWork = false) ↔ (s.cut st.other).state.inWork = false := by
    refine ⟨fun h => by rw [← s.toolsClear_cut_other st]; exact h _, fun h o => ?_⟩
    by_cases ho : o = st
    · rw [ho, s.toolsClear_cut]; rfl
    · have hother : o = st.other := by cases o <;> cases st <;> first | rfl | exact absurd rfl ho
      rw [hother, s.toolsClear_cut_other, h]
  rw [State.startCondition_iff, State.pitIdle_iff, hlift, hlevel, hcuts]
  simp only [hsweep, SweepState.inMotion_eq_false_iff]

/-- A cause set without LEVEL is empty when LEVEL stood in it alone, or nothing did. -/
theorem CutCauses.without_level_eq_empty_iff (h : CutCauses) : { h with level := false } = CutCauses.empty ↔
    h = CutCauses.empty ∨ h = { CutCauses.empty with level := true } := by
  obtain ⟨a, b, c, d, e⟩ := h
  cases a <;> simp [CutCauses.empty]

/-- What a station that goes back to the wheel leaves (R163, R170). -/
theorem State.leaveHeld_after {u : State} {x y : CutStation} {p : Plan} {q : Pass}
    (hstations : u.stations = s.stations.set st y) (hy : y.state = .held ∧ y.holds = CutCauses.empty)
    (hx : { y with state := .approach } = x) (hroller : u.axes = { s.axes with roller := u.axes.roller })
    (hset : u.axes.roller.set st .turning = s.axes.roller.set st .turning) (hplan : u.plan st = s.plan st) :
    (u.leaveHeld st).stations = s.stations.set st x ∧ (s.plan st = some p → p.pass = some q →
      (u.leaveHeld st).axes = { s.axes with
        roller := s.axes.roller.set st .turning
        tool := s.axes.tool.set st
          (.position (if x.begun then x.heldAt.getD (p.zoneFirst * 1000) else p.zoneFirst * 1000) q.radius) }) := by
  have hcut : u.cut st = y := by rw [State.cut, hstations, Two.get_set_same]
  obtain ⟨hs, _, haxes⟩ := State.leaveHeld_drives (s := u) (st := st) (by rw [hcut]; exact hy)
  rw [hcut] at hs haxes
  refine ⟨by rw [hs, hstations, hx, Two.set_set_same], fun hp hq => ?_⟩
  rw [haxes p q (hplan.trans hp) hq, hset, hroller, ← hx]

end

/-- Settles O51: FEED HOLD and RESUME by their owners, and the arrival of the tools by the causes left and by what a
re-level that is owed comes to. -/
theorem feedHoldsAndResumes : Obligations.FeedHoldsAndResumes := by
  intro st s back
  constructor
  · intro tag payload s1 hp x
    refine ⟨fun hs => ⟨fun hwork => ?working, fun hheld => ?held, fun hrest => ?rest⟩, ?resume⟩
    case working =>
      have hholdable : (s1.cut st).state.holdable = true := by
        obtain h | h := hwork <;> rw [show (s1.cut st).state = _ from h] <;> rfl
      have hnot : (s1.cut st).state ≠ .holding := by
        obtain h | h := hwork <;> rw [show (s1.cut st).state = _ from h] <;> exact nofun
      have howner := (State.feedHold_of_holdable hholdable).trans
        (by rw [State.giveCause_of_working hwork])
      obtain ⟨hstations, haxes, hnotices, honly⟩ := s1.enterHolding_rest .host st hnot
      obtain ⟨hexec, hanswers, hreplied⟩ := exec_of_touched (exec_feedHold_handed hp hs) howner
        (honly.2 .link (by decide))
      exact ⟨_, hexec, hanswers, (hreplied.2 .stations (by decide)).trans hstations,
        fun p q hp hq => (hreplied.2 .axes (by decide)).trans (haxes p q hp hq),
        State.touchStation_context (honly.2 .context (by decide)) st, (hreplied.2 .notices (by decide)).trans hnotices,
        honly.step hreplied (by decide) (by decide)⟩
    case held =>
      have hholdable : (s1.cut st).state.holdable = true := by
        obtain h | h := hheld <;> rw [show (s1.cut st).state = _ from h] <;> rfl
      have howner := (State.feedHold_of_holdable hholdable).trans
        (by rw [State.giveCause_of_held hheld (c := .host) nofun])
      have honly := s1.putCut_only st { s1.cut st with holds := (s1.cut st).holds.add .host }
      obtain ⟨hexec, hanswers, hreplied⟩ := exec_of_touched (exec_feedHold_handed hp hs) howner
        (honly.2 .link (by decide))
      exact ⟨_, hexec, hanswers, (hreplied.2 .stations (by decide)).trans (State.putCut_stations s1 st _),
        State.touchStation_context (honly.2 .context (by decide)) st, honly.step hreplied (by decide) (by decide)⟩
    case rest =>
      refine exec_of_refuse (exec_feedHold_handed hp hs) (if_neg ?_)
      obtain h | h | h | h := hrest <;> rw [show (s1.cut st).state = _ from h] <;> exact Bool.false_ne_true
    case resume =>
      intro hs checks free
      have howner := s1.resumeCut_eq st
      have hchecks : s1.resumeChecks st = checks := rfl
      refine ⟨fun c hc => ?refused, fun hpassed hlevel => ?passed⟩
      case refused =>
        rw [hchecks, hc] at howner
        exact exec_of_refuse (exec_resume_handed hp hs) howner
      case passed =>
        have hstate := State.state_of_resumeChecks (s := s1) (st := st) hpassed
        rw [hchecks, hpassed] at howner
        have hempty : (s1.cut st).holds.resumed = CutCauses.empty := by
          have hlevel' : (s1.cut st).holds.level = false := hlevel
          rw [CutCauses.resumed, hlevel']
          rfl
        rw [hempty] at howner
        have hput := s1.putCut_only st { s1.cut st with holds := CutCauses.empty }
        have hstations := State.putCut_stations s1 st { s1.cut st with holds := CutCauses.empty }
        have hcut := s1.putCut_cut_self st { s1.cut st with holds := CutCauses.empty }
        dsimp only at howner
        generalize s1.putCut st { s1.cut st with holds := CutCauses.empty } = v at howner hput hstations hcut
        have honly : Only [.stations, .axes, .notices] s1 (v.leaveHeld st) :=
          hput.step (v.leaveHeld_only st) (by decide) (by decide)
        obtain ⟨hexec, hanswers, hreplied⟩ := exec_of_touched (exec_resume_handed hp hs) howner
          (honly.2 .link (by decide))
        have hrst := hreplied.2 .stations (by decide)
        have hrax := hreplied.2 .axes (by decide)
        have hvaxes : v.axes = s1.axes := hput.2 .axes (by decide)
        refine ⟨_, hexec, hanswers, State.touchStation_context (honly.2 .context (by decide)) st, fun hholding => ?_,
          fun hheld => ?_, honly.step hreplied (by decide) (by decide)⟩
        · have hstill : v.leaveHeld st = v := by
            refine State.leaveHeld_of_not_held ?_
            rw [hcut]
            exact fun h => CutState.noConfusion (h.1.symm.trans hholding)
          rw [hstill] at hrst hrax ⊢
          exact ⟨hrst.trans hstations, hrax.trans hvaxes⟩
        · have hafter (p : Plan) (q : Pass) := State.leaveHeld_after (s := s1) (u := v) (st := st)
            (x := { free with state := .approach }) (p := p) (q := q) hstations ⟨hheld, rfl⟩ rfl (by rw [hvaxes])
            (by rw [hvaxes]) (State.plan_of_only hput (by decide) st)
          refine ⟨?_, fun p q hp hq => hrax.trans ((hafter p q).2 hp hq)⟩
          obtain ⟨hleave, _⟩ := State.leaveHeld_drives (s := v) (st := st) (by rw [hcut]; exact ⟨hheld, rfl⟩)
          rw [hrst, hleave, hcut, hstations, Two.set_set_same]
  · intro x held stopped idle levelAlone
    have hexec : exec (.toolBackoffArrival st) s = .next (s.backoffArrives st) := rfl
    have honly := s.toolsClear_only st
    have hstart := s.toolsClear_startCondition_iff st
    have hlift : (s.toolsClear st).lift = s.lift := honly.2 .lift (by decide)
    have hlevel : (s.toolsClear st).level = s.level := honly.2 .level (by decide)
    have hsetup : (s.toolsClear st).setup = s.setup := honly.2 .setup (by decide)
    refine ⟨fun hholding hholds hbusy => ?busy, fun pit hholding hholds hidle hpit => ?owed,
      fun hholding hholds => ?free, fun hno => ?no⟩
    case busy =>
      have hno : (s.toolsClear st).startCondition = false := Bool.eq_false_iff.2 fun h => hbusy (hstart.1 h)
      rw [State.backoffArrives_of_holding hholding, if_neg hholds, State.testStart_of_not_startCondition hno] at hexec
      exact ⟨_, hexec, s.toolsClear_stations st, s.toolsClear_axes st, honly⟩
    case owed =>
      rw [State.backoffArrives_of_holding hholding, if_neg hholds] at hexec
      have hpit' : (s.toolsClear st).setup.pit = some pit := by rw [hsetup, hpit]
      have hcond := hstart.2 hidle
      refine ⟨fun hoff => ?begun, fun hoff hurgent => ?paid, fun hoff hurgent => ?ended⟩
      case begun =>
        rw [State.testStart_of_off hpit' hcond (by rw [hlift]; exact hoff), hlift] at hexec
        have hbegin := State.beginRelevel_only (s.toolsClear st) (s.lift.offLevel pit.relevelBand) pit
        refine ⟨_, hexec, (hbegin.2 .stations (by decide)).trans (s.toolsClear_stations st),
          (hbegin.2 .axes (by decide)).trans (s.toolsClear_axes st), ?_, honly.step hbegin (by decide) (by decide)⟩
        exact (State.putLift_level ..).trans (by rw [hlevel])
      case paid =>
        obtain ⟨v, hv, hvlevel, _, hvonly⟩ := State.testStart_of_level hpit' (by rw [hlift]; exact hoff) hcond
        rw [hv, hlevel, hurgent, if_neg Bool.false_ne_true] at hexec
        exact ⟨_, hexec, (hvonly.2 .stations (by decide)).trans (s.toolsClear_stations st),
          (hvonly.2 .axes (by decide)).trans (s.toolsClear_axes st), by rw [hvlevel, hlevel],
          honly.step hvonly (by decide) (by decide)⟩
      case ended =>
        obtain ⟨v, hv, hvlevel, _, hvonly⟩ := State.testStart_of_level hpit' (by rw [hlift]; exact hoff) hcond
        rw [hv, hlevel, hurgent, if_pos rfl] at hexec
        have hvcut (o : Station) : v.cut o = (s.toolsClear st).cut o := State.cut_of_only hvonly (by decide) o
        have hvaxes : v.axes = stopped := (hvonly.2 .axes (by decide)).trans (s.toolsClear_axes st)
        have hself : v.endUrgent.cut st = held.released := by rw [v.endUrgent_cut, hvcut, s.toolsClear_cut]
        obtain ⟨w, hwcut, hwplan, hwdrives, hdrives⟩ := v.endUrgent_drives st
        have hwself : w.cut st = held := by rw [hwcut, hvcut, s.toolsClear_cut]
        have hrelease : { x.holds with level := false } = CutCauses.empty ↔ levelAlone :=
          (CutCauses.without_level_eq_empty_iff x.holds).trans (or_iff_right hholds)
        refine ⟨_, hexec, by rw [v.endUrgent_level, hvlevel, hlevel], fun hy => ?other, fun hnot => ?stays,
          fun halone => ?goes, honly.step ((hvonly.mono (by decide)).trans v.endUrgent_only) (by decide) (by decide)⟩
        case other =>
          have hother : v.endUrgent.cut st.other = (s.cut st.other).released := by
            rw [v.endUrgent_cut, hvcut, s.toolsClear_cut_other]
          rw [hother]
          by_cases hempty : { (s.cut st.other).holds with level := false } = CutCauses.empty
          · rw [CutStation.released, if_pos ⟨hy, hempty⟩, if_pos hempty, hempty]
          · rw [CutStation.released, if_neg fun h => hempty h.2, if_neg hempty]
        case stays =>
          have hkept : ¬(held.state = .held ∧ { held.holds with level := false } = CutCauses.empty) :=
            fun h => hnot (hrelease.1 h.2)
          obtain ⟨_, hroller⟩ := w.removeLevel_sameDrives (st := st) (st' := st) (.inr (by rw [hwself]; exact hkept))
          refine ⟨by rw [hself, CutStation.released, if_neg hkept], ?_⟩
          rw [hdrives.2, hroller, hwdrives.2, hvaxes]
          exact Two.get_set_same ..
        case goes =>
          have hempty : { x.holds with level := false } = CutCauses.empty := hrelease.2 halone
          have hcond : held.state = .held ∧ { held.holds with level := false } = CutCauses.empty := ⟨rfl, hempty⟩
          have hput := w.putCut_only st { w.cut st with holds := { (w.cut st).holds with level := false } }
          have hpcut := w.putCut_cut_self st { w.cut st with holds := { (w.cut st).holds with level := false } }
          have hremove : w.removeLevel st =
            (w.putCut st { w.cut st with holds := { (w.cut st).holds with level := false } }).leaveHeld st := rfl
          generalize w.putCut st { w.cut st with holds := { (w.cut st).holds with level := false } } = y
            at hput hpcut hremove
          rw [hwself] at hpcut
          obtain ⟨_, hroller, haxes⟩ := State.leaveHeld_drives (s := y) (st := st) (by rw [hpcut]; exact hcond)
          rw [hpcut] at haxes
          have hplan : y.plan st = s.plan st :=
            ((State.plan_of_only hput (by decide) st).trans hwplan).trans
              ((State.plan_of_only hvonly (by decide) st).trans (State.plan_of_only honly (by decide) st))
          refine ⟨?_, ?_, fun p q hp hq => ?_⟩
          · rw [hself, CutStation.released, if_pos hcond]
            show { held with state := .approach, holds := { x.holds with level := false } } = _
            rw [hempty]
          · rw [hdrives.2, hremove, hroller]
            exact Two.get_set_same ..
          · rw [hdrives.1, hremove, haxes p q (hplan.trans hp) hq]
            exact Two.get_set_same ..
    case free =>
      rw [State.backoffArrives_of_holding hholding, if_pos hholds] at hexec
      have hplan := State.plan_of_only honly (by decide) st
      have haxes := s.toolsClear_axes st
      obtain ⟨hleave, _⟩ := State.leaveHeld_drives (s := s.toolsClear st) (st := st)
        (by rw [s.toolsClear_cut]; exact ⟨rfl, hholds⟩)
      refine ⟨_, hexec, ⟨?_, fun p q hp hq => ?_⟩,
        honly.step (State.leaveHeld_only _ st) (by decide) (by decide)⟩
      · rw [hleave, s.toolsClear_cut, s.toolsClear_stations, Two.set_set_same]
      · exact (State.leaveHeld_after (s := s) (u := s.toolsClear st) (st := st) (x := { x with state := .approach })
          (p := p) (q := q) (s.toolsClear_stations st) ⟨rfl, hholds⟩ rfl (by rw [haxes])
          (by rw [haxes]; exact Two.set_set_same ..) hplan).2 hp hq
    case no => exact congrArg Host.Outcome.next (if_neg hno)

end Sys2Proof.Machine
end

section
/-! PROOFS. Chapter 10: CUT START, its twelve checks and the start of a cut (R161, R162). -/

namespace Sys2Proof.Machine

section
variable {s : State} {st : Station} {accept : Bool}

/-! ### The checks of CUT START (R161) -/

theorem exec_cutStart_handed {tag : Byte} {payload : List Byte} {s1 : State} {x : Station × Bool}
    (hp : cutStartParams payload = .ok x) (hs : s.handed 0x60 tag payload = some s1) :
    exec (.cutStart tag payload) s = .next ((s1.cutStart x).sent 0x60 tag) := State.plainCommand_next hp hs

/-- The checks before the plan is read. -/
def State.cutChecks (s : State) (st : Station) : List (Bool × Code) :=
  [((s.probe st).calMode, .calibrationMode),
    (decide (s.setup.pit = none ∨ s.setup.cut = none), .notConfigured), (decide ((s.cut st).state ≠ .idle), .wrongState),
    (decide ((s.sweepOf st).state = .indexing ∨ (s.sweepOf st).state = .traversing ∨
      (s.sweepOf st).state = .paused), .wrongState),
    (decide (s.lift.state ≠ .raised), .wrongState), (decide (s.boundSlot st = none), .wrongState),
    (s.notLevel, .levelPending), (!(s.level? .guardClosed && s.level? st.holddown), .interlock)]

/-- The checks of the plan that is found and of the record that is held. -/
def cutPlanChecks (kept : Option Plan) (held : Option Record) (accept : Bool) : List (Bool × Code) :=
  [(kept.isNone, .noPlan),
    (kept.any (fun p => decide (p.advisories ≠ Advisories.empty)) && !accept, .advisoryNotAccepted),
    (held.any fun r => decide (r.state = .condemned), .verdictForbids),
    ((held.bind fun r => r.nextSequence).isNone, .recordExhausted)]

theorem State.cutRefusal_eq (s : State) (st : Station) : s.cutRefusal st = firstOf (s.cutChecks st) := by
  simp only [State.cutRefusal, State.cutChecks, firstOf_cons, firstOf_nil, decide_eq_true_eq,
    State.not_configured_iff, Option.isNone_iff_eq_none, SweepState.onStation_iff, State.levelOwed_eq]
  rfl

/-- The plan CUT START finds, as one in force is defined (R148). -/
theorem State.startPlan_eq (s : State) (st : Station) : s.startPlan st = (s.plan st).filter fun p =>
    !p.inExecution && (s.boundSlot st).any fun i =>
      decide ((s.slot i).serial = some p.serial) && (s.slot i).measurement.any fun m =>
        decide (m.run = p.run) && !m.stale && decide (m.epoch = s.level.epoch) &&
          decide (m.material = (s.cut st).material) := by
  have hcurrent (m : Measurement) : s.measurementCurrent st m =
    (!m.stale && decide (m.epoch = s.level.epoch) && decide (m.material = (s.cut st).material)) := rfl
  simp only [State.startPlan, State.planInForce_eq, hcurrent, Bool.and_assoc]

theorem State.cutPlan_eq (s : State) (st : Station) (i : Ix) (accept : Bool) : s.cutPlan st i accept =
    match firstOf (cutPlanChecks (s.startPlan st) (s.slot i).working accept) with
    | some c => .error c
    | none => match s.startPlan st with
      | some p => .ok p
      | none => .error .noPlan := by
  unfold State.cutPlan
  cases hplan : s.startPlan st with
  | none => rfl
  | some p =>
    simp only [cutPlanChecks, firstOf_cons, firstOf_nil, Option.isNone_some, Bool.false_eq_true, if_false,
      Option.any_some]
    cases hrec : (s.slot i).working with
    | none =>
      by_cases hadv : p.advisories = Advisories.empty <;> cases accept <;> simp [hadv]
    | some r =>
      by_cases hadv : p.advisories = Advisories.empty <;> by_cases hcond : r.state = .condemned <;>
        cases accept <;> cases hseq : r.nextSequence <;> simp [hadv, hcond, hseq]

/-- CUT START by its twelve checks: the first that applies refuses it; past them the cut starts. -/
theorem State.cutStart_of_refused {c : Code}
    (h : firstOf (s.cutChecks st ++ cutPlanChecks (s.startPlan st)
      ((s.boundSlot st).bind fun i => (s.slot i).working) accept) = some c) :
    s.cutStart (st, accept) = s.refuse c := by
  rw [firstOf_append, ← s.cutRefusal_eq] at h
  cases hr : s.cutRefusal st with
  | some d =>
    rw [hr] at h
    have hd : d = c := Option.some.inj h
    simp only [State.cutStart, hr, hd]
  | none =>
    rw [hr, Option.none_or] at h
    obtain ⟨i, hi⟩ := Option.isSome_iff_exists.1 (State.cutRefusal_none hr).2.1
    rw [hi, Option.bind_some] at h
    have hplan := s.cutPlan_eq st i accept
    rw [h] at hplan
    simp only [State.cutStart, hr, hi, hplan]

theorem State.cutStart_of_passed {i : Ix} {p : Plan}
    (h : firstOf (s.cutChecks st ++ cutPlanChecks (s.startPlan st)
      ((s.boundSlot st).bind fun i => (s.slot i).working) accept) = none)
    (hi : s.boundSlot st = some i) (hp : s.plan st = some p) :
    s.cutStart (st, accept) = (s.startCut st i p).accept := by
  rw [firstOf_append, ← s.cutRefusal_eq] at h
  have hr : s.cutRefusal st = none := by
    cases hr : s.cutRefusal st with
    | none => rfl
    | some d => rw [hr] at h; cases h
  rw [hr, Option.none_or, hi, Option.bind_some] at h
  have hplan := s.cutPlan_eq st i accept
  rw [h] at hplan
  have hfound : s.startPlan st = some p := by
    cases hf : s.startPlan st with
    | none => rw [hf] at h; cases h
    | some q =>
      have hq : s.plan st = some q := Option.eq_some_of_filter_eq_some hf
      rw [← hp, hq]
  rw [hfound] at hplan
  simp only [State.cutStart, hr, hi, hplan]

/-! ### A cut starts (R162) -/

/-- The station of a cut that starts, with what the record held before it. -/
def CutStation.begins (x : CutStation) (kept : Option PreCut) : CutStation :=
  { x with material := x.material + 1, completed := 0, begun := false, entered := false, preCut := kept }

/-- The state in which the plan is in execution and the cut counted, before the record is rewritten. -/
def State.cutCounted (st : Station) (i : Ix) (p : Plan) (s : State) : State :=
  (s.putPlan st (some { p with inExecution := true, passIndex := 1 })).putCut st
    ((s.cut st).begins ((s.slot i).working.map fun r => ⟨r.lastRadius, r.entries⟩))

/-- The state in which the record is rewritten. -/
def State.cutEntered (st : Station) (i : Ix) (p : Plan) (s : State) : State :=
  (s.cutCounted st i p).rewriteBound st (Record.beginCut ((s.slot i).cutEntry p.passes.length))

theorem State.startCut_eq (st : Station) (i : Ix) (p : Plan) (s : State) : s.startCut st i p =
    ((((s.cutEntered st i p).driveRoller st .turning).putCut st
      { (s.cutEntered st i p).cut st with state := .approach }).driveApproach st).touchStation st := rfl

theorem State.putCut_notices_of_told {u v : State} (h : u.notices = (v.notify (.station st)).notices) (x : CutStation) :
    (u.putCut st x).notices = (v.notify (.station st)).notices := by
  unfold State.putCut
  dsimp only
  split
  · exact h
  · have htwice : (u.notify (.station st)).notices = ((v.notify (.station st)).notify (.station st)).notices :=
      congrArg (fun n : Notices => n.set (.station st) (n.get (.station st)).event) h
    exact htwice.trans (by rw [State.notify_notify])

/-- What the tools and the rollers are told, the plan, the station and the notice of a cut that starts. -/
theorem State.startCut_untouched (st : Station) (i : Ix) (p : Plan) (q : Pass) (rest : List Pass)
    (hq : p.passes = q :: rest) (s : State) :
    ∃ u, s.startCut st i p = u.touchStation st ∧ Only [.stations, .axes, .notices] (s.cutEntered st i p) u ∧
      u.plans = s.plans.set st (some { p with inExecution := true, passIndex := 1 }) ∧
      u.stations = s.stations.set st { (s.cut st).begins ((s.slot i).working.map fun r => ⟨r.lastRadius, r.entries⟩) with
        state := .approach } ∧
      u.axes = { s.axes with
        roller := s.axes.roller.set st .turning
        tool := s.axes.tool.set st (.position (p.zoneFirst * 1000) q.radius) } ∧
      u.notices = (s.notify (.station st)).notices := by
  have hcounted : Only [.plans, .stations, .notices] s (s.cutCounted st i p) :=
    (s.putPlan_only st _).step (State.putCut_only _ st _) (by decide) (by decide)
  have hentered : Only [.context, .store] (s.cutCounted st i p) (s.cutEntered st i p) := State.rewriteBound_only _ st _
  have hcut : (s.cutEntered st i p).cut st =
      (s.cut st).begins ((s.slot i).working.map fun r => ⟨r.lastRadius, r.entries⟩) :=
    (State.cut_of_only hentered (by decide) st).trans (State.putCut_cut_self _ st _)
  have hstations : (s.cutEntered st i p).stations = s.stations.set st
      ((s.cut st).begins ((s.slot i).working.map fun r => ⟨r.lastRadius, r.entries⟩)) :=
    (hentered.2 .stations (by decide)).trans (State.putCut_stations _ st _)
  have hplans : (s.cutEntered st i p).plans = s.plans.set st (some { p with inExecution := true, passIndex := 1 }) :=
    (hentered.2 .plans (by decide)).trans (State.putCut_plans _ st _)
  have haxes : (s.cutEntered st i p).axes = s.axes :=
    (hentered.2 .axes (by decide)).trans (hcounted.2 .axes (by decide))
  have hnotices : (s.cutEntered st i p).notices = (s.notify (.station st)).notices :=
    (hentered.2 .notices (by decide)).trans (State.putCut_notices_of_told rfl _)
  rw [State.startCut_eq]
  generalize s.cutEntered st i p = v at hcut hstations hplans haxes hnotices ⊢
  have hput := (v.driveRoller st .turning).putCut_only st { v.cut st with state := .approach }
  have hself := (v.driveRoller st .turning).putCut_cut_self st { v.cut st with state := .approach }
  have hwplans : ((v.driveRoller st .turning).putCut st { v.cut st with state := .approach }).plan st =
      some { p with inExecution := true, passIndex := 1 } := by
    rw [State.plan_of_only hput (by decide), State.plan, State.driveRoller_plans, hplans, Two.get_set_same]
  have hpass : ({ p with inExecution := true, passIndex := 1 } : Plan).pass = some q := by
    rw [Plan.pass, hq]
    rfl
  have hbegun : ({ v.cut st with state := .approach } : CutStation).begun = false := by rw [hcut]; rfl
  refine ⟨_, rfl, ((v.driveRoller_only st _).step hput (show _ ⊆ [.stations, .axes, .notices] by decide)
    (by decide)).step (State.driveApproach_only _ st) (by decide) (by decide), ?_, ?_, ?_, ?_⟩
  · rw [show _ = _ from (State.driveApproach_only _ st).2 .plans (by decide), State.putCut_plans]
    exact hplans
  · rw [show _ = _ from (State.driveApproach_only _ st).2 .stations (by decide), State.putCut_stations,
      State.driveRoller_stations, hstations, Two.set_set_same, hcut]
  · rw [State.driveApproach_eq hwplans hpass, hself, hbegun, if_neg Bool.false_ne_true, State.driveTool_axes,
      State.putCut_axes, State.driveRoller_axes, haxes]
  · rw [show _ = _ from (State.driveApproach_only _ st).2 .notices (by decide)]
    exact State.putCut_notices_of_told (u := v.driveRoller st .turning) hnotices _

/-- The record of a cut that starts. -/
theorem State.cutEntered_rewritesSlot {i : Ix} {p : Plan} {n : Nat} {r w : Record} {m : Measurement}
    (hserved : s.store.fifoServed) (hb : s.boundSlot st = some i) (hn : (s.slot i).serial = some n)
    (hr : (s.slot i).working = some r) (hm : (s.slot i).measurement = some m)
    (hw : r.append
      { sequence := 0, kind := .cut ⟨⟨none, none⟩, p.passes.length, 0, .inProgress⟩
        workOrder := (s.slot i).workOrder.getD 0, verdict := m.verdict, wheels := m.wheels } = some w) :
    State.rewritesSlot i n { w with lastRadius := ⟨none, none⟩ } s (s.cutEntered st i p) := by
  have hcounted : Only [.plans, .stations, .notices] s (s.cutCounted st i p) :=
    (s.putPlan_only st _).step (State.putCut_only _ st _) (by decide) (by decide)
  have hstore : (s.cutCounted st i p).store = s.store := hcounted.2 .store (by decide)
  have hcontext : (s.cutCounted st i p).context = s.context := hcounted.2 .context (by decide)
  have hslot : (s.cutCounted st i p).slot i = s.slot i := by rw [State.slot, hcontext, State.slot]
  have hbound : (s.cutCounted st i p).boundSlot st = some i :=
    (State.keepsRecords.boundSlot (State.keepsRecords_of_only hcounted (by decide)) st).trans hb
  have hrewrites := State.rewriteBound_rewritesSlot (s := s.cutCounted st i p) (st := st) (by rw [hstore]; exact hserved)
    hbound (by rw [hslot]; exact hn) (by rw [hslot]; exact hr)
    (Record.beginCut ((s.slot i).cutEntry p.passes.length))
  have hentry : (s.slot i).cutEntry p.passes.length =
      { sequence := 0, kind := .cut ⟨⟨none, none⟩, p.passes.length, 0, .inProgress⟩
        workOrder := (s.slot i).workOrder.getD 0, verdict := m.verdict, wheels := m.wheels } := by
    simp only [Slot.cutEntry, hm, Measurement.entry]
  have hbegin : Record.beginCut ((s.slot i).cutEntry p.passes.length) r = { w with lastRadius := ⟨none, none⟩ } := by
    rw [Record.beginCut, hentry, hw, Option.getD_some]
  rw [hbegin] at hrewrites
  exact hrewrites.of_same hstore.symm hcontext.symm rfl rfl

end

/-- Settles O50, by the twelve checks and by the steps of the start. -/
theorem cuttingStartsWithAnEntry : Obligations.CuttingStartsWithAnEntry := by
  intro tag payload st accept s s1 hp hs x kept held checks
  have hcommand := exec_cutStart_handed hp hs
  have hchecks : checks = s1.cutChecks st ++ cutPlanChecks (s1.startPlan st)
      ((s1.boundSlot st).bind fun i => (s1.slot i).working) accept := by
    rw [s1.startPlan_eq]
    rfl
  rw [hchecks]
  refine ⟨fun c hc => exec_of_refuse hcommand (State.cutStart_of_refused hc),
    fun hpassed hserved i hb p hplan q rest hq n hn r hr m hm w hw => ?_⟩
  obtain ⟨u, hu, honly, hplans, hstations, haxes, hnotices⟩ := s1.startCut_untouched st i p q rest hq
  have howner := State.cutStart_of_passed hpassed hb hplan
  rw [hu] at howner
  have hentered : Only [.plans, .stations, .notices, .context, .store] s1 (s1.cutEntered st i p) :=
    ((s1.putPlan_only st _).step (State.putCut_only _ st _) (show _ ⊆ [.plans, .stations, .notices] by decide)
      (by decide)).step (State.rewriteBound_only _ st _) (by decide) (by decide)
  have hall : Only [.plans, .stations, .notices, .context, .store, .axes] s1 u :=
    hentered.step honly (by decide) (by decide)
  obtain ⟨hexec, hanswers, hreplied⟩ := exec_of_touched hcommand howner (hall.2 .link (by decide))
  have hrewrites : State.rewritesSlot i n { w with lastRadius := ⟨none, none⟩ } s1 u :=
    (State.cutEntered_rewritesSlot hserved hb hn hr hm hw).of_same rfl rfl (honly.2 .store (by decide))
      (honly.2 .context (by decide))
  obtain ⟨hself, hslots, hresults, hlost, hwrite⟩ := hrewrites.touched hb
  refine ⟨_, hexec, hanswers, (hreplied.2 .plans (by decide)).trans hplans, ?_, hself, hslots, hresults, hlost, hwrite,
    (hreplied.2 .axes (by decide)).trans haxes, (hreplied.2 .notices (by decide)).trans hnotices,
    hall.step hreplied (by decide) (by decide)⟩
  rw [show _ = _ from hreplied.2 .stations (by decide), hstations, hr]
  rfl

end Sys2Proof.Machine
end

section
/-! PROOFS. Chapters 3 to 5: the timers of the lift: the move timeout (R50), the interval timer with the urgent demand it
can raise (R62, R67), and the dwell timer (R74). -/

namespace Sys2Proof.Machine

/-! ### FAULT (R51) -/

section
variable {s : State}

theorem Lift.revalve_faulted (l : Lift) (m : Option (Four Bool)) (c : FaultCause) :
    ({ l.stopped .fault with fault := some c } : Lift).revalve m = { l.halted .fault with fault := some c } :=
  Lift.revalve_stopped l m (.inr rfl) l.holds (some c)

/-- A fault from a state other than RAISED is one write of the lift. -/
theorem State.enterFault_of_not_raised (c : FaultCause) (h : s.lift.state ≠ .raised) :
    s.enterFault c = s.putLift { (s.lift.stopped .fault) with fault := some c }
      { s.level.leaveParking s.lift.state with relevel := none } := if_neg h

theorem State.enterFault_of_raised (c : FaultCause) (h : s.lift.state = .raised) :
    s.enterFault c = (s.putLift { (s.lift.stopped .fault) with fault := some c }
      { s.level with relevel := none }).departRaised := by
  have hlevel : s.level.leaveParking s.lift.state = s.level :=
    s.level.leaveParking_of_not_parked (by simp [h])
  rw [State.enterFault, if_pos h, hlevel]

theorem State.enterFault_lift (s : State) (c : FaultCause) :
    (s.enterFault c).lift = { s.lift.halted .fault with fault := some c } := by
  by_cases h : s.lift.state = .raised
  · rw [State.enterFault_of_raised c h, State.departRaised_lift, State.putLift_lift, Lift.revalve_faulted]
    rfl
  · rw [State.enterFault_of_not_raised c h, State.putLift_lift, Lift.revalve_faulted]

theorem State.enterFault_from_raised (c : FaultCause) (h : s.lift.state = .raised) :
    (s.enterFault c).level = { s.level with backlog := 0, interval := .stopped, relevel := none } ∧
      s.departs (s.enterFault c) := by
  rw [State.enterFault_of_raised c h]
  refine ⟨?_, State.departs_of_putLift (State.departRaised_departs _)⟩
  rw [State.departRaised_level, State.putLift_level]

/-- A fault in a move is one write of the lift. -/
theorem State.enterFault_of_moving (c : FaultCause) (h : s.lift.state = .raising ∨ s.lift.state = .lowering) :
    s.enterFault c = s.putLift { (s.lift.stopped .fault) with fault := some c } { s.level with relevel := none } := by
  have hlevel : s.level.leaveParking s.lift.state = s.level :=
    s.level.leaveParking_of_not_parked (by rcases h with h | h <;> simp [h])
  rw [State.enterFault_of_not_raised c (by rcases h with h | h <;> simp [h]), hlevel]

theorem exec_moveTimeout_of_running (h : s.lift.moveTimer ≠ .stopped) :
    exec .moveTimeout s = .next (s.enterFault .timeout) := by
  have hexec : exec .moveTimeout s = .next s.moveTimesOut := rfl
  rw [hexec, State.moveTimesOut]
  split
  next hstopped => exact absurd hstopped h
  next => rfl

end

/-! ### An urgent demand (R67) -/

/-- The state in which an urgent demand has been raised. -/
def State.urged (s : State) : State := (s.putLift s.lift { s.level with urgent := true }).holdWork .level .level

section
variable {s : State}

theorem State.testUrgent_of_owed (h : s.lift.state = .raised) (hb : s.level.backlog = 3) (hbusy : s.pitIdle = false)
    (hu : s.level.urgent = false) : s.testUrgent = s.urged := if_pos ⟨h, hb, hbusy, hu⟩

theorem State.testUrgent_of_not (h : s.level.backlog = 3 → s.pitIdle = false → s.level.urgent = true) :
    s.testUrgent = s := if_neg fun ⟨_, hb, hbusy, hu⟩ => by
      rw [h hb hbusy] at hu
      cases hu

theorem State.testUrgent_cases (s : State) : s.testUrgent = s.urged ∨ s.testUrgent = s := by
  unfold State.testUrgent
  split
  · exact .inl rfl
  · exact .inr rfl

theorem State.urged_only (s : State) : Only [.lift, .level, .stations, .axes, .capture, .notices] s s.urged :=
  (s.putLift_only _ _).step (State.holdWork_only _ .level .level) (by decide) (by decide)

theorem State.urged_lift (s : State) : s.urged.lift = s.lift.revalve s.level.relevel :=
  ((State.holdWork_only _ .level .level).2 .lift (by decide)).trans (State.putLift_lift ..)

theorem State.urged_level (s : State) : s.urged.level = { s.level with urgent := true } :=
  ((State.holdWork_only _ .level .level).2 .level (by decide)).trans (State.putLift_level ..)

theorem State.urged_cut (s : State) (st : Station) : s.urged.cut st = (s.cut st).given .level :=
  (State.holdWork_cut _ .level .level st).trans (by rw [State.putLift_cut])

theorem State.urged_sweepOf (s : State) (st : Station) : s.urged.sweepOf st = (s.sweepOf st).pausedFor .level := by
  have hcapture : (s.putLift s.lift { s.level with urgent := true }).capture = s.capture :=
    (s.putLift_only _ _).2 .capture (by decide)
  refine (State.holdWork_sweepOf _ .level .level st).trans ?_
  rw [State.sweepOf, hcapture, State.sweepOf]

theorem State.urged_liftKept (s : State) : s.liftKept s.urged :=
  (s.putLift_liftKept _ _).trans (State.holdWork_liftKept _ .level .level)

/-! ### The interval timer (R62) -/

/-- The state in which the interval timer has been reloaded and the backlog has risen. -/
def State.ticked (pit : Pit) (s : State) : State :=
  s.putLift s.lift
    { s.level with interval := .running (pit.relevelInterval * 1000), backlog := s.level.backlog + 1 }

variable {pit : Pit} {length : Nat} (hpit : s.setup.pit = some pit) (hrun : s.level.interval = .running length)
include hpit hrun

theorem exec_intervalExpiry_of_room (h : s.level.backlog < 3) :
    exec .intervalExpiry s = .next (s.ticked pit).testUrgent.testStart := by
  have hexec : exec .intervalExpiry s = .next s.intervalExpires := rfl
  rw [hexec, State.intervalExpires, hrun, hpit]
  exact congrArg Host.Outcome.next (if_pos h)

theorem exec_intervalExpiry_of_full (h : 3 ≤ s.level.backlog) : exec .intervalExpiry s =
    .next (s.putLift s.lift { s.level with interval := .running (pit.relevelInterval * 1000) }) := by
  have hexec : exec .intervalExpiry s = .next s.intervalExpires := rfl
  rw [hexec, State.intervalExpires, hrun, hpit]
  exact congrArg Host.Outcome.next (if_neg (Nat.not_lt.2 h))

end

section
variable {s t : State} {pit : Pit}

theorem State.ticked_only (s : State) (pit : Pit) : Only [.lift, .level, .notices] s (s.ticked pit) :=
  s.putLift_only _ _

theorem State.ticked_level (s : State) (pit : Pit) : (s.ticked pit).level =
    { s.level with interval := .running (pit.relevelInterval * 1000), backlog := s.level.backlog + 1 } :=
  State.putLift_level ..

theorem State.ticked_lift (s : State) (pit : Pit) : (s.ticked pit).lift = s.lift.revalve s.level.relevel :=
  State.putLift_lift ..

theorem State.ticked_pitIdle (s : State) (pit : Pit) : (s.ticked pit).pitIdle = s.pitIdle :=
  State.pitIdle_of_only (s.ticked_only pit) (by decide) (by decide)

theorem State.ticked_sweepOf (s : State) (pit : Pit) (st : Station) : (s.ticked pit).sweepOf st = s.sweepOf st := by
  have hcapture : (s.ticked pit).capture = s.capture := (s.ticked_only pit).2 .capture (by decide)
  rw [State.sweepOf, hcapture, State.sweepOf]

theorem State.ticked_cut (s : State) (pit : Pit) (st : Station) : (s.ticked pit).cut st = s.cut st :=
  State.putLift_cut ..

theorem State.ticked_notices (s : State) (pit : Pit) : (s.ticked pit).notices = (s.notify .lift).notices := by
  refine (State.putLift_notices s _ _).trans (if_neg fun hsame => ?_)
  have hback := congrArg Level.backlog hsame.2
  simp only [Level.seen] at hback
  omega

theorem State.ticked_liftTold (s : State) (pit : Pit) : s.liftTold (s.ticked pit) := by
  rw [State.liftTold, State.ticked_notices]
  rfl

/-- The rise of the backlog is seen. -/
theorem State.not_liftAsBefore_of_backlog (h : t.level.backlog ≠ s.level.backlog) : ¬s.liftAsBefore t :=
  fun ⟨_, _, _, _, hlevel⟩ => h (by rw [hlevel])

theorem State.notices_told_twice {u : State} (h : t.notices = (s.notify .lift).notices)
    (k : u.notices = (t.notify .lift).notices) : u.notices = (s.notify .lift).notices := by
  have htwice : (t.notify .lift).notices = ((s.notify .lift).notify .lift).notices :=
    congrArg (fun x : Notices => x.set .lift (x.get .lift).event) h
  rw [k, htwice, State.notify_notify]

/-- A station that is not in work stays so when LEVEL is handed to it. -/
theorem CutStation.given_inWork {x : CutStation} (h : x.state.inWork = false) : (x.given .level).state = x.state := by
  cases hx : x.state with
  | approach => rw [hx] at h; cases h
  | cutting => rw [hx] at h; cases h
  | holding => rw [hx] at h; cases h
  | held => rw [CutStation.given_of_held (.inr hx) (by decide)]; exact hx
  | idle => rw [CutStation.given_of_rest (.inl hx)]; exact hx
  | retract => rw [CutStation.given_of_rest (.inr (.inl hx))]; exact hx
  | aborting => rw [CutStation.given_of_rest (.inr (.inr (.inl hx)))]; exact hx
  | stopped => rw [CutStation.given_of_rest (.inr (.inr (.inr hx)))]; exact hx

theorem CutState.inWork_iff {x : CutState} : x.inWork = true ↔ x = .approach ∨ x = .cutting ∨ x = .holding := by
  cases x <;> simp [CutState.inWork]

/-- What is left of LEVEL handed to a held station and taken from it again. -/
theorem CutStation.given_released {x : CutStation} (h : x.state = .held) : (x.given .level).released =
    if { x.holds with level := false } = CutCauses.empty then { x with state := .approach, holds := CutCauses.empty }
    else { x with holds := { x.holds with level := false } } := by
  rw [CutStation.given_of_held (.inr h) (by decide), CutStation.released]
  have hsame : { x.holds.add .level with level := false } = { x.holds with level := false } := rfl
  by_cases hempty : { x.holds with level := false } = CutCauses.empty
  · rw [if_pos ⟨h, hsame.trans hempty⟩, if_pos hempty, ← hempty]
    rfl
  · rw [if_neg fun hx => hempty (hsame.symm.trans hx.2), if_neg hempty]
    rfl

theorem CutStation.released_of_held {x : CutStation} (h : x.state = .held) : x.released =
    if { x.holds with level := false } = CutCauses.empty then { x with state := .approach, holds := CutCauses.empty }
    else { x with holds := { x.holds with level := false } } := by
  by_cases hempty : { x.holds with level := false } = CutCauses.empty
  · rw [CutStation.released, if_pos ⟨h, hempty⟩, if_pos hempty, hempty]
  · rw [CutStation.released, if_neg fun hx => hempty hx.2, if_neg hempty]

theorem Four.get_zipWith {α β γ : Type} (f : α → β → γ) (x : Four α) (y : Four β) (i : Ix) :
    (Four.zipWith f x y).get i = f (x.get i) (y.get i) := by
  cases i <;> rfl

/-- A re-level drives the points of its set that are not paused (R39, R65). -/
theorem Lift.relevel_valve {l : Lift} (h : l.state = .raised) (off : Four Bool) (timer : Timer) (i : Ix) :
    ((({ l with
        points := Four.zipWith (fun (b : Bool) p => if b then { p with arrived := false } else p) off l.points
        moveTimer := timer } : Lift).revalve (some off)).points.get i).valve =
      if off.get i = true ∧ (l.points.get i).paused = false then (l.points.get i).driving else .closed := by
  simp only [Lift.revalve, Four.get_mapIx, Four.get_zipWith, Lift.driven, h, Option.map_some, Option.getD_some]
  cases off.get i <;> cases (l.points.get i).paused <;> simp [Point.valveFor, Point.driving]

/-! ### The dwell timer (R74) -/

theorem State.dwellExpires_of_dwelling (h : s.lift.state = .parked) (hd : s.level.dwell = .running) :
    s.dwellExpires =
      if s.level.unparkPending = true then (s.putLift s.lift { s.level with dwell := .expired }).beginUnparking
      else s.putLift s.lift { s.level with dwell := .expired } := if_pos ⟨h, hd⟩

/-- The state in which the dwell is over. -/
def State.dwellOver (s : State) : State := s.putLift s.lift { s.level with dwell := .expired }

theorem exec_dwellExpiry_of_pending (h : s.lift.state = .parked) (hd : s.level.dwell = .running)
    (hpending : s.level.unparkPending = true) : exec .dwellExpiry s = .next s.dwellOver.beginUnparking := by
  have hexec : exec .dwellExpiry s = .next s.dwellExpires := rfl
  rw [hexec, State.dwellExpires_of_dwelling h hd, if_pos hpending]
  rfl

/-- The end of the dwell is seen. -/
theorem State.dwellOver_notices (hd : s.level.dwell = .running) : s.dwellOver.notices = (s.notify .lift).notices := by
  refine (State.putLift_notices s _ _).trans (if_neg fun hsame => ?_)
  have hdwell := congrArg Level.dwell hsame.2
  simp [Level.seen, hd] at hdwell

/-- A deferred UNPARKING that begins with the end of the dwell, in a wait. -/
theorem State.dwellOver_of_wait (h : s.lift.state = .parked) (hd : s.level.dwell = .running)
    (hwait : s.level? .pressureOk = false ∨ s.level? .locksEngaged = true) :
    s.dwellOver.beginUnparking.lift.state = .unparking ∧
      s.dwellOver.beginUnparking.level = { s.level with
        dwell := .expired, relief := false, unparkPending := false
        lockRaised := s.level.lockRaised && !s.level? .pressureOk
        parkStep := if s.level? .pressureOk then some .releaseWait else some .pressureWait } ∧
      s.tellsLift s.dwellOver.beginUnparking ∧ Only [.lift, .level, .notices] s s.dwellOver.beginUnparking := by
  have hput := s.putLift_only s.lift { s.level with dwell := .expired }
  have hlevel? (i : Input) : s.dwellOver.level? i = s.level? i := State.level?_of_only hput (by decide) i
  have hlevel : s.dwellOver.level = { s.level with dwell := .expired } := State.putLift_level ..
  have hparked : s.dwellOver.lift.state = .parked := (congrArg Lift.state (State.putLift_lift ..)).trans h
  obtain ⟨hstate, hbegun, htells, honly⟩ := State.beginUnparking_of_wait hparked (by rwa [hlevel?, hlevel?])
  have htold := htells.2 fun hsame => by
    have hnow := hsame.1
    rw [hstate, hparked] at hnow
    cases hnow
  refine ⟨hstate, ?_, State.tellsLift_of_unparking h hstate (State.notices_told_twice (State.dwellOver_notices hd) htold),
    hput.trans honly⟩
  rw [hbegun, hlevel?, hlevel]

end

/-- Settles O35: the move timeout by the state it meets; the interval timer by what is owed, by the pit and by the points
off level; the dwell timer by the flag and the waits of UNPARKING. -/
theorem liftTimersExpire : Obligations.LiftTimersExpire := by
  intro s
  refine ⟨fun hrun => ?timeout, fun hstopped => ?noTimeout, fun pit length hpit hrun hraised => ?interval,
    fun hstopped => ?noInterval, fun hparked hdwell hpending => ?dwell, fun hparked hdwell hpending hp => ?wait,
    fun hparked hdwell hpending hp => ?free, fun hno => ?noDwell⟩
  case timeout =>
    have hfault := s.enterFault_only .timeout
    refine ⟨_, exec_moveTimeout_of_running hrun, s.enterFault_lift .timeout, hfault.2 .store (by decide),
      hfault.2 .plans (by decide), fun hraised => ?_, fun hmoving => ?_⟩
    · obtain ⟨hlevel, hdeparts⟩ := State.enterFault_from_raised .timeout hraised
      exact ⟨hdeparts.allStale, hdeparts, hlevel, s.enterFault_liftTold .timeout (by rw [hraised]; exact nofun), hfault⟩
    · rw [State.enterFault_of_moving .timeout hmoving]
      exact ⟨State.putLift_level .., s.putLift_tellsLift _ _, s.putLift_only _ _⟩
  case noTimeout =>
    have hexec : exec .moveTimeout s = .next s.moveTimesOut := rfl
    rw [hexec, State.moveTimesOut, hstopped]
  case interval =>
    have hstate (t : State) (h : t = s.ticked pit ∨ t = (s.ticked pit).urged) : t.lift.state = .raised := by
      obtain rfl | rfl := h
      · rw [State.ticked_lift]; exact hraised
      · rw [State.urged_lift, State.ticked_lift]; exact hraised
    have hsetup : (s.ticked pit).setup.pit = some pit := by
      rw [show (s.ticked pit).setup = s.setup from (s.ticked_only pit).2 .setup (by decide), hpit]
    have htickedOff : (s.ticked pit).lift.offLevel pit.relevelBand = s.lift.offLevel pit.relevelBand := by
      rw [State.ticked_lift, Lift.offLevel_revalve]
    refine ⟨fun hroom hbusy hwork => ?busy, fun m hroom hm => ?relevel, fun hroom hidle hnone hoff => ?begun, ?level,
      fun hfull => ?full⟩
    case busy =>
      have hexec := exec_intervalExpiry_of_room hpit hrun hroom
      by_cases hback : s.level.backlog = 2
      · obtain ⟨hurgent, st, hst⟩ := hwork hback
        have htest : (s.ticked pit).testUrgent = (s.ticked pit).urged :=
          State.testUrgent_of_owed (hstate _ (.inl rfl)) (by rw [State.ticked_level]; exact congrArg (· + 1) hback)
            (by rw [State.ticked_pitIdle, hbusy]) (by rw [State.ticked_level]; exact hurgent)
        have hholding : ((s.ticked pit).urged.cut st).state = .holding := by
          rw [State.urged_cut, State.ticked_cut]
          exact CutStation.given_holding (CutState.inWork_iff.1 hst) .level
        rw [htest, State.testStart_of_holding hholding] at hexec
        have hlevel : (s.ticked pit).urged.level = { s.level with
            backlog := s.level.backlog + 1, interval := .running (pit.relevelInterval * 1000), urgent := true } := by
          rw [State.urged_level, State.ticked_level]
        refine ⟨_, hexec, by rw [hlevel], by rw [hlevel], by rw [hlevel],
          (s.ticked_liftTold pit).after (State.urged_liftKept _), fun hless => absurd hless (by omega), fun _ =>
          ⟨by rw [hlevel], fun st hst => ?_, fun st hst => ?_, fun st hst => ?_⟩⟩
        · rw [State.urged_cut, State.ticked_cut, CutStation.given_of_working hst]
          exact ⟨rfl, rfl⟩
        · rw [State.urged_cut, State.ticked_cut, CutStation.given_of_held hst (by decide)]
          exact ⟨rfl, rfl⟩
        · rw [State.urged_sweepOf, State.ticked_sweepOf, Sweep.pausedFor_eq, if_pos hst]
          exact ⟨rfl, rfl⟩
      · have htest : (s.ticked pit).testUrgent = s.ticked pit := State.testUrgent_of_not fun hb => by
          rw [State.ticked_level] at hb
          exact absurd (Nat.succ.inj hb) hback
        rw [htest, State.testStart_of_busy (by rw [State.ticked_pitIdle, hbusy])] at hexec
        exact ⟨_, hexec, by rw [State.ticked_level], by rw [State.ticked_level], by rw [State.ticked_level],
          s.ticked_liftTold pit, fun _ => ⟨by rw [State.ticked_level], s.putLift_tellsLift _ _, s.ticked_only pit⟩,
          fun htwo => absurd htwo hback⟩
    case relevel =>
      have hexec := exec_intervalExpiry_of_room hpit hrun hroom
      have hlift (h : s.lift.inForm (some m)) : s.lift.revalve s.level.relevel = s.lift := by
        rw [hm]
        exact h.1
      have hnot (t : State) (h : t.level.relevel = some m) : t.testStart = t :=
        State.testStart_of_not_startCondition (Bool.eq_false_iff.2 fun hstart => by
          rw [(State.startCondition_iff.1 hstart).2.1] at h
          cases h)
      have hticked : (s.ticked pit).level.relevel = some m := by rw [State.ticked_level]; exact hm
      have hurged : (s.ticked pit).urged.level.relevel = some m := by rw [State.urged_level]; exact hticked
      by_cases hidle : s.pitIdle = true
      · have htest : (s.ticked pit).testUrgent = s.ticked pit := State.testUrgent_of_not fun _ hbusy => by
          rw [State.ticked_pitIdle, hidle] at hbusy
          cases hbusy
        rw [htest, hnot _ hticked] at hexec
        exact ⟨_, hexec, by rw [State.ticked_level], hticked, by rw [State.ticked_level], by rw [State.ticked_level],
          fun h => (s.ticked_lift pit).trans (hlift h), s.ticked_liftTold pit,
          fun _ => ⟨s.ticked_level pit, s.putLift_tellsLift _ _, s.ticked_only pit⟩⟩
      · obtain htest | htest := (s.ticked pit).testUrgent_cases
        · rw [htest, hnot _ hurged] at hexec
          refine ⟨_, hexec, ?_, hurged, ?_, ?_, fun h => ?_, (s.ticked_liftTold pit).after (State.urged_liftKept _),
            fun h => absurd h hidle⟩
          · rw [State.urged_level, State.ticked_level]
          · rw [State.urged_level, State.ticked_level]
          · rw [State.urged_level, State.ticked_level]
          · rw [State.urged_lift, State.ticked_lift, hlift h, hticked]
            exact h.1
        · rw [htest, hnot _ hticked] at hexec
          exact ⟨_, hexec, by rw [State.ticked_level], hticked, by rw [State.ticked_level], by rw [State.ticked_level],
            fun h => (s.ticked_lift pit).trans (hlift h), s.ticked_liftTold pit, fun h => absurd h hidle⟩
    case begun =>
      have hexec := exec_intervalExpiry_of_room hpit hrun hroom
      have htest : (s.ticked pit).testUrgent = s.ticked pit := State.testUrgent_of_not fun _ hbusy => by
        rw [State.ticked_pitIdle, hidle] at hbusy
        cases hbusy
      have hcond : (s.ticked pit).startCondition = true := State.startCondition_iff.2
        ⟨hstate _ (.inl rfl), by rw [State.ticked_level]; exact hnone, by rw [State.ticked_level]; exact Nat.succ_pos _,
          by rw [State.ticked_pitIdle, hidle]⟩
      rw [htest, State.testStart_of_off hsetup hcond (by rw [htickedOff]; exact hoff), htickedOff] at hexec
      have hlevel : ((s.ticked pit).beginRelevel (s.lift.offLevel pit.relevelBand) pit).level = { s.level with
          backlog := s.level.backlog + 1, relevel := some (s.lift.offLevel pit.relevelBand)
          interval := .running (pit.relevelInterval * 1000) } :=
        (State.putLift_level ..).trans (by rw [State.ticked_level])
      have hlift := State.putLift_lift (s.ticked pit)
        { (s.ticked pit).lift with
          points := Four.zipWith (fun (b : Bool) p => if b then { p with arrived := false } else p)
            (s.lift.offLevel pit.relevelBand) (s.ticked pit).lift.points
          moveTimer := .running (pit.moveTimeout * 1000) }
        { (s.ticked pit).level with relevel := some (s.lift.offLevel pit.relevelBand) }
      have hbegin : ((s.ticked pit).beginRelevel (s.lift.offLevel pit.relevelBand) pit).notices =
          (s.notify .lift).notices := by
        obtain hsame | htold := (em _).imp (fun h => (State.putLift_notices (s.ticked pit) _ _).trans (if_pos h))
          (fun h => (State.putLift_notices (s.ticked pit) _ _).trans (if_neg h))
        · exact hsame.trans (s.ticked_notices pit)
        · exact State.notices_told_twice (s.ticked_notices pit) htold
      refine ⟨_, hexec, hlevel, ?_, fun i => ?_,
        State.tellsLift_of_told hbegin (State.not_liftAsBefore_of_backlog (by rw [hlevel]; exact Nat.succ_ne_self _)),
        (s.ticked_only pit).trans (State.beginRelevel_only _ _ pit)⟩
      · exact congrArg Lift.moveTimer hlift
      · refine (congrArg (fun l : Lift => (l.points.get i).valve) hlift).trans ?_
        exact (Lift.relevel_valve (hstate _ (.inl rfl)) _ _ i).trans (by rw [State.ticked_lift]; cases i <;> rfl)
    case level =>
      intro off paid released
      refine ⟨fun hroom hidle hnone hoff => ?idle, fun hback hurgent hnone hbusy hrest => ?sweeps⟩
      case idle =>
        have hexec := exec_intervalExpiry_of_room hpit hrun hroom
        have htest : (s.ticked pit).testUrgent = s.ticked pit := State.testUrgent_of_not fun _ hbusy => by
          rw [State.ticked_pitIdle, hidle] at hbusy
          cases hbusy
        have hcond : (s.ticked pit).startCondition = true := State.startCondition_iff.2
          ⟨hstate _ (.inl rfl), by rw [State.ticked_level]; exact hnone, by rw [State.ticked_level]; exact Nat.succ_pos _,
            by rw [State.ticked_pitIdle, hidle]⟩
        obtain ⟨v, hv, hvlevel, hvnotices, hvonly⟩ :=
          State.testStart_of_level hsetup (by rw [htickedOff]; exact hoff) hcond
        rw [htest, hv] at hexec
        have hurgent : (s.ticked pit).level.urgent = s.level.urgent := by rw [State.ticked_level]
        rw [hurgent] at hexec
        have htold : v.notices = (s.notify .lift).notices := State.notices_told_twice (s.ticked_notices pit) hvnotices
        have hlift : s.liftTold v := by rw [State.liftTold, htold]; rfl
        have honly := (s.ticked_only pit).trans hvonly
        cases hu : s.level.urgent with
        | false =>
          rw [hu, if_neg Bool.false_ne_true] at hexec
          refine ⟨_, hexec, ?_, hlift, fun _ => ⟨htold, honly⟩, fun h => Bool.noConfusion h⟩
          rw [hvlevel, State.ticked_level]
          exact congrArg (fun u => ({ s.level with
            backlog := 0, urgent := u, interval := .running (pit.relevelInterval * 1000) } : Level)) hu
        | true =>
          rw [hu, if_pos rfl] at hexec
          refine ⟨_, hexec, ?_, hlift.after v.endUrgent_liftKept, fun h => Bool.noConfusion h,
            fun _ => ⟨fun st hheld => ?_, honly.step v.endUrgent_only (by decide) (by decide)⟩⟩
          · rw [v.endUrgent_level, hvlevel, State.ticked_level]
          · rw [v.endUrgent_cut, State.cut_of_only hvonly (by decide), State.ticked_cut, CutStation.released_of_held hheld]
      case sweeps =>
        have hexec := exec_intervalExpiry_of_room hpit hrun (by omega)
        have htest : (s.ticked pit).testUrgent = (s.ticked pit).urged :=
          State.testUrgent_of_owed (hstate _ (.inl rfl)) (by rw [State.ticked_level]; exact congrArg (· + 1) hback)
            (by rw [State.ticked_pitIdle, hbusy]) (by rw [State.ticked_level]; exact hurgent)
        have hlevel : (s.ticked pit).urged.level = { s.level with
            backlog := s.level.backlog + 1, interval := .running (pit.relevelInterval * 1000), urgent := true } := by
          rw [State.urged_level, State.ticked_level]
        have hall : Only [.lift, .level, .stations, .axes, .capture, .notices] s (s.ticked pit).urged :=
          ((s.ticked_only pit).mono (by decide)).trans (State.urged_only _)
        have hpit' : (s.ticked pit).urged.setup.pit = some pit := by
          rw [show (s.ticked pit).urged.setup = s.setup from hall.2 .setup (by decide), hpit]
        have hcut (st : Station) : (s.ticked pit).urged.cut st = (s.cut st).given .level := by
          rw [State.urged_cut, State.ticked_cut]
        have hsweep (st : Station) : (s.ticked pit).urged.sweepOf st = (s.sweepOf st).pausedFor .level := by
          rw [State.urged_sweepOf, State.ticked_sweepOf]
        have hcond : (s.ticked pit).urged.startCondition = true := by
          refine State.startCondition_iff.2 ⟨hstate _ (.inr rfl), by rw [hlevel]; exact hnone,
            by rw [hlevel]; exact Nat.succ_pos _, State.pitIdle_iff.2 ⟨fun st => ?_, fun st => ?_⟩⟩
          · rw [hcut, CutStation.given_inWork (hrest st)]
            exact hrest st
          · rw [hsweep, Sweep.pausedFor]
            cases hmotion : (s.sweepOf st).state.inMotion with
            | false => exact hmotion
            | true => rfl
        have hoffLevel : (s.ticked pit).urged.lift.offLevel pit.relevelBand = off := by
          rw [State.urged_lift, Lift.offLevel_revalve, htickedOff]
        have htold : s.liftTold (s.ticked pit).urged := (s.ticked_liftTold pit).after (State.urged_liftKept _)
        have hpaused (st : Station) (h : (s.sweepOf st).state = .indexing ∨ (s.sweepOf st).state = .traversing) :
            (s.ticked pit).urged.testStart.sweepOf st =
              { s.sweepOf st with state := .paused, cause := some .level, step := .none } := by
          rw [State.testStart_sweepOf, hsweep, Sweep.pausedFor_eq, if_pos h]
        rw [htest] at hexec
        refine ⟨_, hexec, hpaused, fun hoff => ?_, fun hoff => ?_, htold.after (State.testStart_liftKept _),
          hall.step (State.testStart_only _) (by decide) (by decide)⟩
        · rw [State.testStart_of_off hpit' hcond (by rw [hoffLevel]; exact hoff), hoffLevel]
          refine ⟨(State.putLift_level ..).trans ?_, fun st hheld => ?_⟩
          · rw [hlevel, hback]
          · rw [State.cut_of_only (State.beginRelevel_only _ off pit) (by decide), hcut,
              CutStation.given_of_held (.inr hheld) (by decide)]
            rfl
        · obtain ⟨v, hv, hvlevel, _, hvonly⟩ :=
            State.testStart_of_level hpit' (by rw [hoffLevel]; exact hoff) hcond
          have hu : (s.ticked pit).urged.level.urgent = true := by rw [hlevel]
          rw [hv, if_pos hu]
          refine ⟨by rw [v.endUrgent_level, hvlevel, hlevel], fun st hheld => ?_⟩
          rw [v.endUrgent_cut, State.cut_of_only hvonly (by decide), hcut, CutStation.given_released hheld]
    case full =>
      have hput := s.putLift_only s.lift { s.level with interval := .running (pit.relevelInterval * 1000) }
      refine ⟨_, exec_intervalExpiry_of_full hpit hrun hfull, State.putLift_level .., hput.1, fun b hb => ?_⟩
      by_cases hnotices : b = .notices
      · rw [hnotices]
        exact (State.putLift_notices s _ _).trans (if_pos ⟨rfl, rfl⟩)
      · refine hput.2 b ?_
        simp only [List.mem_cons, List.not_mem_nil, or_false, not_or] at hb ⊢
        exact ⟨hb.1, hb.2, hnotices⟩
  case noInterval =>
    have hexec : exec .intervalExpiry s = .next s.intervalExpires := rfl
    rw [hexec, State.intervalExpires, hstopped]
  case dwell =>
    have hexec : exec .dwellExpiry s = .next s.dwellExpires := rfl
    rw [State.dwellExpires_of_dwelling hparked hdwell, hpending, if_neg Bool.false_ne_true] at hexec
    exact ⟨_, hexec, State.putLift_level .., s.putLift_tellsLift _ _, s.putLift_only _ _⟩
  case wait =>
    obtain ⟨hstate, hlevel, htells, honly⟩ := State.dwellOver_of_wait hparked hdwell (.inl hp)
    refine ⟨_, exec_dwellExpiry_of_pending hparked hdwell hpending, hstate, ?_, htells, honly⟩
    rw [hlevel, hp]
    simp
  case free =>
    have hexec := exec_dwellExpiry_of_pending hparked hdwell hpending
    cases hlocks : s.level? .locksEngaged with
    | true =>
      obtain ⟨hstate, hlevel, htells, honly⟩ := State.dwellOver_of_wait hparked hdwell (.inr hlocks)
      rw [hp] at hlevel
      exact ⟨_, hexec, by rw [hlevel], by rw [hlevel], by rw [hlevel], by rw [hlevel]; simp, fun _ =>
        ⟨hstate, by rw [hlevel]; rfl, by rw [hlevel], htells, honly⟩, fun h => Bool.noConfusion h⟩
    | false =>
      have hput := s.putLift_only s.lift { s.level with dwell := .expired }
      have hlevel? (i : Input) : s.dwellOver.level? i = s.level? i := State.level?_of_only hput (by decide) i
      obtain ⟨hreach, hparking⟩ := State.beginUnparking_of_free (s := s.dwellOver) ((hlevel? _).trans hp)
        ((hlevel? _).trans hlocks)
      obtain ⟨hraised, hepoch, _, hcontext, hstore, hprobes, _, htold⟩ := hreach.before_putLift rfl rfl
      obtain ⟨hstep, hdw, hun, hlock, hrelief⟩ := (Level.parking_eq_iff _ _).1 hparking
      have hover : s.dwellOver.level = { s.level with dwell := .expired } := State.putLift_level ..
      exact ⟨_, hexec, hdw.trans (by rw [hover]), hun, hrelief, hlock, fun h => Bool.noConfusion h,
        fun _ => ⟨hraised, hstep, hepoch, hcontext, hstore, hprobes, htold⟩⟩
  case noDwell =>
    refine congrArg Host.Outcome.next (if_neg fun ⟨hparked, hdwell⟩ => ?_)
    exact hno.elim (fun h => h hparked) fun h => h hdwell

end Sys2Proof.Machine
end

section
/-! PROOFS. Chapter 3: the moves that RAISE and LOWER start (R42 to R47, R56). -/

namespace Sys2Proof.Machine

/-! ### The departure from RAISED with the stations at rest (R56) -/

section
variable {s t : State}

theorem State.giveCause_of_idle {st : Station} (h : (s.cut st).state = .idle) (c : CutCause) : s.giveCause c st = s := by
  simp only [State.giveCause, h]

theorem State.pauseSweep_of_still {st : Station} (h : (s.sweepOf st).state.inMotion = false) (c : PauseCause) :
    s.pauseSweep c st = s := if_neg (by rw [h]; exact Bool.false_ne_true)

/-- With both stations idle and no sweep in motion the departure reaches the contexts and the engine alone. -/
theorem State.departRaised_of_free
    (h : ∀ st, (s.cut st).state = .idle ∧ (s.sweepOf st).state ≠ .indexing ∧ (s.sweepOf st).state ≠ .traversing) :
    s.departRaised = s.levelDeparted.staleMeasurements.markDeparted := by
  have hput := s.putLift_only s.lift { s.level with backlog := 0, interval := .stopped, relevel := none }
  have hcut (st : Station) : (s.levelDeparted.cut st).state = .idle := by
    rw [State.levelDeparted, State.putLift_cut]
    exact (h st).1
  have hsweep (st : Station) : (s.levelDeparted.staleMeasurements.markDeparted.sweepOf st).state.inMotion = false := by
    have hcapture : s.levelDeparted.staleMeasurements.markDeparted.capture = s.capture := hput.2 .capture (by decide)
    rw [State.sweepOf, hcapture]
    exact (SweepState.inMotion_eq_false_iff _).2 (h st).2
  have hcuts : s.cutsDeparted = s.levelDeparted := by
    rw [State.cutsDeparted, State.giveCause_of_idle (hcut .a), State.giveCause_of_idle (hcut .b)]
  rw [State.departRaised_eq, hcuts, State.pauseSweep_of_still (hsweep .a), State.pauseSweep_of_still (hsweep .b)]

/-- What leaving RAISED, or moving on from elsewhere, makes of Level Maintenance, of the contexts and of the engine. -/
def State.leavesRaised (s1 t : State) : Prop :=
  (s1.lift.state = .raised → t.allStale ∧ s1.departs t ∧
    t.level = { s1.level with backlog := 0, interval := .stopped, relevel := none }) ∧
  (s1.lift.state ≠ .raised → t.level = { s1.level with relevel := none } ∧ t.context = s1.context ∧
    t.engine = s1.engine)

theorem State.leavesRaised.after {u : State} {l : List Block} (h : s.leavesRaised t) (k : Only l t u)
    (hl : ∀ b ∈ [Block.context, .engine, .stations, .capture], b ∉ l) (hlevel : u.level = t.level) :
    s.leavesRaised u := by
  obtain ⟨hraised, hother⟩ := h
  have hcontext : u.context = t.context := k.2 .context (hl _ (by decide))
  have hengine : u.engine = t.engine := k.2 .engine (hl _ (by decide))
  refine ⟨fun hr => ?_, fun hr => ?_⟩
  · obtain ⟨_, hdeparts, hlv⟩ := hraised hr
    have hafter := hdeparts.after k hl
    exact ⟨hafter.allStale, hafter, hlevel.trans hlv⟩
  · obtain ⟨hlv, hc, he⟩ := hother hr
    exact ⟨hlevel.trans hlv, hcontext.trans hc, hengine.trans he⟩

end

/-! ### A move set going (R42, R43) -/

/-- The first leg of a move begun, before its end at rail is tested. -/
def State.legBegun (m : Move) (pit : Pit) (s : State) : State :=
  let s1 := s.putLift (s.lift.begun m (if m.stage = .pending then pit.clearance else m.target) pit)
    { s.level with relevel := none }
  if s.lift.state = .raised then s1.departRaised else s1

section
variable {s : State} {m : Move} {pit : Pit}

theorem State.enterLeg_eq (hpit : s.setup.pit = some pit) : s.enterLeg m = (s.legBegun m pit).arriveAtRail := by
  rw [State.enterLeg, hpit]
  rfl

theorem Lift.revalve_onLeg (l : Lift) (demand : Int) (r : Option (Four Bool)) :
    (l.onLeg m demand pit).revalve r = l.onLeg m demand pit := by
  have hbegun := l.revalve_begun m demand pit r
  have htwice : ((l.begun m demand pit).revalve r).revalve r = (l.begun m demand pit).revalve r := rfl
  rwa [hbegun] at htwice

theorem State.legBegun_lift (s : State) (m : Move) (pit : Pit) : (s.legBegun m pit).lift =
    s.lift.onLeg m (if m.stage = .pending then pit.clearance else m.target) pit := by
  unfold State.legBegun
  dsimp only
  split
  · rw [State.departRaised_lift, State.putLift_lift, Lift.revalve_begun, Lift.revalve_onLeg]
  · rw [State.putLift_lift, Lift.revalve_begun]

/-- A state that is not the one it was makes the source LIFT owe its notice. -/
theorem Lift.seen_ne_of_state {l l' : Lift} (h : l.state ≠ l'.state) : l.seen ≠ l'.seen :=
  fun hsame => h (congrArg Prod.fst hsame)

theorem Lift.begun_state_ne_raised (l : Lift) (m : Move) (demand : Int) (pit : Pit) :
    (l.begun m demand pit).state ≠ .raised := by
  unfold Lift.begun
  cases m.dir <;> exact nofun

variable (hfree : ∀ st, (s.cut st).state = .idle ∧ (s.sweepOf st).state ≠ .indexing ∧
  (s.sweepOf st).state ≠ .traversing)
include hfree

theorem State.legBegun_of_raised (m : Move) (pit : Pit) (h : s.lift.state = .raised) : s.legBegun m pit =
    (s.putLift (s.lift.begun m (if m.stage = .pending then pit.clearance else m.target) pit)
      { s.level with relevel := none }).levelDeparted.staleMeasurements.markDeparted := by
  unfold State.legBegun
  dsimp only
  rw [if_pos h]
  refine State.departRaised_of_free fun st => ?_
  have hput := s.putLift_only (s.lift.begun m (if m.stage = .pending then pit.clearance else m.target) pit)
    { s.level with relevel := none }
  have hcapture := hput.2 .capture (by decide)
  rw [State.putLift_cut, State.sweepOf, hcapture]
  exact hfree st

theorem State.legBegun_leavesRaised (m : Move) (pit : Pit) : s.leavesRaised (s.legBegun m pit) := by
  refine ⟨fun h => ?_, fun h => ?_⟩
  · have hdeparts : s.departs (s.legBegun m pit) := by
      unfold State.legBegun
      dsimp only
      rw [if_pos h]
      exact State.departs_of_putLift (State.departRaised_departs _)
    refine ⟨hdeparts.allStale, hdeparts, ?_⟩
    rw [State.legBegun_of_raised hfree m pit h]
    have hlevel (u : State) : u.levelDeparted.staleMeasurements.markDeparted.level =
        { u.level with backlog := 0, interval := .stopped, relevel := none } := State.putLift_level ..
    rw [hlevel, State.putLift_level]
  · have hbegun : s.legBegun m pit =
        s.putLift (s.lift.begun m (if m.stage = .pending then pit.clearance else m.target) pit)
          { s.level with relevel := none } := if_neg h
    rw [hbegun]
    exact ⟨State.putLift_level .., State.putLift_context .., State.putLift_engine ..⟩

theorem State.legBegun_only (m : Move) (pit : Pit) :
    Only [.lift, .level, .context, .engine, .notices] s (s.legBegun m pit) := by
  have hput := s.putLift_only (s.lift.begun m (if m.stage = .pending then pit.clearance else m.target) pit)
    { s.level with relevel := none }
  by_cases h : s.lift.state = .raised
  · rw [State.legBegun_of_raised hfree m pit h]
    have hstale (u : State) : Only [.lift, .level, .notices, .context, .engine] u
        u.levelDeparted.staleMeasurements.markDeparted :=
      (u.putLift_only _ _).step ((State.staleMeasurements_only _).step (State.markDeparted_only _)
        (show _ ⊆ [.context, .engine] by decide) (by decide)) (by decide) (by decide)
    exact hput.step (hstale _) (by decide) (by decide)
  · have hbegun : s.legBegun m pit =
        s.putLift (s.lift.begun m (if m.stage = .pending then pit.clearance else m.target) pit)
          { s.level with relevel := none } := if_neg h
    rw [hbegun]
    exact hput.mono (by decide)

/-- Leaving RAISED is told once. -/
theorem State.legBegun_notices_of_raised (m : Move) (pit : Pit) (h : s.lift.state = .raised) :
    (s.legBegun m pit).notices = (s.notify .lift).notices := by
  have hfirst : (s.putLift (s.lift.begun m (if m.stage = .pending then pit.clearance else m.target) pit)
      { s.level with relevel := none }).notices = (s.notify .lift).notices :=
    (State.putLift_notices s _ _).trans
      (if_neg fun hsame => Lift.seen_ne_of_state (by rw [h]; exact Lift.begun_state_ne_raised _ _ _ _) hsame.1)
  rw [State.legBegun_of_raised hfree m pit h]
  exact State.putLift_notices_of_told hfirst _ _

theorem State.legBegun_tellsLift (m : Move) (pit : Pit) : s.tellsLift (s.legBegun m pit) := by
  by_cases h : s.lift.state = .raised
  · refine State.tellsLift_of_told (State.legBegun_notices_of_raised hfree m pit h) fun hsame => ?_
    obtain ⟨hstate, _⟩ := hsame
    rw [State.legBegun_lift, h, ← s.lift.revalve_begun m _ pit none] at hstate
    exact s.lift.begun_state_ne_raised m (if m.stage = .pending then pit.clearance else m.target) pit hstate
  · have hbegun : s.legBegun m pit =
        s.putLift (s.lift.begun m (if m.stage = .pending then pit.clearance else m.target) pit)
          { s.level with relevel := none } := if_neg h
    rw [hbegun]
    exact s.putLift_tellsLift _ _

/-- A move set going whose first leg does not end at once. -/
theorem State.enterLeg_away (hpit : s.setup.pit = some pit)
    (haway : m.stage = .pending ∨ m.target ≠ 0 ∨ 200 < s.lift.highest) :
    (s.enterLeg m).lift = s.lift.onLeg m (if m.stage = .pending then pit.clearance else m.target) pit ∧
      s.leavesRaised (s.enterLeg m) ∧ s.tellsLift (s.enterLeg m) ∧
      Only [.lift, .level, .context, .engine, .notices] s (s.enterLeg m) := by
  have hstill : (s.legBegun m pit).arriveAtRail = s.legBegun m pit := by
    refine State.arriveAtRail_of_away fun hleg => ?_
    rw [State.legBegun_lift] at hleg ⊢
    obtain ⟨hpassed, hzero⟩ := Lift.legToRail_onLeg hleg
    have habove : 200 < s.lift.highest := by simpa [hpassed, hzero] using haway
    exact habove
  rw [State.enterLeg_eq hpit, hstill]
  exact ⟨s.legBegun_lift m pit, State.legBegun_leavesRaised hfree m pit, State.legBegun_tellsLift hfree m pit,
    State.legBegun_only hfree m pit⟩

/-- A move to 0 that finds the group at rail: DOWN at once (R43). -/
theorem State.enterLeg_atRail (hpit : s.setup.pit = some pit) (hm : m = ⟨0, .down, .passed⟩)
    (hrail : s.lift.highest ≤ 200) (hdown : s.lift.state ≠ .down) :
    (s.enterLeg m).lift.state = .down ∧ (s.enterLeg m).lift.move = none ∧ (s.enterLeg m).lift.moveTimer = .stopped ∧
      (∀ i, (s.enterLeg m).lift.points.get i = { s.lift.points.get i with
        demand := 0, valve := .closed, paused := false, pausedDir := none, arrived := false }) ∧
      s.leavesRaised (s.enterLeg m) ∧ s.tellsLift (s.enterLeg m) ∧
      Only [.lift, .level, .context, .engine, .notices] s (s.enterLeg m) := by
  have hlift := s.legBegun_lift m pit
  have harrives : (s.legBegun m pit).arriveAtRail = (s.legBegun m pit).putLift
      { (s.legBegun m pit).lift with
        state := .down
        move := none
        moveTimer := .stopped
        points := (s.legBegun m pit).lift.points.map fun p => { p.unpause with demand := 0 } }
      (s.legBegun m pit).level := by
    refine if_pos ?_
    rw [hlift, hm, Bool.and_eq_true, Lift.atRail_iff]
    exact ⟨rfl, hrail⟩
  have hnow : ((s.legBegun m pit).putLift
      { (s.legBegun m pit).lift with
        state := .down
        move := none
        moveTimer := .stopped
        points := (s.legBegun m pit).lift.points.map fun p => { p.unpause with demand := 0 } }
      (s.legBegun m pit).level).lift =
      { (s.legBegun m pit).lift with
        state := .down
        move := none
        moveTimer := .stopped
        points := ((s.legBegun m pit).lift.points.map fun p => { p.unpause with demand := 0 }).map Point.shut } :=
    (State.putLift_lift ..).trans (Lift.revalve_of_still _ ⟨nofun, nofun, nofun⟩)
  have hput := (s.legBegun m pit).putLift_only
    { (s.legBegun m pit).lift with
      state := .down
      move := none
      moveTimer := .stopped
      points := (s.legBegun m pit).lift.points.map fun p => { p.unpause with demand := 0 } }
    (s.legBegun m pit).level
  have hseen : ({ (s.legBegun m pit).lift with
      state := .down
      move := none
      moveTimer := .stopped
      points := (s.legBegun m pit).lift.points.map fun p => { p.unpause with demand := 0 } } : Lift).seen ≠
      (s.legBegun m pit).lift.seen := Lift.seen_ne_of_state (by rw [hlift, hm]; exact nofun)
  have hnotices := (State.putLift_notices (s.legBegun m pit) _ (s.legBegun m pit).level).trans
    (if_neg fun hsame => hseen hsame.1)
  have hlevel : ((s.legBegun m pit).putLift
      { (s.legBegun m pit).lift with
        state := .down
        move := none
        moveTimer := .stopped
        points := (s.legBegun m pit).lift.points.map fun p => { p.unpause with demand := 0 } }
      (s.legBegun m pit).level).level = (s.legBegun m pit).level := State.putLift_level ..
  rw [State.enterLeg_eq hpit, harrives]
  refine ⟨by rw [hnow], by rw [hnow], by rw [hnow], fun i => ?_,
    (State.legBegun_leavesRaised hfree m pit).after hput (by decide) hlevel,
    State.tellsLift_of_told ?_ fun hsame => ?_, (State.legBegun_only hfree m pit).step hput (by decide) (by decide)⟩
  · rw [hnow, hlift]
    cases i <;> rfl
  · by_cases htold : s.liftAsBefore (s.legBegun m pit)
    · have hsame : (s.legBegun m pit).notices = s.notices := (State.legBegun_tellsLift hfree m pit).1 htold
      exact hnotices.trans (congrArg (fun x : Notices => x.set .lift (x.get .lift).event) hsame)
    · exact State.notices_told_twice ((State.legBegun_tellsLift hfree m pit).2 htold) hnotices
  · obtain ⟨hstate, _⟩ := hsame
    rw [hnow] at hstate
    exact hdown hstate.symm

end

/-! ### RAISE and LOWER (R45 to R47) -/

section
variable {s : State} {pit : Pit}

theorem State.moveRefusal_of_ready (hready : s.moveReady) (hpit : s.setup.pit = some pit)
    (h : ¬s.lift.state.barsMoves) : s.moveRefusal = none := by
  obtain ⟨hgood, hfree⟩ := s.moveReady_iff.1 hready
  rw [State.moveRefusal_of_pit h (by rw [hpit]; exact nofun), hgood, hfree]
  rfl

theorem State.moveReady.free (h : s.moveReady) : ∀ st, (s.cut st).state = .idle ∧ (s.sweepOf st).state ≠ .indexing ∧
    (s.sweepOf st).state ≠ .traversing := h.2.2.2.2.2.2

theorem State.raiseLift_of_ready (hready : s.moveReady) (hpit : s.setup.pit = some pit)
    (h : ¬s.lift.state.barsMoves) (height : Int) : s.raiseLift height =
      ⟨s.raiseEffect (max 20000 (min 55000 height)), if 20000 ≤ height ∧ height ≤ 55000 then .ok else .adjusted,
        .none⟩ := by
  have hclamp : clampInt Config.raiseMin Config.raiseMax height = max 20000 (min 55000 height) :=
    clampInt_eq_max_min (by decide) height
  have hcode : adjustedIf (max 20000 (min 55000 height) ≠ height) =
      if 20000 ≤ height ∧ height ≤ 55000 then .ok else .adjusted := by
    refine adjustedIf_eq ?_
    rw [decide_eq_false_iff_not, not_not]
    omega
  simp only [State.raiseLift, State.moveRefusal_of_ready hready hpit h, hclamp, hcode]

theorem State.lowerLift_of_ready (hready : s.moveReady) (hpit : s.setup.pit = some pit)
    (h : ¬s.lift.state.barsMoves) (hdown : s.lift.state ≠ .down) : s.lowerLift = s.lowerEffect.accept := by
  simp only [State.lowerLift, if_neg hdown, State.moveRefusal_of_ready hready hpit h]

theorem State.moveStart_eq (hpit : s.setup.pit = some pit) (target : Int) (raise : Bool) :
    s.moveStart target raise = s.enterLeg (s.lift.newMove pit.clearance target raise) := by
  rw [State.moveStart, hpit]

/-- The states from which RAISE and LOWER start a move. -/
theorem State.raiseEffect_of_start
    (h : s.lift.state = .down ∨ s.lift.state = .hold ∨ s.lift.state = .raising ∨ s.lift.state = .lowering ∨
      s.lift.state = .raised) (height : Int) : s.raiseEffect height = s.moveStart height true := by
  obtain h | h | h | h | h := h <;> simp only [State.raiseEffect, h]

theorem State.lowerEffect_of_start
    (h : s.lift.state = .hold ∨ s.lift.state = .raising ∨ s.lift.state = .lowering ∨ s.lift.state = .raised) :
    s.lowerEffect = s.moveStart 0 false := by
  obtain h | h | h | h := h <;> simp only [State.lowerEffect, h]

theorem Lift.newMove_raise (l : Lift) (clearance target : Int) : l.newMove clearance target true =
    ⟨target, if l.lowest < target then .up else .down,
      if l.lowest < target ∧ l.lowest ≤ clearance ∨
        ¬l.lowest < target ∧ clearance ≤ l.highest ∧ target < clearance then .pending else .passed⟩ := by
  by_cases h : l.lowest < target <;> simp [Lift.newMove, h]

theorem Lift.newMove_lower (l : Lift) (clearance : Int) : l.newMove clearance 0 false =
    ⟨0, .down, if clearance ≤ l.highest ∧ 0 < clearance then .pending else .passed⟩ := by
  simp [Lift.newMove]

/-- What a move command leaves, by what its owner leaves: the reply alone is added. -/
theorem exec_of_move {c : Instr} {s1 u : State} {kind tag : Byte} {code : Code} {l : List Block}
    (hexec : exec c s = .next ((⟨u, code, .none⟩ : Answered).sent kind tag)) (honly : Only l s1 u)
    (hl : Block.link ∉ l) :
    ∃ t, (exec c s = .next t ∧ s1.answers t kind tag code .none) ∧ t.lift = u.lift ∧
      (s1.leavesRaised u → s1.leavesRaised t) ∧ t.level = u.level ∧ (s1.tellsLift u → s1.tellsLift t) ∧
      Only (l ++ [.link]) s1 t := by
  have hlink : u.link = s1.link := honly.2 .link hl
  have hreplied := u.replied_only kind tag code .none
  refine ⟨u.replied kind tag code .none, ⟨hexec, ?_⟩, rfl, fun h => h.after hreplied (by decide) rfl, rfl,
    fun h => h, State.only_replied_of honly ..⟩
  simp [State.answers, hlink]

end

/-- Settles O30: the command by its owner, the move it starts by the end of its first leg. -/
theorem raiseAndLowerStartMoves : Obligations.RaiseAndLowerStartMoves := by
  unfold Obligations.RaiseAndLowerStartMoves
  intro leaves
  constructor
  · intro tag payload h pit s s1 hp hs hpit hready height next up stage
    have hexec := exec_raise_handed hp hs
    refine ⟨fun hstate => ?start, fun m hstate hmove hform => ?waitUp, fun m hstate hmove => ?waitDown⟩
    case start =>
      have hbars : ¬s1.lift.state.barsMoves := by
        unfold LiftState.barsMoves
        rcases hstate with h | h | h | h | h <;> simp [h]
      rw [State.raiseLift_of_ready hready hpit hbars, State.raiseEffect_of_start hstate, State.moveStart_eq hpit,
        Lift.newMove_raise] at hexec
      have hpositive : height ≠ 0 := by
        show max 20000 (min 55000 h) ≠ 0
        omega
      obtain ⟨hlift, hleaves, htells, honly⟩ := State.enterLeg_away (m := ⟨height, if up then .up else .down, stage⟩)
        hready.free hpit (.inr (.inl hpositive))
      obtain ⟨t, hnext, htlift, htleaves, _, httells, htonly⟩ := exec_of_move hexec honly (by decide)
      exact ⟨t, hnext, htlift.trans hlift, htleaves hleaves, httells htells, htonly⟩
    case waitUp =>
      have hbars : ¬s1.lift.state.barsMoves := by simp [LiftState.barsMoves, hstate]
      have heffect : s1.raiseEffect height = s1.putLift { s1.lift with move := some { m with target := height } }
          s1.level := by
        simp only [State.raiseEffect, hstate, hmove]
      rw [State.raiseLift_of_ready hready hpit hbars, heffect] at hexec
      obtain ⟨t, hnext, htlift, _, htlevel, httells, htonly⟩ := exec_of_move hexec (s1.putLift_only_lift _) (by decide)
      refine ⟨t, hnext, ?_, htlevel.trans (State.putLift_level ..), httells (s1.putLift_tellsLift _ _), htonly⟩
      rw [htlift, State.putLift_lift]
      exact congrArg (fun l : Lift => { l with move := some { m with target := height } }) hform.1
    case waitDown =>
      have hbars : ¬s1.lift.state.barsMoves := by simp [LiftState.barsMoves, hstate]
      have heffect : s1.raiseEffect height = s1.enterLeg ⟨height, .up, .passed⟩ := by
        simp only [State.raiseEffect, hstate, hmove]
      have hpositive : height ≠ 0 := by
        show max 20000 (min 55000 h) ≠ 0
        omega
      rw [State.raiseLift_of_ready hready hpit hbars, heffect,
        State.enterLeg_of_not_raised hpit (by rw [hstate]; exact nofun) (.inr (.inl hpositive))] at hexec
      obtain ⟨t, hnext, htlift, _, htlevel, httells, htonly⟩ := exec_of_move hexec (s1.putLift_only _ _) (by decide)
      exact ⟨t, hnext, htlift.trans ((State.putLift_lift ..).trans (Lift.revalve_begun ..)),
        htlevel.trans (State.putLift_level ..), httells (s1.putLift_tellsLift _ _), htonly⟩
  · intro tag s s1 hs next
    have hexec := exec_lower_handed hs
    refine ⟨fun hdown => ?down, fun pit hpit hready => ⟨fun hstate => ?start, fun m hstate hmove habove => ?waitUp,
      fun m hstate hmove => ?waitDown⟩⟩
    case down =>
      have howner : s1.lowerLift = s1.accept := if_pos hdown
      rw [hexec, howner]
      rfl
    case start =>
      have hbars : ¬s1.lift.state.barsMoves := by
        unfold LiftState.barsMoves
        rcases hstate with h | h | h | h <;> simp [h]
      have hdown : s1.lift.state ≠ .down := by rcases hstate with h | h | h | h <;> simp [h]
      rw [State.lowerLift_of_ready hready hpit hbars hdown, State.lowerEffect_of_start hstate, State.moveStart_eq hpit,
        Lift.newMove_lower] at hexec
      refine ⟨fun habove hpositive => ?_, fun hbelow hoff => ?_, fun hbelow hrail => ?_⟩
      · rw [if_pos ⟨habove, hpositive⟩] at hexec
        obtain ⟨hlift, hleaves, htells, honly⟩ := State.enterLeg_away (m := ⟨0, .down, .pending⟩) hready.free hpit
          (.inl rfl)
        obtain ⟨t, hnext, htlift, htleaves, _, httells, htonly⟩ := exec_of_move hexec honly (by decide)
        exact ⟨t, hnext, htlift.trans hlift, htleaves hleaves, httells htells, htonly⟩
      · rw [if_neg fun h => absurd h.1 (not_le.2 hbelow)] at hexec
        obtain ⟨hlift, hleaves, htells, honly⟩ := State.enterLeg_away (m := ⟨0, .down, .passed⟩) hready.free hpit
          (.inr (.inr hoff))
        obtain ⟨t, hnext, htlift, htleaves, _, httells, htonly⟩ := exec_of_move hexec honly (by decide)
        exact ⟨t, hnext, htlift.trans hlift, htleaves hleaves, httells htells, htonly⟩
      · rw [if_neg fun h => absurd h.1 (not_le.2 hbelow)] at hexec
        obtain ⟨hnow, hgone, htimer, hpoints, hleaves, htells, honly⟩ :=
          State.enterLeg_atRail (m := ⟨0, .down, .passed⟩) hready.free hpit rfl hrail hdown
        obtain ⟨t, hnext, htlift, htleaves, _, httells, htonly⟩ := exec_of_move hexec honly (by decide)
        refine ⟨t, hnext, by rw [htlift, hnow], by rw [htlift, hgone], by rw [htlift, htimer], fun i => ?_,
          htleaves hleaves, httells htells, htonly⟩
        rw [htlift, hpoints]
    case waitUp =>
      have hbars : ¬s1.lift.state.barsMoves := by simp [LiftState.barsMoves, hstate]
      have heffect : s1.lowerEffect = s1.enterLeg ⟨0, .down, .passed⟩ := by
        simp only [State.lowerEffect, hstate, hmove]
      rw [State.lowerLift_of_ready hready hpit hbars (by rw [hstate]; exact nofun), heffect,
        State.enterLeg_of_not_raised hpit (by rw [hstate]; exact nofun) (.inr (.inr habove))] at hexec
      obtain ⟨t, hnext, htlift, _, htlevel, httells, htonly⟩ := exec_of_move hexec (s1.putLift_only _ _) (by decide)
      exact ⟨t, hnext, htlift.trans ((State.putLift_lift ..).trans (Lift.revalve_begun ..)),
        htlevel.trans (State.putLift_level ..), httells (s1.putLift_tellsLift _ _), htonly⟩
    case waitDown =>
      have hbars : ¬s1.lift.state.barsMoves := by simp [LiftState.barsMoves, hstate]
      have heffect : s1.lowerEffect = s1 := by
        simp only [State.lowerEffect, hstate, hmove]
      rw [hexec, State.lowerLift_of_ready hready hpit hbars (by rw [hstate]; exact nofun), heffect]
      rfl

end Sys2Proof.Machine
end

section
/-! PROOFS. Chapters 3 and 4: in-position events of the lift and the legs and re-levels they end (R38, R43, R44, R57,
R65). -/

namespace Sys2Proof.Machine

/-! ### One point of the lift replaced (R39) -/

theorem Four.get_const {α : Type} (x : α) (i : Ix) : (Four.const x).get i = x := by
  cases i <;> rfl

/-- The valve of a point that replaces another is its own matter, and the other valves are not touched. -/
theorem Lift.revalve_set (l : Lift) (i : Ix) (p : Point) (r : Option (Four Bool)) :
    ({ l with points := l.points.set i p } : Lift).revalve r =
      { l.revalve r with points := (l.revalve r).points.set i { p with
        valve := p.valveFor (Lift.driven { l with points := l.points.set i p } r i) } } := by
  cases i <;> rfl

theorem Lift.driven_of_arrived {l : Lift} {r : Option (Four Bool)} {i : Ix} (h : (l.points.get i).arrived = true) :
    l.driven r i = false := by
  simp [Lift.driven, h]

/-- The state in which a point has been marked as arrived, its valve closed. -/
def State.pointArrived (w : Wheel) (s : State) : State :=
  { s with lift := { s.lift with
    points := s.lift.points.set w.ix { s.lift.points.get w.ix with arrived := true, valve := .closed } } }

section
variable {s : State} {w : Wheel} {m : Move} {pit : Pit}

theorem State.pointArrived_eq (hform : s.lift.inForm s.level.relevel) (w : Wheel) :
    s.putLift (s.lift.setPoint w { s.lift.points.get w.ix with arrived := true }) s.level = s.pointArrived w := by
  have hrevalve : (s.lift.setPoint w { s.lift.points.get w.ix with arrived := true }).revalve s.level.relevel =
      (s.pointArrived w).lift := by
    refine (Lift.revalve_set s.lift w.ix _ _).trans ?_
    rw [hform.1, Lift.driven_of_arrived (by rw [Four.get_set_same])]
    rfl
  unfold State.putLift
  dsimp only
  rw [if_pos ⟨rfl, rfl⟩, hrevalve]
  rfl

theorem State.liftArrives_of_arrived (h : (s.lift.points.get w.ix).arrived = true) : s.liftArrives w = s := if_pos h

theorem State.liftArrives_of_new (hform : s.lift.inForm s.level.relevel) (h : (s.lift.points.get w.ix).arrived = false) :
    s.liftArrives w = (s.pointArrived w).arrival := by
  rw [← State.pointArrived_eq hform w]
  exact if_neg (by rw [h]; exact Bool.false_ne_true)

theorem Lift.allArrived_iff (l : Lift) (m : Four Bool) :
    l.allArrived m = true ↔ ∀ i, m.get i = true → (l.points.get i).arrived = true := by
  rw [Lift.allArrived, List.all_eq_true, Four.forall_toList]
  refine forall_congr' fun i => ?_
  rw [Four.get_zipWith]
  cases m.get i <;> simp

/-- With a point marked as arrived, all of a set have arrived when the others of it had. -/
theorem State.pointArrived_allArrived (s : State) (w : Wheel) (m : Four Bool) :
    (s.pointArrived w).lift.allArrived m = true ↔
      ∀ j, j ≠ w.ix → m.get j = true → (s.lift.points.get j).arrived = true := by
  rw [Lift.allArrived_iff]
  refine forall_congr' fun j => ?_
  by_cases hj : j = w.ix
  · have hself : ((s.pointArrived w).lift.points.get w.ix).arrived = true :=
      congrArg Point.arrived (Four.get_set_same s.lift.points w.ix _)
    simp [hself, hj]
  · have hother : (s.pointArrived w).lift.points.get j = s.lift.points.get j := Four.get_set_other _ _ hj
    simp [hother, hj]

theorem State.pointArrived_legToRail (s : State) (w : Wheel) : (s.pointArrived w).lift.legToRail = s.lift.legToRail := rfl

theorem Four.get_set_eq {α β : Type} {f : Four α} {i : Ix} {v : α} (g : α → β) (h : g v = g (f.get i)) (j : Ix) :
    g ((f.set i v).get j) = g (f.get j) := by
  by_cases hj : j = i
  · rw [hj, Four.get_set_same, h]
  · rw [Four.get_set_other _ _ hj]

theorem Lift.highest_congr {l l' : Lift} (h : ∀ i, (l'.points.get i).position = (l.points.get i).position) :
    l'.highest = l.highest := by
  have h0 : l'.points.e0.position = l.points.e0.position := h .i0
  have h1 : l'.points.e1.position = l.points.e1.position := h .i1
  have h2 : l'.points.e2.position = l.points.e2.position := h .i2
  have h3 : l'.points.e3.position = l.points.e3.position := h .i3
  rw [Lift.highest, Lift.highest, h0, h1, h2, h3]

/-! ### The bridge stop (R43, R44) -/

/-- A leg begun elsewhere than in RAISED that does not end at once: one toward the clearance height or a raised target,
one up, or one to 0 from above the rail. -/
theorem State.enterLeg_of_underWay (hpit : s.setup.pit = some pit) (h : s.lift.state ≠ .raised)
    (haway : m.dir = .up ∨ m.stage = .pending ∨ m.target ≠ 0 ∨ 200 < s.lift.highest) :
    s.enterLeg m = s.putLift (s.lift.begun m (if m.stage = .pending then pit.clearance else m.target) pit)
      { s.level with relevel := none } := by
  obtain hup | haway := haway
  · rw [State.enterLeg_eq hpit]
    refine (congrArg State.arriveAtRail (if_neg h)).trans (State.arriveAtRail_of_away fun hleg => ?_)
    rw [State.putLift_lift, Lift.revalve_begun] at hleg
    simp [Lift.legToRail, Lift.onLeg, hup] at hleg
  · exact State.enterLeg_of_not_raised hpit h haway

theorem State.testBridges_of_wait (h : s.lift.state = .bridgeWait m.dir) (hm : s.lift.move = some m) :
    s.testBridges =
      if s.level? .bridgeAOut = decide (m.dir = .up) ∧ s.level? .bridgeBOut = decide (m.dir = .up) then
        s.enterLeg { m with stage := .passed }
      else s := by
  obtain ⟨target, dir, stage⟩ := m
  cases dir with
  | up =>
    have h' : s.lift.state = .bridgeWait .up := h
    simp only [State.testBridges, h', hm, Bool.and_eq_true, decide_true]
  | down =>
    have h' : s.lift.state = .bridgeWait .down := h
    simp only [State.testBridges, h', hm, Bool.and_eq_true, Bool.not_eq_true', reduceCtorEq, decide_false]

/-- The state in which a leg to the clearance height has ended at the bridge stop. -/
def State.bridgeStopped (m : Move) (s : State) : State :=
  s.putLift { s.lift with
    state := .bridgeWait m.dir
    moveTimer := .stopped
    points := s.lift.points.map Point.unpause } s.level

theorem State.endLeg_of_pending (hm : s.lift.move = some m) (h : m.stage = .pending) :
    s.endLeg = (s.bridgeStopped m).testBridges := by
  unfold State.endLeg
  split
  next hnone => rw [hnone] at hm; cases hm
  next m' hm' =>
    obtain rfl : m' = m := Option.some.inj (hm'.symm.trans hm)
    exact if_pos h

theorem State.bridgeStopped_lift (s : State) (m : Move) : (s.bridgeStopped m).lift = { s.lift with
    state := .bridgeWait m.dir
    moveTimer := .stopped
    points := (s.lift.points.map Point.unpause).map Point.shut } :=
  (State.putLift_lift ..).trans (Lift.revalve_of_still _ ⟨nofun, nofun, nofun⟩)

theorem State.bridgeStopped_only (s : State) (m : Move) : Only [.lift, .notices] s (s.bridgeStopped m) :=
  s.putLift_only_lift _

theorem State.bridgeStopped_notices (s : State) (m : Move) (h : s.lift.state ≠ .bridgeWait m.dir) :
    (s.bridgeStopped m).notices = (s.notify .lift).notices :=
  (State.putLift_notices s _ _).trans (if_neg fun hsame => h (congrArg Prod.fst hsame.1).symm)

/-- A leg to a raised target ends in RAISED (R43, R57). -/
def State.arrivedRaised (s : State) : State :=
  (s.putLift { s.lift with
    moveTimer := .stopped
    points := s.lift.points.map Point.unpause
    state := .raised
    move := none } s.level).enterRaised

theorem State.endLeg_of_passed (hm : s.lift.move = some m) (h : m.stage = .passed) (htarget : 0 < m.target) :
    s.endLeg = s.arrivedRaised := by
  have hnot : ¬m.stage = .pending := by rw [h]; exact nofun
  unfold State.endLeg
  split
  next hnone => rw [hnone] at hm; cases hm
  next m' hm' =>
    obtain rfl : m' = m := Option.some.inj (hm'.symm.trans hm)
    exact (if_neg hnot).trans (if_pos htarget)

/-! ### What the completion of re-levels leaves of Level Maintenance (R65) -/

/-- From `s` to `t` the interval timer runs on, no more is owed, and no urgent demand has come up. -/
def State.paysLevel (s t : State) : Prop :=
  t.level.interval = s.level.interval ∧ t.level.backlog ≤ s.level.backlog ∧
    (s.level.urgent = false → t.level.urgent = false)

theorem State.paysLevel.trans {t u : State} (h : s.paysLevel t) (k : t.paysLevel u) : s.paysLevel u :=
  ⟨k.1.trans h.1, k.2.1.trans h.2.1, fun hu => k.2.2 (h.2.2 hu)⟩

/-- The state in which a re-level is over, before the end of an urgent demand. -/
def State.relevelDone (moved : Bool) (s : State) : State :=
  s.putLift { s.lift with moveTimer := .stopped }
    { s.level with
      epoch := if moved then s.level.epoch + 1 else s.level.epoch
      backlog := s.level.backlog - 1
      relevel := none }

theorem State.relevelDone_level (s : State) (moved : Bool) : (s.relevelDone moved).level = { s.level with
    epoch := if moved then s.level.epoch + 1 else s.level.epoch
    backlog := s.level.backlog - 1
    relevel := none } := State.putLift_level ..

theorem State.completeRelevel_eq (s : State) (moved : Bool) : s.completeRelevel moved =
    if (s.relevelDone moved).level.backlog = 0 ∧ (s.relevelDone moved).level.urgent = true then
      (s.relevelDone moved).endUrgent
    else s.relevelDone moved := rfl

theorem State.completeRelevel_level (s : State) (moved : Bool) : (s.completeRelevel moved).level = { s.level with
    epoch := if moved then s.level.epoch + 1 else s.level.epoch
    backlog := s.level.backlog - 1
    relevel := none
    urgent := s.level.urgent && !decide (s.level.backlog - 1 = 0) } := by
  have hdone := s.relevelDone_level moved
  rw [State.completeRelevel_eq]
  split
  next h =>
    rw [hdone] at h
    obtain ⟨hzero, hurgent⟩ := h
    rw [State.endUrgent_level, hdone, decide_eq_true hzero, Bool.not_true, Bool.and_false]
  next h =>
    rw [hdone] at h
    have hkept : (s.level.urgent && !decide (s.level.backlog - 1 = 0)) = s.level.urgent := by
      cases hu : s.level.urgent with
      | false => rfl
      | true => rw [decide_eq_false fun hz => h ⟨hz, hu⟩]; rfl
    rw [hdone, hkept]

theorem State.completeRelevel_paysLevel (s : State) (moved : Bool) : s.paysLevel (s.completeRelevel moved) := by
  rw [State.paysLevel, s.completeRelevel_level moved]
  exact ⟨rfl, Nat.sub_le _ _, fun h => by rw [h]; rfl⟩

theorem State.completeRelevel_seen (s : State) (moved : Bool) : (s.completeRelevel moved).lift.seen = s.lift.seen := by
  have hput : (s.relevelDone moved).lift.seen = s.lift.seen := by
    rw [State.relevelDone, State.putLift_lift]
    rfl
  rw [State.completeRelevel_eq]
  split
  · exact (State.endUrgent_standsAs _).1.trans hput
  · exact hput

/-- The end of a re-level is told. -/
theorem State.completeRelevel_liftTold (moved : Bool) (h : s.level.relevel ≠ none) :
    s.liftTold (s.completeRelevel moved) := by
  have hput : s.liftTold (s.relevelDone moved) :=
    s.putLift_liftTold _ _ (.inr fun hsame => h (congrArg Level.relevel hsame).symm)
  rw [State.completeRelevel_eq]
  split
  · exact hput.after (State.endUrgent_liftKept _)
  · exact hput

theorem State.testStart_paysLevel (s : State) : s.paysLevel s.testStart := by
  have hrefl (u : State) : u.paysLevel u := ⟨rfl, Nat.le_refl _, id⟩
  unfold State.testStart
  generalize s.level.backlog = n
  induction n generalizing s with
  | zero => exact hrefl s
  | succ n ih =>
    unfold State.startRelevels
    split
    · exact hrefl s
    · split
      · dsimp only
        split
        · have hlevel (m : Four Bool) (pit : Pit) : (s.beginRelevel m pit).level = { s.level with relevel := some m } :=
            State.putLift_level ..
          rw [State.paysLevel, hlevel]
          exact hrefl s
        · exact (s.completeRelevel_paysLevel false).trans (ih _)
      · exact hrefl s

theorem State.enterRaised_interval (hpit : s.setup.pit = some pit) :
    s.enterRaised.level.interval = .running (pit.relevelInterval * 1000) := by
  have hput (v : Level) : (s.putLift s.lift v).level = v := State.putLift_level ..
  have hurgent (u : State) : u.testUrgent.level.interval = u.level.interval := by
    obtain h | h := u.testUrgent_cases
    · rw [h, State.urged_level]
    · rw [h]
  rw [State.enterRaised]
  dsimp only
  rw [(State.testStart_paysLevel _).1, hurgent, hput, hpit]

/-! ### The arrival that completes (R43, R65) -/

theorem State.arrival_of_leg (h : s.lift.state = .raising ∨ s.lift.state = .lowering) : s.arrival =
    if s.lift.allArrived (Four.const true) = true ∧ s.lift.legToRail = false then s.endLeg else s := by
  obtain h | h := h
  · have hleg : s.lift.legToRail = false := by simp [Lift.legToRail, h]
    simp only [State.arrival, h, hleg, and_true]
  · simp only [State.arrival, h, Bool.and_eq_true, Bool.not_eq_true']

theorem State.arrival_of_relevel {m : Four Bool} (h : s.lift.state = .raised) (hm : s.level.relevel = some m) :
    s.arrival = if s.lift.allArrived m = true then (s.completeRelevel true).testStart else s := by
  simp only [State.arrival, h, hm]

theorem State.arrival_of_rest (h : s.lift.state ≠ .raising ∧ s.lift.state ≠ .lowering)
    (hr : s.lift.state = .raised → s.level.relevel = none) : s.arrival = s := by
  obtain ⟨hraising, hlowering⟩ := h
  cases hstate : s.lift.state
  case raising => exact absurd hstate hraising
  case lowering => exact absurd hstate hlowering
  case raised => simp only [State.arrival, hstate, hr hstate]
  all_goals simp only [State.arrival, hstate]

/-- A leg whose last point has arrived comes to its end. -/
theorem State.arrival_of_last (h : s.lift.state = .raising ∨ s.lift.state = .lowering)
    (hothers : ∀ j, j ≠ w.ix → (s.lift.points.get j).arrived = true) (hleg : s.lift.legToRail = false) :
    (s.pointArrived w).arrival = (s.pointArrived w).endLeg := by
  rw [State.arrival_of_leg (s := s.pointArrived w) h]
  exact if_pos ⟨(s.pointArrived_allArrived w _).2 fun j hj _ => hothers j hj, hleg⟩

/-! ### The point marked as arrived, and what follows -/

theorem State.pointArrived_only (s : State) (w : Wheel) : Only [.lift] s (s.pointArrived w) :=
  ⟨rfl, fun b hb => by cases b <;> first | rfl | exact absurd (by decide) hb⟩

theorem State.pointArrived_demand (s : State) (w : Wheel) (i : Ix) :
    ((s.pointArrived w).lift.points.get i).demand = (s.lift.points.get i).demand :=
  Four.get_set_eq (f := s.lift.points) (v := { s.lift.points.get w.ix with arrived := true, valve := .closed })
    Point.demand rfl i

theorem State.pointArrived_highest (s : State) (w : Wheel) : (s.pointArrived w).lift.highest = s.lift.highest :=
  Lift.highest_congr fun i => Four.get_set_eq (f := s.lift.points)
    (v := { s.lift.points.get w.ix with arrived := true, valve := .closed }) Point.position rfl i

end

/-- Settles O34: the in-position event by what it completes, and an accepted change of a bridge at the bridge stop. -/
theorem arrivalsEndLegsAndReLevels : Obligations.ArrivalsEndLegsAndReLevels := by
  constructor
  · intro w s hform next others
    have hexec : exec (.liftInPosition w) s = .next (s.liftArrives w) := rfl
    refine ⟨fun harrived => congrArg Host.Outcome.next (State.liftArrives_of_arrived harrived), fun hnew =>
      ⟨fun hnot hmore => ?stays, ?bridge,
        fun m pit hm hpassed htarget hothers hpit hstate => ?raised, fun m hraised hm hw hothers => ?relevel⟩⟩
    all_goals rw [State.liftArrives_of_new hform hnew] at hexec
    case stays =>
      have hstill : (s.pointArrived w).arrival = s.pointArrived w := by
        by_cases hleg : s.lift.state = .raising ∨ s.lift.state = .lowering
        · rw [State.arrival_of_leg (s := s.pointArrived w) hleg]
          refine if_neg fun ⟨hall, hrail⟩ => ?_
          obtain h | h := hnot hleg
          · exact h fun j hj => (s.pointArrived_allArrived w _).1 hall j hj (Four.get_const true j)
          · rw [State.pointArrived_legToRail, h] at hrail
            cases hrail
        · cases hr : s.level.relevel with
          | none => exact State.arrival_of_rest (s := s.pointArrived w) (not_or.1 hleg) fun _ => hr
          | some m =>
            by_cases hraised : s.lift.state = .raised
            · rw [State.arrival_of_relevel (s := s.pointArrived w) hraised hr]
              obtain ⟨j, hj, hmj, haway⟩ := hmore m hraised hr
              refine if_neg fun hall => ?_
              rw [(s.pointArrived_allArrived w m).1 hall j hj hmj] at haway
              cases haway
            · exact State.arrival_of_rest (s := s.pointArrived w) (not_or.1 hleg) fun h => absurd h hraised
      rw [hstill] at hexec
      exact hexec
    case bridge =>
      intro m pit hm hpending hothers hpit hstate out
      have hmoving : s.lift.state = .raising ∨ s.lift.state = .lowering := hstate.imp And.left And.left
      have hleg : s.lift.legToRail = false := by
        simp [Lift.legToRail, hm, hpending]
      have hdir : m.dir = .up ∨ m.dir = .down ∧ 200 < s.lift.highest := hstate.imp And.right And.right
      have hthis : s.lift.state = match m.dir with
          | .up => .raising
          | .down => .lowering := by
        obtain ⟨h, hd⟩ | ⟨h, hd, _⟩ := hstate <;> rw [h, hd]
      have hnever : s.lift.state ≠ .bridgeWait m.dir := by rcases hmoving with h | h <;> rw [h] <;> exact nofun
      rw [State.arrival_of_last hmoving hothers hleg, State.endLeg_of_pending (s := s.pointArrived w) hm hpending] at hexec
      have hstop := (s.pointArrived w).bridgeStopped_lift m
      have hstopOnly := ((s.pointArrived_only w).mono (show _ ⊆ [Block.lift, .notices] by decide)).trans
        ((s.pointArrived w).bridgeStopped_only m)
      have htold : ((s.pointArrived w).bridgeStopped m).notices = (s.notify .lift).notices :=
        (s.pointArrived w).bridgeStopped_notices m hnever
      have hlevel? (j : Input) : ((s.pointArrived w).bridgeStopped m).level? j = s.level? j :=
        State.level?_of_only hstopOnly (by decide) j
      have hmove : ((s.pointArrived w).bridgeStopped m).lift.move = some m := by rw [hstop]; exact hm
      have hwait : ((s.pointArrived w).bridgeStopped m).lift.state = .bridgeWait m.dir := by rw [hstop]
      rw [State.testBridges_of_wait hwait hmove, hlevel?, hlevel?] at hexec
      refine ⟨fun hagree => ?_, fun haway => ?_⟩
      · have hpit' : ((s.pointArrived w).bridgeStopped m).setup.pit = some pit := by
          rw [show ((s.pointArrived w).bridgeStopped m).setup = s.setup from hstopOnly.2 .setup (by decide), hpit]
        have hhigh : ((s.pointArrived w).bridgeStopped m).lift.highest = s.lift.highest := by
          rw [hstop]
          exact s.pointArrived_highest w
        rw [if_pos hagree, State.enterLeg_of_underWay (m := { m with stage := .passed }) hpit'
          (by rw [hwait]; exact nofun)
          (hdir.imp id fun h => .inr (.inr (by rw [hhigh]; exact h.2)))] at hexec
        have hlift := State.putLift_lift ((s.pointArrived w).bridgeStopped m)
          (((s.pointArrived w).bridgeStopped m).lift.begun { m with stage := .passed } m.target pit)
          { ((s.pointArrived w).bridgeStopped m).level with relevel := none }
        rw [Lift.revalve_begun] at hlift
        have hlevel : ((s.pointArrived w).bridgeStopped m).level = s.level := hstopOnly.2 .level (by decide)
        have hmoved : (((s.pointArrived w).bridgeStopped m).putLift
            (((s.pointArrived w).bridgeStopped m).lift.begun { m with stage := .passed } m.target pit)
            { ((s.pointArrived w).bridgeStopped m).level with relevel := none }).lift.move =
            some { m with stage := .passed } := by rw [hlift]; rfl
        refine ⟨_, hexec, ?_, hmoved, fun i => ?_, ?_, ?_, State.tellsLift_of_told
          (State.putLift_notices_of_told htold _ _) fun hsame => ?_,
          (hstopOnly.mono (by decide)).trans (State.putLift_only _ _ _)⟩
        · exact (congrArg Lift.state hlift).trans hthis.symm
        · refine ⟨?_, ?_⟩
          · exact (congrArg (fun l : Lift => (l.points.get i).demand) hlift).trans (by cases i <;> rfl)
          · exact (congrArg (fun l : Lift => (l.points.get i).arrived) hlift).trans (by cases i <;> rfl)
        · exact congrArg Lift.moveTimer hlift
        · exact (State.putLift_level ..).trans (by rw [hlevel])
        · obtain ⟨_, _, _, hsamemove, _⟩ := hsame
          have hstage := congrArg (Option.map Move.stage) (hmoved.symm.trans (hsamemove.trans hm))
          rw [Option.map_some, Option.map_some, hpending] at hstage
          cases hstage
      · have hno : ¬(s.level? .bridgeAOut = decide (m.dir = .up) ∧ s.level? .bridgeBOut = decide (m.dir = .up)) := by
          rintro ⟨ha, hb⟩
          have haway' : s.level? .bridgeAOut = !decide (m.dir = .up) ∨ s.level? .bridgeBOut = !decide (m.dir = .up) :=
            haway
          rw [ha, hb] at haway'
          cases hd : decide (m.dir = .up) <;> rw [hd] at haway' <;> simp at haway'
        rw [if_neg hno] at hexec
        refine ⟨_, hexec, hwait, hmove, by rw [hstop], fun i => ?_, State.tellsLift_of_told htold fun hsame => ?_,
          hstopOnly⟩
        · rw [hstop]
          cases i <;> exact ⟨rfl, rfl⟩
        · exact hnever (hsame.1.symm.trans hwait)
    case raised =>
      have hleg : s.lift.legToRail = false := by
        simp [Lift.legToRail, hm, Int.ne_of_gt htarget]
      rw [State.arrival_of_last hstate hothers hleg,
        State.endLeg_of_passed (s := s.pointArrived w) hm hpassed htarget] at hexec
      have hput := (s.pointArrived w).putLift_only { (s.pointArrived w).lift with
        moveTimer := .stopped
        points := (s.pointArrived w).lift.points.map Point.unpause
        state := .raised
        move := none } (s.pointArrived w).level
      have hlift := State.putLift_lift (s.pointArrived w) { (s.pointArrived w).lift with
        moveTimer := .stopped
        points := (s.pointArrived w).lift.points.map Point.unpause
        state := .raised
        move := none } (s.pointArrived w).level
      have hlevel := State.putLift_level (s.pointArrived w) { (s.pointArrived w).lift with
        moveTimer := .stopped
        points := (s.pointArrived w).lift.points.map Point.unpause
        state := .raised
        move := none } (s.pointArrived w).level
      have harrived : (s.pointArrived w).arrivedRaised = ((s.pointArrived w).putLift { (s.pointArrived w).lift with
        moveTimer := .stopped
        points := (s.pointArrived w).lift.points.map Point.unpause
        state := .raised
        move := none } (s.pointArrived w).level).enterRaised := rfl
      have hkept := (State.liftKept_of_only (s.pointArrived_only w) (by decide)).trans
        ((s.pointArrived w).putLift_liftKept { (s.pointArrived w).lift with
          moveTimer := .stopped
          points := (s.pointArrived w).lift.points.map Point.unpause
          state := .raised
          move := none } (s.pointArrived w).level)
      rw [harrived] at hexec
      generalize (s.pointArrived w).putLift { (s.pointArrived w).lift with
        moveTimer := .stopped
        points := (s.pointArrived w).lift.points.map Point.unpause
        state := .raised
        move := none } (s.pointArrived w).level = u at hexec hput hlift hlevel hkept
      obtain ⟨hseen, hepoch, hdemand⟩ := u.enterRaised_stands
      obtain ⟨hnow, _, _, hmove⟩ := (Lift.seen_eq_iff _ _).1 hseen
      have honly := ((s.pointArrived_only w).mono (show _ ⊆ [.lift, .level, .stations, .axes, .capture, .notices] by
        decide)).trans ((hput.mono (by decide)).trans u.enterRaised_only)
      have hsetup : u.setup = s.setup := hput.2 .setup (by decide)
      refine ⟨_, hexec, by rw [hnow, hlift]; rfl, by rw [hmove, hlift]; rfl, by rw [hepoch, hlevel]; rfl,
        State.enterRaised_interval (by rw [hsetup, hpit]), fun i => ?_, honly.2 .context (by decide),
        honly.2 .store (by decide), honly.2 .plans (by decide), honly.2 .probes (by decide),
        hkept.told u.enterRaised_liftTold⟩
      rw [hdemand, hlift, Lift.revalve_demand, ← s.pointArrived_demand w i]
      cases i <;> rfl
    case relevel =>
      have hall : (s.pointArrived w).lift.allArrived m = true := (s.pointArrived_allArrived w m).2 hothers
      rw [State.arrival_of_relevel (s := s.pointArrived w) hraised hm, if_pos hall] at hexec
      have hlevel := (s.pointArrived w).completeRelevel_level true
      have hpays := State.testStart_paysLevel ((s.pointArrived w).completeRelevel true)
      have hstands := State.testStart_standsAs ((s.pointArrived w).completeRelevel true)
      have honly := ((s.pointArrived_only w).mono (show _ ⊆ [.lift, .level, .stations, .axes, .notices] by
        decide)).trans (((s.pointArrived w).completeRelevel_only true).trans (State.testStart_only _))
      refine ⟨_, hexec, ?_, ?_, ?_, fun hone => ?_, ?_, honly.2 .context (by decide), honly.2 .store (by decide), ?_⟩
      · have hseen := hstands.1.trans ((s.pointArrived w).completeRelevel_seen true)
        exact ((Lift.seen_eq_iff _ _).1 hseen).1.trans hraised
      · rw [hstands.2.1, hlevel]; rfl
      · exact hpays.2.1.trans (by rw [hlevel]; exact Nat.le_refl _)
      · refine hpays.2.2 ?_
        rw [hlevel]
        have hzero : (s.pointArrived w).level.backlog - 1 = 0 := Nat.sub_eq_zero_of_le hone
        rw [decide_eq_true hzero, Bool.not_true, Bool.and_false]
      · rw [hpays.1, hlevel]; rfl
      · have hrelevel : (s.pointArrived w).level.relevel ≠ none := by
          rw [show (s.pointArrived w).level.relevel = some m from hm]
          exact nofun
        exact (State.liftKept_of_only (s.pointArrived_only w) (by decide)).told
          ((State.completeRelevel_liftTold true hrelevel).after (State.testStart_liftKept _))
  · intro i s length m pit hi hrun hstate hm hpit now agree
    have hout (raw : Bool) : (s.acceptLevel i).handOut i raw = (s.acceptLevel i).testBridges := by
      obtain rfl | rfl := hi <;> cases raw <;> rfl
    have hnow (j : Input) : (s.acceptLevel i).level? j = now j := by
      by_cases hj : j = i
      · rw [hj, State.acceptLevel_level?_self]
        exact (if_pos rfl).symm
      · rw [s.acceptLevel_level?_of_ne _ hj]
        exact (if_neg hj).symm
    have htest := State.testBridges_of_wait (s := s.acceptLevel i) hstate hm
    rw [hnow, hnow] at htest
    refine ⟨fun hagree haway => ?_, fun hno => ?_⟩
    · rw [if_pos hagree, State.enterLeg_of_not_raised (s := s.acceptLevel i) (m := { m with stage := .passed }) hpit
        (show s.lift.state ≠ .raised by rw [hstate]; exact nofun) (.inr haway)] at htest
      refine exec_debounceExpiry_of_putLift ⟨hrun, rfl⟩ ((hout _).trans htest) (Lift.revalve_begun ..) (.inl ?_)
      exact Lift.seen_ne_of_state (by rw [hstate]; unfold Lift.begun; cases m.dir <;> exact nofun)
    · rw [if_neg hno] at htest
      exact ⟨_, exec_debounceExpiry_of_running ⟨hrun, rfl⟩, by rw [hout, htest]; rfl, by rw [hout, htest]; rfl,
        by rw [hout, htest]; exact s.acceptLevel_only i⟩

end Sys2Proof.Machine
end

section
/-! PROOFS. Chapter 3: position reports of the lift, the synchronization they drive, the trip and the arrival at rail
(R38, R39, R43, R48, R49). -/

namespace Sys2Proof.Machine

/-! ### Synchronization point by point (R48) -/

section
variable {l : Lift} {sync lo hi : Int} {r : Option (Four Bool)} {i : Ix}

/-- The positions that synchronization compares. -/
theorem Lift.mem_comparedPositions_iff (l : Lift) (r : Option (Four Bool)) (x : Int) :
    x ∈ (Four.zipWith (fun b (p : Point) => if b then some p.position else none) (l.compared r)
      l.points).toList.filterMap id ↔ ∃ i, (l.compared r).get i = true ∧ (l.points.get i).position = x := by
  have hsome : some x ∈ (Four.zipWith (fun b (p : Point) => if b then some p.position else none) (l.compared r)
      l.points).toList ↔ ∃ i, (Four.zipWith (fun b (p : Point) => if b then some p.position else none) (l.compared r)
      l.points).get i = some x := by
    constructor
    · intro h
      simp only [Four.toList, List.mem_cons, List.not_mem_nil, or_false] at h
      obtain h | h | h | h := h
      · exact ⟨.i0, h.symm⟩
      · exact ⟨.i1, h.symm⟩
      · exact ⟨.i2, h.symm⟩
      · exact ⟨.i3, h.symm⟩
    · rintro ⟨i, hi⟩
      rw [← hi]
      cases i <;> simp [Four.toList, Four.get]
  simp only [List.mem_filterMap, id_eq, exists_eq_right]
  rw [hsome]
  refine exists_congr fun i => ?_
  rw [Four.get_zipWith]
  cases (l.compared r).get i <;> simp

/-- Synchronization by the least and the greatest of the positions it compares. -/
theorem Lift.synchronize_of_range (hlo : ∃ a, (l.compared r).get a = true ∧ (l.points.get a).position = lo)
    (hhi : ∃ b, (l.compared r).get b = true ∧ (l.points.get b).position = hi)
    (hrange : ∀ i, (l.compared r).get i = true → lo ≤ (l.points.get i).position ∧ (l.points.get i).position ≤ hi) :
    l.synchronize sync r =
      if sync < hi - lo then l.syncPoints r fun p => if p.leads sync lo hi then p.pause else p
      else if 2 * (hi - lo) ≤ sync then l.syncPoints r Point.unpause
      else l := by
  have hmin : ((Four.zipWith (fun b (p : Point) => if b then some p.position else none) (l.compared r)
      l.points).toList.filterMap id).min? = some lo := by
    refine List.min?_eq_some_iff.2 ⟨(l.mem_comparedPositions_iff r lo).2 hlo, fun x hx => ?_⟩
    obtain ⟨i, hi, rfl⟩ := (l.mem_comparedPositions_iff r x).1 hx
    exact (hrange i hi).1
  have hmax : ((Four.zipWith (fun b (p : Point) => if b then some p.position else none) (l.compared r)
      l.points).toList.filterMap id).max? = some hi := by
    refine List.max?_eq_some_iff.2 ⟨(l.mem_comparedPositions_iff r hi).2 hhi, fun x hx => ?_⟩
    obtain ⟨i, hi, rfl⟩ := (l.mem_comparedPositions_iff r x).1 hx
    exact (hrange i hi).2
  unfold Lift.synchronize
  dsimp only
  rw [hmin, hmax]

theorem Lift.syncPoints_get (l : Lift) (r : Option (Four Bool)) (f : Point → Point) (i : Ix) :
    (l.syncPoints r f).points.get i = if (l.compared r).get i = true then f (l.points.get i) else l.points.get i :=
  Four.get_zipWith ..

/-- A point keeps its position, its demand, its arrival and its valve through a pause and a resumption. -/
def Point.sameBut (p q : Point) : Prop :=
  q.position = p.position ∧ q.demand = p.demand ∧ q.arrived = p.arrived

theorem Point.sameBut_pause (p : Point) : p.sameBut p.pause := by
  unfold Point.pause
  split <;> exact ⟨rfl, rfl, rfl⟩

theorem Lift.synchronize_sameBut (l : Lift) (sync : Int) (r : Option (Four Bool)) (i : Ix) :
    (l.points.get i).sameBut ((l.synchronize sync r).points.get i) ∧
      ((l.compared r).get i = false → (l.synchronize sync r).points.get i = l.points.get i) := by
  have hsync (f : Point → Point) (hf : ∀ p : Point, p.sameBut (f p)) :
      (l.points.get i).sameBut ((l.syncPoints r f).points.get i) ∧
        ((l.compared r).get i = false → (l.syncPoints r f).points.get i = l.points.get i) := by
    rw [Lift.syncPoints_get]
    cases (l.compared r).get i with
    | true => exact ⟨hf _, nofun⟩
    | false => exact ⟨⟨rfl, rfl, rfl⟩, fun _ => rfl⟩
  unfold Lift.synchronize
  dsimp only
  split
  · split
    · refine hsync _ fun p => ?_
      split
      · exact p.sameBut_pause
      · exact ⟨rfl, rfl, rfl⟩
    · split
      · exact hsync _ fun p => ⟨rfl, rfl, rfl⟩
      · exact ⟨⟨rfl, rfl, rfl⟩, fun _ => rfl⟩
  · exact ⟨⟨rfl, rfl, rfl⟩, fun _ => rfl⟩

theorem Point.pause_paused (p : Point) : p.pause.paused = true := by
  unfold Point.pause
  split
  next h => exact h
  next => rfl

/-- The paused flag of a point that is compared. -/
theorem Lift.synchronize_paused (hlo : ∃ a, (l.compared r).get a = true ∧ (l.points.get a).position = lo)
    (hhi : ∃ b, (l.compared r).get b = true ∧ (l.points.get b).position = hi)
    (hrange : ∀ i, (l.compared r).get i = true → lo ≤ (l.points.get i).position ∧ (l.points.get i).position ≤ hi)
    (hi' : (l.compared r).get i = true) :
    (sync < hi - lo → (((l.synchronize sync r).points.get i).paused = true ↔
      (l.points.get i).paused = true ∨ (l.points.get i).leads sync lo hi = true)) ∧
    (hi - lo ≤ sync → 2 * (hi - lo) ≤ sync → ((l.synchronize sync r).points.get i).paused = false) ∧
    (hi - lo ≤ sync → sync < 2 * (hi - lo) →
      ((l.synchronize sync r).points.get i).paused = (l.points.get i).paused) := by
  rw [Lift.synchronize_of_range hlo hhi hrange]
  refine ⟨fun hwide => ?_, fun hband hnarrow => ?_, fun hband hbetween => ?_⟩
  · rw [if_pos hwide, Lift.syncPoints_get, if_pos hi']
    cases hl : (l.points.get i).leads sync lo hi with
    | true => simp [Point.pause_paused]
    | false => simp
  · rw [if_neg (not_lt.2 hband), if_pos hnarrow, Lift.syncPoints_get, if_pos hi']
    rfl
  · rw [if_neg (not_lt.2 hband), if_neg (not_le.2 hbetween)]

/-- The lead of a point that is driven, or paused, told by its position and its demand. -/
theorem Point.leads_iff {p : Point} {dir : Option Dir} (h : p.direction = dir) (sync lo hi : Int) :
    p.leads sync lo hi = true ↔ dir = some .up ∧ sync < 2 * (p.position - lo) ∨
      dir = some .down ∧ sync < 2 * (hi - p.position) := by
  rw [Point.leads, h]
  cases dir with
  | none => simp
  | some d => cases d <;> simp

/-! ### The valves as they stand (R39) -/

theorem Lift.revalve_get (l : Lift) (r : Option (Four Bool)) (i : Ix) :
    (l.revalve r).points.get i = { l.points.get i with valve := (l.points.get i).valveFor (l.driven r i) } :=
  Four.get_mapIx ..

/-- The group drives its points: in a move all, in a re-level those of the set (R39). -/
def Lift.drives (l : Lift) (r : Option (Four Bool)) (i : Ix) : Bool :=
  match l.state with
  | .raising => true
  | .lowering => true
  | .raised => (r.map fun m => m.get i).getD false
  | _ => false

theorem Lift.driven_eq (l : Lift) (r : Option (Four Bool)) (i : Ix) :
    l.driven r i = (l.drives r i && !(l.points.get i).arrived && !(l.points.get i).paused) := rfl

/-- The direction of a point whose valve stands as R39 gives. -/
theorem Point.direction_valveFor (p : Point) (driven : Bool) :
    ({ p with valve := p.valveFor driven } : Point).direction =
      if p.paused then p.pausedDir
      else if driven then
        (if p.position < p.demand then some .up else if p.demand < p.position then some .down else none)
      else none := by
  unfold Point.direction Point.valveFor
  by_cases hup : p.position < p.demand <;> by_cases hdown : p.demand < p.position <;> cases p.paused <;>
    cases driven <;> simp [hup, hdown]

end

/-! ### A position report (R38) -/

/-- The lift with the position of a point taken, the valves as they stood. -/
def Lift.reported (l : Lift) (w : Wheel) (height : Nat) : Lift :=
  { l with points := l.points.set w.ix { l.points.get w.ix with position := min (height : Int) 60000 } }

section
variable {s t : State} {w : Wheel} {height : Nat} {pit : Pit}

/-- A write of the lift that LIFT does not tell of. -/
theorem State.putLift_unseen {l : Lift} (h : l.seen = s.lift.seen) :
    s.putLift l s.level = { s with lift := l.revalve s.level.relevel } := by
  unfold State.putLift
  dsimp only
  rw [if_pos ⟨h, rfl⟩]

/-- The state in which the report has been taken and the valves have been set by it. -/
def State.reported (w : Wheel) (height : Nat) (s : State) : State :=
  { s with lift := (s.lift.reported w height).revalve s.level.relevel }

theorem State.reported_putLift (s : State) (w : Wheel) (height : Nat) :
    s.putLift ((s.lift.reported w height).revalve s.level.relevel) s.level = s.reported w height :=
  State.putLift_unseen rfl

theorem State.reported_only (s : State) (w : Wheel) (height : Nat) : Only [.lift] s (s.reported w height) :=
  ⟨rfl, fun b hb => by cases b <;> first | rfl | exact absurd (by decide) hb⟩

theorem State.reportLift_of_unsupervised (h : s.supervised = false) :
    s.reportLift w height = s.reported w height := by
  rw [← s.reported_putLift w height]
  unfold State.reportLift
  dsimp only
  rw [h]
  rfl

theorem State.reportLift_of_supervised (h : s.supervised = true) (hpit : s.setup.pit = some pit) :
    s.reportLift w height =
      if pit.tripBand < (s.lift.reported w height).highest - (s.lift.reported w height).lowest then
        (s.reported w height).enterFault .trip
      else (s.putLift (((s.lift.reported w height).revalve s.level.relevel).synchronize pit.syncBand s.level.relevel)
        s.level).arriveAtRail := by
  rw [← s.reported_putLift w height]
  unfold State.reportLift
  dsimp only
  rw [h, hpit]
  rfl

/-- With no point driven the report changes the position alone. -/
theorem State.reported_of_still (hform : s.lift.inForm s.level.relevel)
    (h : s.lift.drives s.level.relevel w.ix = false) :
    s.reported w height = { s with lift := s.lift.reported w height } := by
  have hvalve : (s.lift.points.get w.ix).valve = .closed := by
    rw [← hform.1, Lift.revalve_get, Lift.driven_eq, h]
    rfl
  have hlift : (s.lift.reported w height).revalve s.level.relevel = s.lift.reported w height := by
    refine (Lift.revalve_set s.lift w.ix _ _).trans ?_
    have hdriven : Lift.driven { s.lift with
        points := s.lift.points.set w.ix { s.lift.points.get w.ix with position := min (height : Int) 60000 } }
        s.level.relevel w.ix = false := by
      rw [Lift.driven_eq]
      exact (congrArg (· && _ && _) h).trans rfl
    rw [hform.1, hdriven]
    have hpoint : ({ s.lift.points.get w.ix with
        position := min (height : Int) 60000
        valve := .closed } : Point) = { s.lift.points.get w.ix with position := min (height : Int) 60000 } := by
      rw [← hvalve]
    exact congrArg (fun p => ({ s.lift with points := s.lift.points.set w.ix p } : Lift)) hpoint
  rw [State.reported, hlift]

/-- The group as the report, the synchronization and the valves leave it. -/
def Lift.synced (l : Lift) (sync : Int) (r : Option (Four Bool)) : Lift :=
  ((l.revalve r).synchronize sync r).revalve r

/-- What a point keeps through synchronization, and how its valve stands after it. -/
theorem Lift.synced_point (l : Lift) (sync : Int) (r : Option (Four Bool)) (i : Ix) :
    ((l.synced sync r).points.get i).position = (l.points.get i).position ∧
      ((l.synced sync r).points.get i).demand = (l.points.get i).demand ∧
      ((l.synced sync r).points.get i).arrived = (l.points.get i).arrived ∧
      ((l.compared r).get i = false → ((l.synced sync r).points.get i).paused = (l.points.get i).paused) ∧
      ((l.synced sync r).points.get i).valve =
        if l.drives r i = true ∧ ((l.synced sync r).points.get i).arrived = false ∧
          ((l.synced sync r).points.get i).paused = false then ((l.synced sync r).points.get i).driving else .closed := by
  have hdrives : ((l.revalve r).synchronize sync r).drives r i = l.drives r i := by
    rw [Lift.synchronize_eq]
    rfl
  obtain ⟨⟨hposition, hdemand, harrived⟩, hkept⟩ := (l.revalve r).synchronize_sameBut sync r i
  have hvalve : ((l.revalve r).points.get i) =
    { l.points.get i with valve := (l.points.get i).valveFor (l.driven r i) } := l.revalve_get r i
  rw [Lift.synced, Lift.revalve_get, Lift.driven_eq, hdrives]
  rw [hvalve] at hposition hdemand harrived hkept
  have hpaused (hno : (l.compared r).get i = false) :
      (((l.revalve r).synchronize sync r).points.get i).paused = (l.points.get i).paused := by
    rw [hkept hno]
  refine ⟨hposition, hdemand, harrived, hpaused, ?_⟩
  generalize ((l.revalve r).synchronize sync r).points.get i = q
  cases l.drives r i <;> cases q.arrived <;> cases q.paused <;> simp [Point.valveFor, Point.driving]

/-- The paused flag of a point that is compared, by the range of the positions compared. -/
theorem Lift.synced_paused {l : Lift} {sync lo hi : Int} {r : Option (Four Bool)} {i : Ix}
    (hlo : ∃ a, (l.compared r).get a = true ∧ (l.points.get a).position = lo)
    (hhi : ∃ b, (l.compared r).get b = true ∧ (l.points.get b).position = hi)
    (hrange : ∀ i, (l.compared r).get i = true → lo ≤ (l.points.get i).position ∧ (l.points.get i).position ≤ hi)
    (hi' : (l.compared r).get i = true) {dir : Option Dir}
    (hdir : (if (l.points.get i).paused then (l.points.get i).pausedDir
      else if l.driven r i then
        (if (l.points.get i).position < (l.points.get i).demand then some .up
          else if (l.points.get i).demand < (l.points.get i).position then some .down else none)
      else none) = dir) :
    (sync < hi - lo → (((l.synced sync r).points.get i).paused = true ↔ (l.points.get i).paused = true ∨
      (dir = some .up ∧ sync < 2 * ((l.points.get i).position - lo) ∨
        dir = some .down ∧ sync < 2 * (hi - (l.points.get i).position)))) ∧
    (hi - lo ≤ sync → 2 * (hi - lo) ≤ sync → ((l.synced sync r).points.get i).paused = false) ∧
    (hi - lo ≤ sync → sync < 2 * (hi - lo) →
      ((l.synced sync r).points.get i).paused = (l.points.get i).paused) := by
  have hget (i : Ix) : ((l.revalve r).points.get i).position = (l.points.get i).position := by rw [Lift.revalve_get]
  have hcompared : (l.revalve r).compared r = l.compared r := rfl
  have hpaused : ((l.synced sync r).points.get i).paused = (((l.revalve r).synchronize sync r).points.get i).paused := by
    rw [Lift.synced, Lift.revalve_get]
  have hdirection : ((l.revalve r).points.get i).direction = dir := by
    rw [Lift.revalve_get, Point.direction_valveFor]
    exact hdir
  have hsync := Lift.synchronize_paused (l := l.revalve r) (sync := sync) (r := r) (i := i) (lo := lo) (hi := hi)
    (by rw [hcompared]; simpa only [hget] using hlo) (by rw [hcompared]; simpa only [hget] using hhi)
    (by rw [hcompared]; simpa only [hget] using hrange) (by rw [hcompared]; exact hi')
  have hflag : ((l.revalve r).points.get i).paused = (l.points.get i).paused := by rw [Lift.revalve_get]
  rw [Point.leads_iff hdirection, hflag, hget] at hsync
  rw [hpaused]
  exact hsync

/-- A point that stands still is told by its position and its arrival. -/
theorem Point.ext_of {p q : Point} (hposition : p.position = q.position) (harrived : p.arrived = q.arrived) :
    ({ p with demand := 0, valve := .closed, paused := false, pausedDir := none } : Point) =
      { q with demand := 0, valve := .closed, paused := false, pausedDir := none } := by
  rw [hposition, harrived]

theorem State.supervised_of_moving (h : s.lift.state = .raising ∨ s.lift.state = .lowering) : s.supervised = true := by
  obtain h | h := h <;> simp only [State.supervised, h]

theorem Lift.drives_of_moving {l : Lift} (h : l.state = .raising ∨ l.state = .lowering) (r : Option (Four Bool))
    (i : Ix) : l.drives r i = true := by
  obtain h | h := h <;> simp only [Lift.drives, h]

/-- In a move all four points are compared, from the lowest to the highest. -/
theorem Lift.compared_of_moving {l : Lift} (h : l.state = .raising ∨ l.state = .lowering) (r : Option (Four Bool)) :
    l.compared r = Four.const true := by
  obtain h | h := h <;> simp only [Lift.compared, h]

theorem Lift.compared_of_relevel {l : Lift} (h : l.state = .raised) (m : Four Bool) (i : Ix) :
    (l.compared (some m)).get i = (m.get i && !(l.points.get i).arrived) := by
  have hcompared : l.compared (some m) = Four.zipWith (fun b (p : Point) => b && !p.arrived) m l.points := by
    simp only [Lift.compared, h]
  rw [hcompared, Four.get_zipWith]

theorem Lift.lowest_range (l : Lift) : (∃ a, (l.points.get a).position = l.lowest) ∧
    (∃ b, (l.points.get b).position = l.highest) ∧
    ∀ i, l.lowest ≤ (l.points.get i).position ∧ (l.points.get i).position ≤ l.highest := by
  have hmin (a b : Int) : min a b = a ∨ min a b = b := min_choice a b
  have hmax (a b : Int) : max a b = a ∨ max a b = b := max_choice a b
  refine ⟨?_, ?_, fun i => ?_⟩
  · unfold Lift.lowest
    obtain h | h := hmin (min l.points.e0.position l.points.e1.position)
      (min l.points.e2.position l.points.e3.position) <;> rw [h]
    · obtain h | h := hmin l.points.e0.position l.points.e1.position
      · exact ⟨.i0, h.symm⟩
      · exact ⟨.i1, h.symm⟩
    · obtain h | h := hmin l.points.e2.position l.points.e3.position
      · exact ⟨.i2, h.symm⟩
      · exact ⟨.i3, h.symm⟩
  · unfold Lift.highest
    obtain h | h := hmax (max l.points.e0.position l.points.e1.position)
      (max l.points.e2.position l.points.e3.position) <;> rw [h]
    · obtain h | h := hmax l.points.e0.position l.points.e1.position
      · exact ⟨.i0, h.symm⟩
      · exact ⟨.i1, h.symm⟩
    · obtain h | h := hmax l.points.e2.position l.points.e3.position
      · exact ⟨.i2, h.symm⟩
      · exact ⟨.i3, h.symm⟩
  · unfold Lift.lowest Lift.highest
    cases i <;> simp only [Four.get] <;> omega

/-- The group as a report without a trip leaves it, before its arrival at rail. -/
def State.synced (sync : Int) (w : Wheel) (height : Nat) (s : State) : State :=
  { s with lift := (s.lift.reported w height).synced sync s.level.relevel }

theorem State.reportLift_of_synced (h : s.supervised = true) (hpit : s.setup.pit = some pit)
    (htrip : (s.lift.reported w height).highest - (s.lift.reported w height).lowest ≤ pit.tripBand) :
    s.reportLift w height = (s.synced pit.syncBand w height).arriveAtRail := by
  rw [State.reportLift_of_supervised h hpit, if_neg (not_lt.2 htrip), State.putLift_unseen]
  · rfl
  · rw [Lift.synchronize_eq]
    rfl

theorem State.synced_only (s : State) (sync : Int) (w : Wheel) (height : Nat) : Only [.lift] s (s.synced sync w height) :=
  ⟨rfl, fun b hb => by cases b <;> first | rfl | exact absurd (by decide) hb⟩

theorem Lift.synced_eq (l : Lift) (sync : Int) (r : Option (Four Bool)) :
    l.synced sync r = { l with points := (l.synced sync r).points } := by
  rw [Lift.synced, Lift.synchronize_eq]
  rfl

theorem State.synced_legToRail (s : State) (sync : Int) (w : Wheel) (height : Nat) :
    (s.synced sync w height).lift.legToRail = s.lift.legToRail := by
  rw [State.synced, Lift.synced_eq]
  rfl

theorem State.synced_highest (s : State) (sync : Int) (w : Wheel) (height : Nat) :
    (s.synced sync w height).lift.highest = (s.lift.reported w height).highest :=
  Lift.highest_congr fun i => (Lift.synced_point _ sync _ i).1

end

/-- Settles O33: the report by whether the group is supervised, then the trip band, the synchronization point by point,
and the arrival at rail. -/
theorem reportsSuperviseTheMove : Obligations.ReportsSuperviseTheMove := by
  intro w height s hform points l spread moving
  have hexec : exec (.liftPositionReport w height) s = .next (s.reportLift w height) := rfl
  refine ⟨fun hstill hnone => ?still, fun pit m hpit hraised hm => ⟨fun htrip => ?tripped, fun hband => ?relevel⟩,
    fun pit hpit hmoving => ⟨fun htrip => ?moveTripped, fun hband haway => ?synced, fun hband hleg hrail => ?rail⟩⟩
  case still =>
    have hdrives : s.lift.drives s.level.relevel w.ix = false := by
      obtain ⟨hraising, hlowering⟩ := not_or.1 hstill
      unfold Lift.drives
      cases hstate : s.lift.state with
      | raising => exact absurd hstate hraising
      | lowering => exact absurd hstate hlowering
      | raised => rw [hnone hstate]; rfl
      | _ => rfl
    have hsupervised : s.supervised = false := by
      obtain ⟨hraising, hlowering⟩ := not_or.1 hstill
      unfold State.supervised
      cases hstate : s.lift.state with
      | raising => exact absurd hstate hraising
      | lowering => exact absurd hstate hlowering
      | raised => rw [hnone hstate]; rfl
      | _ => rfl
    rw [hexec, State.reportLift_of_unsupervised hsupervised, State.reported_of_still hform hdrives]
    rfl
  case tripped =>
    have hsupervised : s.supervised = true := by simp only [State.supervised, hraised, hm, Option.isSome_some]
    have hover : pit.tripBand < (s.lift.reported w height).highest - (s.lift.reported w height).lowest := htrip
    rw [State.reportLift_of_supervised hsupervised hpit, if_pos hover] at hexec
    obtain ⟨hlevel, hdeparts⟩ := State.enterFault_from_raised (s := s.reported w height) .trip hraised
    have hfault := (s.reported w height).enterFault_lift .trip
    refine ⟨_, hexec, hfault, hdeparts.allStale, hlevel, hdeparts,
      (s.reported w height).enterFault_liftTold .trip (show s.lift.state ≠ .fault by rw [hraised]; exact nofun),
      ((s.reported_only w height).mono (by decide)).trans (State.enterFault_only _ .trip)⟩
  case relevel =>
    have hsupervised : s.supervised = true := by simp only [State.supervised, hraised, hm, Option.isSome_some]
    have hstill : (s.synced pit.syncBand w height).arriveAtRail = s.synced pit.syncBand w height := by
      refine State.arriveAtRail_of_away fun hleg => ?_
      rw [State.synced_legToRail, Lift.legToRail, hraised] at hleg
      cases hleg
    rw [State.reportLift_of_synced hsupervised hpit hband, hstill] at hexec
    have hdrives (i : Ix) : (s.lift.reported w height).drives s.level.relevel i = m.get i := by
      rw [hm]
      show (match s.lift.state with
        | .raising => true
        | .lowering => true
        | .raised => ((some m).map fun m => m.get i).getD false
        | _ => false) = m.get i
      rw [hraised]
      rfl
    have hcompared (i : Ix) : ((s.lift.reported w height).compared s.level.relevel).get i =
        (m.get i && !(points.get i).arrived) := by
      rw [hm]
      exact Lift.compared_of_relevel (l := s.lift.reported w height) hraised m i
    have hpart {i : Ix} (h : m.get i = true ∧ (points.get i).arrived = false) :
        ((s.lift.reported w height).compared s.level.relevel).get i = true := by
      rw [hcompared, h.1, h.2]
      rfl
    refine ⟨_, hexec, ?_, ?_, s.synced_only _ w height, fun i => ?_, ?_⟩
    · rw [State.synced, Lift.synced_eq]
      exact hraised
    · rw [State.synced, Lift.synced_eq]
      rfl
    · obtain ⟨hposition, hdemand, harrived, hkept, hvalve⟩ :=
        (s.lift.reported w height).synced_point pit.syncBand s.level.relevel i
      rw [hdrives] at hvalve
      refine ⟨hposition, hdemand, harrived, fun hno => hkept ?_, hvalve⟩
      rw [hcompared]
      obtain h | h := hno
      · rw [h]; rfl
      · rw [h]; exact Bool.and_false _
    · intro a b takesPart lo hi ha hb hrange i hi'
      have hrange' (j : Ix) (hj : ((s.lift.reported w height).compared s.level.relevel).get j = true) :
          lo ≤ (points.get j).position ∧ (points.get j).position ≤ hi := by
        rw [hcompared, Bool.and_eq_true, Bool.not_eq_true'] at hj
        exact hrange j hj
      refine Lift.synced_paused (l := s.lift.reported w height) ⟨a, hpart ha, rfl⟩ ⟨b, hpart hb, rfl⟩ hrange' (hpart hi') ?_
      rw [Lift.driven_eq, hdrives, hi'.1]
      have harrived : ((s.lift.reported w height).points.get i).arrived = false := hi'.2
      rw [harrived]
      cases hp : ((s.lift.reported w height).points.get i).paused with
      | true =>
        have hp' : (points.get i).paused = true := hp
        simp only [hp', if_true]
        rfl
      | false =>
        have hp' : (points.get i).paused = false := hp
        simp only [hp', Bool.false_eq_true, if_false, Bool.not_false, Bool.and_self, if_true]
        rfl
  case moveTripped =>
    have hover : pit.tripBand < (s.lift.reported w height).highest - (s.lift.reported w height).lowest := htrip
    rw [State.reportLift_of_supervised (State.supervised_of_moving hmoving) hpit, if_pos hover,
      State.enterFault_of_moving (s := s.reported w height) .trip hmoving] at hexec
    exact ⟨_, hexec, (State.putLift_lift ..).trans (Lift.revalve_faulted ..), State.putLift_level ..,
      (s.reported w height).putLift_tellsLift _ _,
      ((s.reported_only w height).mono (by decide)).trans (State.putLift_only _ _ _)⟩
  case synced =>
    have hstill : (s.synced pit.syncBand w height).arriveAtRail = s.synced pit.syncBand w height := by
      refine State.arriveAtRail_of_away fun hleg => ?_
      rw [State.synced_legToRail] at hleg
      rw [State.synced_highest]
      exact not_le.1 fun hrail => haway ⟨hleg, hrail⟩
    rw [State.reportLift_of_synced (State.supervised_of_moving hmoving) hpit hband, hstill] at hexec
    have hdrives (i : Ix) : (s.lift.reported w height).drives s.level.relevel i = true :=
      Lift.drives_of_moving (l := s.lift.reported w height) hmoving _ i
    have hcompared (i : Ix) : ((s.lift.reported w height).compared s.level.relevel).get i = true := by
      rw [Lift.compared_of_moving (l := s.lift.reported w height) hmoving, Four.get_const]
    refine ⟨_, hexec, ?_, ?_, ?_, fun i => ?_, s.synced_only _ w height⟩
    · rw [State.synced, Lift.synced_eq]; rfl
    · rw [State.synced, Lift.synced_eq]; rfl
    · rw [State.synced, Lift.synced_eq]; rfl
    · intro p q dir leads
      obtain ⟨hposition, hdemand, harrived, _, hvalve⟩ :=
        (s.lift.reported w height).synced_point pit.syncBand s.level.relevel i
      obtain ⟨⟨a, ha⟩, ⟨b, hb⟩, hrange⟩ := (s.lift.reported w height).lowest_range
      rw [hdrives] at hvalve
      obtain ⟨hwide, hnarrow, hbetween⟩ := Lift.synced_paused (l := s.lift.reported w height) (sync := pit.syncBand)
        (r := s.level.relevel) ⟨a, hcompared a, ha⟩ ⟨b, hcompared b, hb⟩ (fun j _ => hrange j) (hcompared i) (dir := dir)
        (by
          rw [Lift.driven_eq, hdrives]
          have hp : (s.lift.reported w height).points.get i = p := rfl
          rw [hp]
          show _ = if p.paused then p.pausedDir else if p.arrived then none else
            if p.position < p.demand then some .up else if p.demand < p.position then some .down else none
          cases p.paused <;> cases p.arrived <;> rfl)
      refine ⟨hposition, hdemand, harrived, hwide, hnarrow, hbetween, ?_⟩
      refine hvalve.trans ?_
      show (if true = true ∧ q.arrived = false ∧ q.paused = false then q.driving else .closed) = _
      cases q.arrived <;> cases q.paused <;> rfl
  case rail =>
    have hdown : (s.synced pit.syncBand w height).arriveAtRail = (s.synced pit.syncBand w height).putLift
        { (s.synced pit.syncBand w height).lift with
          state := .down
          move := none
          moveTimer := .stopped
          points := (s.synced pit.syncBand w height).lift.points.map fun p => { p.unpause with demand := 0 } }
        (s.synced pit.syncBand w height).level := by
      refine if_pos ?_
      rw [State.synced_legToRail, Bool.and_eq_true, Lift.atRail_iff, State.synced_highest]
      exact ⟨hleg, hrail⟩
    have hnow := (State.putLift_lift (s.synced pit.syncBand w height)
        { (s.synced pit.syncBand w height).lift with
          state := .down
          move := none
          moveTimer := .stopped
          points := (s.synced pit.syncBand w height).lift.points.map fun p => { p.unpause with demand := 0 } }
        (s.synced pit.syncBand w height).level).trans (Lift.revalve_of_still _ ⟨nofun, nofun, nofun⟩)
    rw [State.reportLift_of_synced (State.supervised_of_moving hmoving) hpit hband, hdown] at hexec
    have hstate : (s.synced pit.syncBand w height).lift.state = s.lift.state := by
      rw [State.synced, Lift.synced_eq]; rfl
    have hnot : s.lift.state ≠ .down := by rcases hmoving with h | h <;> rw [h] <;> exact nofun
    refine ⟨_, hexec, congrArg Lift.state hnow, congrArg Lift.move hnow, congrArg Lift.moveTimer hnow, fun i => ?_,
      State.tellsLift_of_told ?_ fun hsame => ?_, ((s.synced_only _ w height).mono (by decide)).trans
        (State.putLift_only_lift _ _)⟩
    · obtain ⟨hposition, _, harrived, _⟩ := (s.lift.reported w height).synced_point pit.syncBand s.level.relevel i
      refine (congrArg (fun l : Lift => l.points.get i) hnow).trans ?_
      have hget : (((s.synced pit.syncBand w height).lift.points.map fun p => { p.unpause with demand := 0 }).map
          Point.shut).get i = { (s.synced pit.syncBand w height).lift.points.get i with
            demand := 0, valve := .closed, paused := false, pausedDir := none } := by
        cases i <;> rfl
      refine hget.trans (Point.ext_of hposition harrived)
    · exact (State.putLift_notices _ _ _).trans
        (if_neg fun hsame => hnot (hstate.symm.trans (congrArg Prod.fst hsame.1).symm))
    · exact hnot (hsame.1.symm.trans (congrArg Lift.state hnow))

end Sys2Proof.Machine
end

section
/-! PROOFS. Chapter 6: referencing and calibration (R95 to R97, R99, R101 to R103). -/

namespace Sys2Proof.Machine

/-! ### Commands whose checks stand in a list -/

section
variable {c : Instr} {s s1 u : State} {kind tag : Byte} {r : Answered} {st : Station}

/-- What an owner answers that goes through a list of checks and then acts. -/
theorem State.eq_of_refusedOr {checks : List (Bool × Code)} {done : Answered}
    (h : some r = s1.refusedOr checks (some done)) :
    (∀ c, firstOf checks = some c → r = s1.refuse c) ∧ (firstOf checks = none → r = done) := by
  unfold State.refusedOr at h
  refine ⟨fun c hc => ?_, fun hnone => ?_⟩
  · rw [hc] at h
    exact Option.some_inj.1 h
  · rw [hnone] at h
    exact Option.some_inj.1 h

/-- An accepted command that leaves the slots to the touch of the bound one. -/
theorem exec_of_touched_state (hexec : exec c s = .next (r.sent kind tag)) (hr : r = (u.touchStation st).accept)
    (hcontext : u.context = s1.context) :
    exec c s = .next { u.replied kind tag .ok .none with context := (s1.touchStation st).context } := by
  rw [hexec, hr, State.touchStation_eq st hcontext]
  rfl

end

theorem LiftState.moving_iff (x : LiftState) :
    x.moving = true ↔ x = .raising ∨ x = .lowering ∨ x = .bridgeWait .up ∨ x = .bridgeWait .down := by
  cases x with
  | bridgeWait d => cases d <;> decide
  | _ => decide

/-- A probe unit written with the notice due in any case, whether or not its write owes one too. -/
theorem State.notify_putProbe (s : State) (st : Station) (p : Probe) :
    State.notify (.probe st) (s.putProbe st p) =
      { s with probes := s.probes.set st p, notices := (s.notify (.probe st)).notices } := by
  by_cases h : p.seen = (s.probe st).seen
  · rw [State.putProbe_unchanged s st p h]
    rfl
  · rw [State.putProbe_changed s st p h]
    have htwice := congrArg State.notices (s.notify_notify (.probe st))
    exact congrArg (fun n => { s with probes := s.probes.set st p, notices := n }) htwice

/-! ### Referencing -/

section
variable {s s1 : State} {st : Station} {tag : Byte} {payload : List Byte}

theorem exec_probeReference_handed (hp : stationParam payload = .ok st) (hs : s.handed 0x40 tag payload = some s1) :
    exec (.probeReference tag payload) s = .next ((s1.probeReference st).sent 0x40 tag) :=
  State.plainCommand_next hp hs

/-- The checks of PROBE REFERENCE in their order (R95). -/
def State.referenceChecks (s : State) (st : Station) : List (Bool × Code) :=
  [((s.probe st).calMode, .calibrationMode),
    (decide ((s.probe st).state = .referencing ∨ (s.probe st).state = .settling), .wrongState),
    (decide ((s.cut st).state ≠ .idle), .wrongState),
    (decide ((s.sweepOf st).state = .indexing ∨ (s.sweepOf st).state = .traversing ∨
      (s.sweepOf st).state = .paused), .wrongState),
    (decide (s.setup.pit = none), .notConfigured),
    (decide (s.lift.state = .raising ∨ s.lift.state = .lowering ∨ s.lift.state = .bridgeWait .up ∨
      s.lift.state = .bridgeWait .down), .wrongState)]

/-- A unit sent to the pad. -/
def Probe.sentToPad (p : Probe) : Probe :=
  { p with state := .referencing, base := none, settle := .stopped, padRequested := false }

theorem State.probeReference_eq (s : State) (st : Station) : some (s.probeReference st) =
    s.refusedOr (s.referenceChecks st)
      (some (((s.putProbe st (s.probe st).sentToPad).driveProbe st .pad).touchStation st).accept) := by
  simp only [State.probeReference, State.referenceChecks, State.refusedOr_cons, State.refusedOr_nil,
    apply_ite some, decide_eq_true_eq, LiftState.moving_iff, Option.isNone_iff_eq_none, SweepState.onStation_iff,
    ite_or]
  rfl

theorem Probe.sentToPad_seen {p : Probe} (h : ¬(p.state = .referencing ∨ p.state = .settling)) :
    p.sentToPad.seen ≠ p.seen := fun heq => h (.inl (congrArg Prod.fst heq).symm)

theorem State.not_referencing_of_passed (h : firstOf (s.referenceChecks st) = none) :
    ¬((s.probe st).state = .referencing ∨ (s.probe st).state = .settling) := by
  intro hbusy
  by_cases hcal : (s.probe st).calMode = true <;> simp [State.referenceChecks, hcal, hbusy] at h

theorem State.padReached_eq (h : (s.probe st).state = .referencing) : s.padReached st =
    { s with probes := s.probes.set st { s.probe st with padRequested := true } } := by
  unfold State.padReached
  rw [if_pos h]
  exact s.putProbe_unchanged st _ rfl

theorem padBase_of_range {datum x : Int} (hlow : 250000 ≤ datum - x) (hhigh : datum - x ≤ 750000) :
    padBase datum (some x) = some (datum - x) := if_pos ⟨hlow, hhigh⟩

theorem padBase_eq_none {datum : Int} {d : Reading}
    (h : ∀ x, d = some x → datum - x < 250000 ∨ 750000 < datum - x) : padBase datum d = none := by
  cases d with
  | none => rfl
  | some x =>
    have hx := h x rfl
    refine if_neg ?_
    simp only [Config.baseMin, Config.baseMax]
    omega

/-- A reading that is not awaited. -/
theorem State.padReading_idle (l r : Reading)
    (h : (s.probe st).state ≠ .referencing ∨ (s.probe st).padRequested = false) : s.padReading st l r = s := by
  unfold State.padReading
  dsimp only
  split
  next hstate hpad hpit =>
    rcases h with h | h
    · exact absurd hstate h
    · rw [hpad] at h
      cases h
  next => rfl

/-- A unit with two good answers at the pad. -/
def Probe.atPad (p : Probe) (l r : Int) (settle : Nat) : Probe :=
  { p with
    state := .settling
    base := some ⟨l, r⟩
    refOutcome := .ok
    padRequested := false
    settle := .running settle }

/-- A unit with a bad answer at the pad. -/
def Probe.lostAtPad (p : Probe) : Probe :=
  { p with
    state := .unreferenced
    base := none
    refOutcome := .noContact
    padRequested := false }

/-- Both answers at the pad give a base, or the unit is lost. -/
theorem State.padReading_eq {pit : Pit} (hpit : s.setup.pit = some pit) (hstate : (s.probe st).state = .referencing)
    (hpad : (s.probe st).padRequested = true) (l r : Reading) :
    s.padReading st l r =
      (match padBase (pit.datum.get st) l, padBase (pit.datum.get st) r with
       | some bl, some br => s.putProbe st ((s.probe st).atPad bl br (pit.probeSettle * 1000))
       | _, _ => s.putProbe st (s.probe st).lostAtPad).driveProbe st .park := by
  unfold State.padReading
  dsimp only
  rw [hstate, hpad, hpit]
  rfl

/-- At the pad the unit's state changes, whatever the answers. -/
theorem State.putProbe_driven (q : Probe) (hstate : q.state ≠ (s.probe st).state) (d : ProbeDemand) :
    (s.putProbe st q).driveProbe st d =
      { s with
        probes := s.probes.set st q
        axes := { s.axes with probe := s.axes.probe.set st d }
        notices := (s.notify (.probe st)).notices } := by
  rw [State.putProbe_changed s st q fun heq => hstate (congrArg Prod.fst heq)]
  rfl

theorem State.settles_of_running (hstate : (s.probe st).state = .settling) (hrun : (s.probe st).settle ≠ .stopped) :
    s.settles st =
      { s with
        probes := s.probes.set st { s.probe st with state := .ready, settle := .stopped }
        notices := (s.notify (.probe st)).notices } := by
  unfold State.settles
  cases htimer : (s.probe st).settle with
  | stopped => exact absurd htimer hrun
  | running n =>
    refine s.putProbe_changed st _ fun heq => ?_
    have hready : ProbeState.ready = (s.probe st).state := congrArg Prod.fst heq
    rw [hstate] at hready
    cases hready

theorem State.settles_of_stopped (h : (s.probe st).settle = .stopped) : s.settles st = s := by
  unfold State.settles
  rw [h]

end

/-- Settles O40: the checks of R95 as a list, and at the pad and at the settle timer's expiry the one write of the
unit, whose state changes each time. -/
theorem referencingRunsToReady : Obligations.ReferencingRunsToReady := by
  intro st s p become bad
  refine ⟨?command, fun hstate => congrArg _ (State.padReached_eq hstate),
    fun hstate => congrArg _ (if_neg hstate), fun pit hpit hstate hpad => ⟨?good, ?lost⟩,
    fun l r h => congrArg _ (State.padReading_idle l r h),
    fun hstate hrun => congrArg _ (s.settles_of_running hstate hrun), fun h => congrArg _ (State.settles_of_stopped h)⟩
  case command =>
    intro tag payload s1 hp hs p1 checks
    obtain ⟨hrefused, hdone⟩ := State.eq_of_refusedOr (s1.probeReference_eq st)
    refine ⟨fun c hc => exec_of_refuse (exec_probeReference_handed hp hs) (hrefused c hc), fun hnone => ?_⟩
    rw [exec_of_touched_state (s1 := s1) (exec_probeReference_handed hp hs) (hdone hnone) (by simp),
      State.putProbe_driven]
    · rfl
    · exact fun heq => State.not_referencing_of_passed hnone (.inl heq.symm)
  case good =>
    intro dl dr hdl hdl' hdr hdr'
    refine congrArg _ ((s.padReading_eq hpit hstate hpad _ _).trans ?_)
    rw [padBase_of_range hdl hdl', padBase_of_range hdr hdr']
    exact State.putProbe_driven _ (by rw [hstate]; exact nofun) _
  case lost =>
    intro l r hbad
    refine congrArg _ ((s.padReading_eq hpit hstate hpad _ _).trans ?_)
    have hlost : (match padBase (pit.datum.get st) l, padBase (pit.datum.get st) r with
       | some bl, some br => s.putProbe st ((s.probe st).atPad bl br (pit.probeSettle * 1000))
       | _, _ => s.putProbe st (s.probe st).lostAtPad) = s.putProbe st (s.probe st).lostAtPad := by
      rcases hbad with h | h
      · rw [padBase_eq_none h]
      · rw [padBase_eq_none h]
        cases padBase (pit.datum.get st) l <;> rfl
    rw [hlost]
    exact State.putProbe_driven _ (by rw [hstate]; exact nofun) _

/-! ### Calibration mode (R99, R103) -/

section
variable {s s1 : State} {st : Station} {tag : Byte} {payload : List Byte}

theorem exec_calibrateOn_handed (hp : stationParam payload = .ok st) (hs : s.handed 0x41 tag payload = some s1) :
    exec (.calibrateOn tag payload) s = .next ((s1.calibrateOn st).sent 0x41 tag) := State.plainCommand_next hp hs

theorem exec_calibrateMeasure_handed (hp : stationParam payload = .ok st)
    (hs : s.handed 0x42 tag payload = some s1) :
    exec (.calibrateMeasure tag payload) s = .next ((s1.calibrateMeasure st).sent 0x42 tag) :=
  State.plainCommand_next hp hs

theorem exec_calibrateOff_handed (hp : stationParam payload = .ok st) (hs : s.handed 0x43 tag payload = some s1) :
    exec (.calibrateOff tag payload) s = .next ((s1.calibrateOff st).sent 0x43 tag) := State.plainCommand_next hp hs

/-- The checks of CALIBRATE ON with the flag clear (R99). -/
def State.calibrateOnChecks (s : State) (st : Station) : List (Bool × Code) :=
  [(decide ((s.probe st).state ≠ .ready), .probeNotReady),
    (decide ((s.cut st).state ≠ .idle ∨ (s.sweepOf st).state = .indexing ∨
      (s.sweepOf st).state = .traversing ∨ (s.sweepOf st).state = .paused), .wrongState)]

theorem State.calibrateOn_of_on (h : (s.probe st).calMode = true) : s.calibrateOn st = (s.touchStation st).accept :=
  if_pos h

theorem State.calibrateOn_eq (h : (s.probe st).calMode = false) : some (s.calibrateOn st) =
    s.refusedOr (s.calibrateOnChecks st)
      (some ((s.putProbe st { s.probe st with calMode := true }).touchStation st).accept) := by
  simp only [State.calibrateOn, h, State.calibrateOnChecks, State.refusedOr_cons, State.refusedOr_nil,
    apply_ite some, decide_eq_true_eq, SweepState.onStation_iff, Bool.false_eq_true, if_false]

/-- The checks of CALIBRATE MEASURE in their order (R101). -/
def State.calibrateMeasureChecks (s : State) (st : Station) : List (Bool × Code) :=
  [(!(s.probe st).calMode, .wrongState), (decide ((s.probe st).measure ≠ .none), .busy),
    (decide (s.setup.pit = none), .notConfigured),
    (decide (s.lift.state = .raising ∨ s.lift.state = .lowering ∨ s.lift.state = .bridgeWait .up ∨
      s.lift.state = .bridgeWait .down), .wrongState)]

/-- The noticed write of a probe unit whose carriage is then sent off. -/
def State.probeSent (s : State) (st : Station) (q : Probe) (d : ProbeDemand) : State :=
  (State.notify (.probe st) (s.putProbe st q)).driveProbe st d

theorem State.probeSent_eq (s : State) (st : Station) (q : Probe) (d : ProbeDemand) : s.probeSent st q d =
    { s with
      probes := s.probes.set st q
      axes := { s.axes with probe := s.axes.probe.set st d }
      notices := (s.notify (.probe st)).notices } := by
  rw [State.probeSent, State.notify_putProbe]
  rfl

theorem State.calibrateMeasure_eq (s : State) (st : Station) : some (s.calibrateMeasure st) =
    s.refusedOr (s.calibrateMeasureChecks st)
      (some ((s.probeSent st { s.probe st with measure := .toRing } .ring).touchStation st).accept) := by
  simp only [State.calibrateMeasure, State.calibrateMeasureChecks, State.refusedOr_cons, State.refusedOr_nil,
    apply_ite some, decide_eq_true_eq, LiftState.moving_iff, Option.isNone_iff_eq_none]
  rfl

theorem State.calibrateOff_of_off (h : (s.probe st).calMode = false) :
    s.calibrateOff st = (s.touchStation st).accept := by
  unfold State.calibrateOff
  dsimp only
  rw [h]
  rfl

theorem State.calibrateOff_of_still (h : (s.probe st).calMode = true) (hstill : (s.probe st).measure = .none) :
    s.calibrateOff st = ((s.putProbe st { s.probe st with calMode := false }).touchStation st).accept := by
  unfold State.calibrateOff
  dsimp only
  rw [if_neg (by rw [h]; decide), if_pos hstill]

/-- A unit whose calibration measure is abandoned with the mode. -/
def Probe.abandoned (p : Probe) (late : Nat) : Probe :=
  { p with
    calMode := false
    measure := .none
    lateAnswers := p.lateAnswers + late
    result := some ⟨.abandoned, none⟩ }

theorem State.calibrateOff_of_measuring (h : (s.probe st).calMode = true) (hmeasure : (s.probe st).measure ≠ .none) :
    s.calibrateOff st = ((s.probeSent st ((s.probe st).abandoned (s.probe st).measure.outstanding)
      .park).touchStation st).accept := by
  unfold State.calibrateOff
  dsimp only
  rw [if_neg (by rw [h]; decide), if_neg hmeasure]
  rfl

/-- A write of the flag changes what the source tells of. -/
theorem State.putProbe_calMode (s : State) (st : Station) {on : Bool} (h : (s.probe st).calMode ≠ on) :
    s.putProbe st { s.probe st with calMode := on } =
      { s with
        probes := s.probes.set st { s.probe st with calMode := on }
        notices := (s.notify (.probe st)).notices } :=
  s.putProbe_changed st _ fun heq => h (congrArg (fun x => x.2.2.1) heq).symm

/-! ### A calibration measure (R101, R102) -/

theorem State.ringReached_eq (h : (s.probe st).measure = .toRing) : s.ringReached st =
    { s with probes := s.probes.set st { s.probe st with measure := .reading [] } } := by
  unfold State.ringReached
  rw [if_pos h]
  exact s.putProbe_unchanged st _ rfl

theorem State.calibrationReading_of_late (h : 0 < (s.probe st).lateAnswers) (l r : Reading) :
    s.calibrationReading st l r =
      { s with
        probes := s.probes.set st { s.probe st with lateAnswers := (s.probe st).lateAnswers - 1 } } :=
  (if_pos h).trans (s.putProbe_unchanged st _ rfl)

theorem State.calibrationReading_idle (h : (s.probe st).lateAnswers = 0)
    (hidle : (s.probe st).measure = .none ∨ (s.probe st).measure = .toRing) (l r : Reading) :
    s.calibrationReading st l r = s := by
  unfold State.calibrationReading
  dsimp only
  rw [if_neg (by rw [h]; decide)]
  rcases hidle with hm | hm <;> rw [hm]

section
variable {taken : List (Pair Int)} {base : Pair Int} {pit : Pit} (h : (s.probe st).lateAnswers = 0)
  (hmeasure : (s.probe st).measure = .reading taken) (hbase : (s.probe st).base = some base)
  (hpit : s.setup.pit = some pit)
include h hmeasure

/-- An answer without contact ends the measure as a calibration fault. -/
theorem State.calibrationReading_noContact {l r : Reading} (hnone : l = none ∨ r = none) :
    s.calibrationReading st l r =
      s.probeSent st
        { s.probe st with
          calibrated := false
          calFault := true
          measure := .none
          result := some ⟨.noContact, none⟩ } .park := by
  unfold State.calibrationReading
  dsimp only
  rw [if_neg (by rw [h]; decide), hmeasure]
  rcases hnone with hl | hr
  · rw [hl]
    rfl
  · rw [hr]
    cases l <;> rfl

include hbase hpit

/-- A pair of answers at the ring is added, and the eighth ends the measure. -/
theorem State.calibrationReading_pair (dl dr : Int) : s.calibrationReading st (some dl) (some dr) =
    if taken.length = 7 then s.finishCalibration st (⟨dl + base.l, dr + base.r⟩ :: taken) (pit.ring.get st)
    else { s with
      probes := s.probes.set st { s.probe st with measure := .reading (⟨dl + base.l, dr + base.r⟩ :: taken) } } := by
  unfold State.calibrationReading
  dsimp only
  rw [if_neg (by rw [h]; decide), hmeasure]
  dsimp only
  rw [hbase, hpit]
  dsimp only
  refine if_congr ?_ rfl (s.putProbe_unchanged st _ rfl)
  simp [Config.calibrationPairs]

end

/-- The result of one head from the raw pairs of a measure (R102). -/
def pairResult (raw : List (Pair Int)) (correction : Pair Int) (ring : Int) (side : Side) : HeadResult :=
  let mean := (raw.map fun x => x.get side + correction.get side).sum / 8
  ⟨mean, mean - ring, correction.get side - (mean - ring)⟩

theorem headResult_eq {raw : List (Pair Int)} (hlen : raw.length = 8) (correction : Pair Int) (ring : Int)
    (side : Side) :
    headResult (raw.map fun x => x.get side) (correction.get side) ring = pairResult raw correction ring side := by
  have hmean : floorMean ((raw.map fun x => x.get side).map fun x => x + correction.get side) =
      (raw.map fun x => x.get side + correction.get side).sum / 8 := by
    rw [List.map_map, floorMean_map, hlen]
    rfl
  unfold headResult pairResult
  rw [hmean]

theorem HeadResult.plausible_iff (x : HeadResult) : x.plausible = true ↔ -500 ≤ x.proposed ∧ x.proposed ≤ 500 :=
  (Bool.and_eq_true_iff ..).trans (and_congr decide_eq_true_iff decide_eq_true_iff)

theorem HeadResult.both_plausible_iff (head : Side → HeadResult) :
    ((head .l).plausible && (head .r).plausible) = true ↔
      ∀ side, -500 ≤ (head side).proposed ∧ (head side).proposed ≤ 500 := by
  rw [Bool.and_eq_true, HeadResult.plausible_iff, HeadResult.plausible_iff]
  refine ⟨fun ⟨hpl, hpr⟩ side => ?_, fun hall => ⟨hall .l, hall .r⟩⟩
  cases side
  · exact hpl
  · exact hpr

/-- A unit whose measure stored both corrections. -/
def Probe.corrected (p : Probe) (head : Side → HeadResult) : Probe :=
  { p with
    correction := ⟨(head .l).proposed, (head .r).proposed⟩
    calibrated := true
    calFault := false
    measure := .none
    result := some ⟨.stored, some ⟨head .l, head .r⟩⟩ }

/-- A unit whose measure stored neither correction. -/
def Probe.uncorrected (p : Probe) (head : Side → HeadResult) : Probe :=
  { p with
    calibrated := false
    calFault := true
    measure := .none
    result := some ⟨.outOfRange, some ⟨head .l, head .r⟩⟩ }

/-- The eighth pair stores both corrections or neither. -/
theorem State.finishCalibration_eq {raw : List (Pair Int)} (hlen : raw.length = 8) {ring : Int}
    {head : Side → HeadResult} (hhead : head = pairResult raw (s.probe st).correction ring) :
    s.finishCalibration st raw ring =
      if ((head .l).plausible && (head .r).plausible) = true then
        s.probeSent st ((s.probe st).corrected head) .park
      else s.probeSent st ((s.probe st).uncorrected head) .park := by
  subst hhead
  have hl : headResult (raw.map fun x => x.l) (s.probe st).correction.l ring =
      pairResult raw (s.probe st).correction ring .l := headResult_eq hlen _ ring .l
  have hr : headResult (raw.map fun x => x.r) (s.probe st).correction.r ring =
      pairResult raw (s.probe st).correction ring .r := headResult_eq hlen _ ring .r
  unfold State.finishCalibration
  dsimp only
  rw [hl, hr]
  rfl

end

/-- Settles O41: the checks of R99 and R101 as lists, and each end of a measure as one noticed write of the unit with
the carriage sent off. -/
theorem calibrationRuns : Obligations.CalibrationRuns := by
  intro st s p noticed sent
  refine ⟨?commands, fun hring => congrArg _ (State.ringReached_eq hring), fun hring => congrArg _ (if_neg hring),
    fun l r hlate => congrArg _ (State.calibrationReading_of_late hlate l r),
    fun l r hnone hidle => congrArg _ (State.calibrationReading_idle hnone hidle l r), ?reading⟩
  case commands =>
    intro tag payload s1 hp p1 touched
    refine ⟨fun hs => ?on, fun hs => ?measure, fun hs => ⟨fun hoff => ?off, fun hmode hstill => ?still, ?abandon⟩⟩
    case on =>
      refine ⟨fun hmode => ?already, ?rest⟩
      case already =>
        exact exec_of_touched_state (exec_calibrateOn_handed hp hs) (State.calibrateOn_of_on hmode) rfl
      case rest =>
        have hrow := exec_calibrateOn_handed hp hs
        refine ⟨fun c hmode hc => ?_, fun hmode hnone => ?_⟩
        · exact exec_of_refuse hrow ((State.eq_of_refusedOr (State.calibrateOn_eq hmode)).1 c hc)
        · have hnext := (State.eq_of_refusedOr (State.calibrateOn_eq hmode)).2 hnone
          rw [exec_of_touched_state (s1 := s1) hrow hnext (by simp),
            s1.putProbe_calMode st (by rw [hmode]; decide)]
          rfl
    case measure =>
      have hrow := exec_calibrateMeasure_handed hp hs
      obtain ⟨hrefused, hdone⟩ := State.eq_of_refusedOr (s1.calibrateMeasure_eq st)
      refine ⟨fun c hc => exec_of_refuse hrow (hrefused c hc), fun hnone => ?_⟩
      rw [exec_of_touched_state (s1 := s1) hrow (hdone hnone) (by rw [State.probeSent_eq]), State.probeSent_eq]
      rfl
    case off =>
      exact exec_of_touched_state (exec_calibrateOff_handed hp hs) (State.calibrateOff_of_off hoff) rfl
    case still =>
      rw [exec_of_touched_state (s1 := s1) (exec_calibrateOff_handed hp hs)
          (State.calibrateOff_of_still hmode hstill) (by simp),
        s1.putProbe_calMode st (by rw [hmode]; decide)]
      rfl
    case abandon =>
      intro late hmode hlate
      have hmeasuring : p1.measure ≠ .none ∧ p1.measure.outstanding = late := by
        rcases hlate with ⟨hm, hlate⟩ | ⟨⟨taken, hm⟩, hlate⟩ <;> rw [hm, hlate] <;> exact ⟨nofun, rfl⟩
      obtain ⟨hmeasure, rfl⟩ := hmeasuring
      rw [exec_of_touched_state (s1 := s1) (exec_calibrateOff_handed hp hs)
          (State.calibrateOff_of_measuring hmode hmeasure) (by rw [State.probeSent_eq]), State.probeSent_eq]
      rfl
  case reading =>
    intro taken base pit hlate hmeasure hbase hpit
    refine ⟨fun l r hnone => ?_, fun dl dr => ?_⟩
    · have hend := (State.calibrationReading_noContact hlate hmeasure hnone).trans (s.probeSent_eq ..)
      exact congrArg Host.Outcome.next hend
    intro raw head
    have hpair := State.calibrationReading_pair hlate hmeasure hbase hpit dl dr
    have hfinish (hlen : taken.length = 7) := hpair.trans ((if_pos hlen).trans
      (State.finishCalibration_eq (s := s) (st := st) (raw := raw) (congrArg (· + 1) hlen) (head := head) rfl))
    refine ⟨fun hlen => congrArg Host.Outcome.next (hpair.trans (if_neg (by omega))), fun hlen hall => ?stored,
      fun hlen ⟨side, hout⟩ => ?fault⟩
    case stored =>
      have hin := (HeadResult.both_plausible_iff head).2 hall
      have hend := (hfinish hlen).trans ((if_pos hin).trans (s.probeSent_eq ..))
      exact congrArg Host.Outcome.next hend
    case fault =>
      have hnot : ¬((head .l).plausible && (head .r).plausible) = true := by
        rw [HeadResult.both_plausible_iff]
        intro hall
        have hin := hall side
        omega
      have hend := (hfinish hlen).trans ((if_neg hnot).trans (s.probeSent_eq ..))
      exact congrArg Host.Outcome.next hend

end Sys2Proof.Machine
end

section
/-! PROOFS. Chapter 7: the steps of a sweep (R113 to R115) and the samples they write (R104). -/

namespace Sys2Proof.Machine

/-! ### A sample written in an area -/

/-- A write of what an unlisted cell does not read as is read back, whatever the form of the list. -/
theorem Cells.read_write_of_ne {α : Type} [DecidableEq α] {d v : α} (hv : v ≠ d) (a b : Nat) (c : Cells α) :
    Cells.read d (Cells.write d a v c) b = if b = a then v else Cells.read d c b := by
  induction c with
  | nil => simp [Cells.write, Cells.read, hv]
  | cons x rest ih =>
    obtain ⟨k, w⟩ := x
    simp only [Cells.write, if_neg hv]
    split
    next hbelow => rfl
    next hbelow =>
      split
      next hsame =>
        subst hsame
        by_cases hb : b = a <;> simp [Cells.read, hb]
      next hother =>
        simp only [Cells.read, ih]
        by_cases hb : b = a
        · subst hb
          simp [hother]
        · simp [hb]

theorem sampleAddress_inj {a b j k : Nat} (hj : j < 160) (hk : k < 160) :
    sampleAddress a j = sampleAddress b k ↔ a = b ∧ j = k := by
  simp only [sampleAddress, Config.lateralStations]
  omega

theorem Area.sample_put {v : Sample} (hv : v ≠ .unset) (c : Area) {a b j k : Nat} (hj : j < 160) (hk : k < 160) :
    Area.sample (c.put a j v) b k = if b = a ∧ k = j then v else Area.sample c b k := by
  unfold Area.sample Area.put
  rw [Cells.read_write_of_ne hv]
  exact if_congr (sampleAddress_inj hk hj) rfl rfl

/-! ### A sample composed from a head's answer (R104) -/

/-- The sample of a head whose base is known. -/
def sampleOf (base correction : Int) : Reading → Sample
  | none => .invalid
  | some d =>
    let v := d + base + correction
    if 300000 ≤ v ∧ v ≤ 700000 then .radius v else .invalid

theorem composeSample_eq (base correction : Int) (d : Reading) :
    composeSample (some base) correction d = sampleOf base correction d := by
  cases d with
  | none => rfl
  | some x =>
    have hout : (x + base + correction < Config.radiusMin ∨ Config.radiusMax < x + base + correction) ↔
        ¬(300000 ≤ x + base + correction ∧ x + base + correction ≤ 700000) := by
      simp only [Config.radiusMin, Config.radiusMax]
      omega
    exact (if_congr hout rfl rfl).trans (ite_not ..)

theorem sampleOf_ne_unset (base correction : Int) (d : Reading) : sampleOf base correction d ≠ .unset := by
  cases d with
  | none => exact nofun
  | some x =>
    simp only [sampleOf]
    split <;> exact nofun

section
variable {s : State} {st : Station} {x : SweepRun} {l r : Reading}

theorem State.composed_eq {base : Pair Int} (hbase : (s.probe st).base = some base) (l r : Reading) :
    s.composed st l r =
      ⟨sampleOf base.l (s.probe st).correction.l l, sampleOf base.r (s.probe st).correction.r r⟩ := by
  simp only [State.composed, hbase, Option.map_some, composeSample_eq]

/-! ### The pair of a sample request written (R114, step 2) -/

/-- The state with the request answered and its pair written, before the address moves on. -/
def State.sampled (s : State) (st : Station) (x : SweepRun) (l r : Reading) : State :=
  (s.putRequest st .none).writePair st x.angular x.lateral (s.composed st l r)

theorem State.sampled_only : Only [.capture] s (s.sampled st x l r) :=
  (s.putRequest_only st .none).trans (State.writePair_only ..)

theorem Four.get_wheel {α : Type} (t : Four α) (st : Station) (v w : α) (wh : Wheel) :
    ((t.set (st.wheel .l).ix v).set (st.wheel .r).ix w).get wh.ix =
      if wh = st.wheel .l then v else if wh = st.wheel .r then w else t.get wh.ix := by
  cases st <;> cases wh <;> rfl

theorem State.sampled_sample {base : Pair Int} (hbase : (s.probe st).base = some base) (hx : x.lateral < 160)
    (wh : Wheel) (a : Nat) {k : Nat} (hk : k < 160) :
    Area.sample ((s.sampled st x l r).capture.areas.get wh.ix) a k =
      if a = x.angular ∧ k = x.lateral ∧ wh = st.wheel .l then sampleOf base.l (s.probe st).correction.l l
      else if a = x.angular ∧ k = x.lateral ∧ wh = st.wheel .r then sampleOf base.r (s.probe st).correction.r r
      else Area.sample (s.capture.areas.get wh.ix) a k := by
  have hareas : (s.sampled st x l r).capture.areas.get wh.ix = _ := Four.get_wheel ..
  rw [hareas, State.composed_eq hbase]
  by_cases hl : wh = st.wheel .l
  · subst hl
    have hr : st.wheel .l ≠ st.wheel .r := by cases st <;> exact nofun
    rw [if_pos rfl, Area.sample_put (sampleOf_ne_unset _ _ _) _ hx hk]
    simp [hr]
  · by_cases hr : wh = st.wheel .r
    · subst hr
      rw [if_neg hl, if_pos rfl, Area.sample_put (sampleOf_ne_unset _ _ _) _ hx hk]
      simp [hl]
    · simp [hl, hr]

/-! ### The address moves on (R114, steps 3 and 4) -/

/-- The record of a sweep whose row is done. -/
def Sweep.rowDone (w : Sweep) (x : SweepRun) : Sweep :=
  { w with
    run := some { x with angular := (x.angular + 1) % 8, lateral := x.first }
    rowsDone := w.rowsDone + 1 }

section
variable {w : Sweep}

theorem State.only_capture_axes_notices (s : State) (c : Capture) (x : Axes) (n : Notices) :
    Only [.capture, .axes, .notices] s { s with capture := c, axes := x, notices := n } :=
  ⟨rfl, fun b hb => by cases b <;> first | rfl | exact absurd (by decide) hb⟩

theorem State.advance_within (h : x.lateral < x.last) : s.advance st w x =
    { s with
      capture :=
        { s.capture with
          sweep := s.capture.sweep.set st
            { w with
              state := .traversing
              step := .awaitPosition
              run := some { x with lateral := x.lateral + 1 } } }
      axes := { s.axes with probe := s.axes.probe.set st (.lateral (x.lateral + 1)) } } := by
  unfold State.advance
  rw [if_pos h]
  rfl

theorem State.advance_within_only (h : x.lateral < x.last) : Only [.capture, .axes] s (s.advance st w x) := by
  unfold State.advance
  rw [if_pos h]
  exact s.awaitPosition_only ..

theorem State.advance_rowDone (h : ¬x.lateral < x.last) : s.advance st w x =
    if w.rowsDone < 7 then s.beginIndexing st (w.rowDone x) else s.finishSweep st (w.rowDone x) := by
  unfold State.advance
  rw [if_neg h]
  exact if_congr Nat.succ_lt_succ_iff rfl rfl

theorem State.finishSweep_capture (v : Sweep) : (s.finishSweep st v).capture =
    { s.capture with sweep := s.capture.sweep.set st { v with state := .done, step := .none } } :=
  (State.testStart_only _).2 .capture (by decide)

/-- Of Capture Memory the sweep's record alone moves on. -/
theorem State.advance_capture : ∃ v, (s.advance st w x).capture =
    { s.capture with sweep := s.capture.sweep.set st v } := by
  by_cases h : x.lateral < x.last
  · exact ⟨_, congrArg State.capture (State.advance_within h)⟩
  · rw [State.advance_rowDone h]
    split
    · exact ⟨_, congrArg State.capture (s.beginIndexing_eq st (w.rowDone x) _ rfl)⟩
    · exact ⟨_, State.finishSweep_capture _⟩

/-- The end of a sweep tells of its capture, whatever the start test then does. -/
theorem State.finishSweep_told (v : Sweep) :
    (s.finishSweep st v).notices.get (.capture st) = (s.notices.get (.capture st)).event :=
  Eq.trans State.testStart_captureKept (State.notify_get_self _ (.capture st))

/-- With nothing owed the end of a sweep is its record, its carriage's demand and its notice. -/
theorem State.finishSweep_of_no_backlog (h : s.level.backlog = 0) (v : Sweep) : s.finishSweep st v =
    { s with
      capture := { s.capture with sweep := s.capture.sweep.set st { v with state := .done, step := .none } }
      axes := { s.axes with probe := s.axes.probe.set st .park }
      notices := (s.notify (.capture st)).notices } :=
  State.testStart_of_no_backlog h

end

/-! ### The events a sweep waits for -/

theorem State.rollerArrives_of_indexing {angle : Nat} {run : SweepRun} (h : (s.sweepOf st).state = .indexing)
    (hrun : (s.sweepOf st).run = some run) : s.rollerArrives st angle =
      { s with
        capture :=
          { s.capture with
            angle := s.capture.angle.set st angle
            sweep := s.capture.sweep.set st { s.sweepOf st with state := .traversing, step := .awaitPosition } }
        axes := { s.axes with probe := s.axes.probe.set st (.lateral run.lateral) } } := by
  have hlateral : (s.sweepOf st).lateral = run.lateral := by rw [Sweep.lateral, hrun]; rfl
  refine (if_pos h).trans ?_
  unfold State.awaitPosition
  rw [Sweep.lateral] at hlateral
  simp only [Sweep.lateral, hlateral]
  rfl

theorem SampleRequest.ask_eq (q : SampleRequest) : q.ask = if q = .givenUp then .givenUp else .live := by
  cases q <;> rfl

theorem State.carriageArrives_of_awaited (h : (s.sweepOf st).state = .traversing)
    (hstep : (s.sweepOf st).step = .awaitPosition) : s.carriageArrives st =
      { s with
        capture :=
          { s.capture with
            sweep := s.capture.sweep.set st { s.sweepOf st with step := .awaitSample }
            request := s.capture.request.set st
              (if s.capture.request.get st = .givenUp then .givenUp else .live) } } := by
  rw [← SampleRequest.ask_eq]
  exact if_pos ⟨h, hstep⟩

theorem State.sampleAnswer_of_none (h : s.capture.request.get st = .none) : s.sampleAnswer st l r = s := by
  unfold State.sampleAnswer
  rw [h]

theorem State.sampleAnswer_of_givenUp (h : s.capture.request.get st = .givenUp) :
    s.sampleAnswer st l r = s.discardAnswer st := by
  unfold State.sampleAnswer
  rw [h]

theorem State.sampleAnswer_of_live (h : s.capture.request.get st = .live)
    (hstate : (s.sweepOf st).state = .traversing) (hstep : (s.sweepOf st).step = .awaitSample)
    (hrun : (s.sweepOf st).run = some x) :
    s.sampleAnswer st l r = (s.sampled st x l r).advance st (s.sweepOf st) x := by
  unfold State.sampleAnswer
  rw [h]
  refine (if_pos ⟨hstate, hstep⟩).trans ?_
  unfold State.takeSample
  dsimp only
  rw [hrun]
  rfl

end

/-- Settles O44: of an awaited answer the pair is written first and the address then moves on, which touches no area;
each of the three ways it can go has its own equation. -/
theorem sweepStepsWriteEachPair : Obligations.SweepStepsWriteEachPair := by
  intro st s w put
  refine ⟨fun angle => ?roller, fun hstate hstep => ?carriage, fun h => ?away, fun l r => ⟨fun hnone => ?none,
    fun hup => ?discard, ?live⟩⟩
  case roller =>
    intro told
    refine ⟨fun run h hrun => ?_, fun h => ?_⟩
    · exact congrArg Host.Outcome.next (State.rollerArrives_of_indexing h hrun)
    · exact congrArg Host.Outcome.next (if_neg h)
  case carriage =>
    exact ⟨_, rfl, congrArg State.capture (State.carriageArrives_of_awaited hstate hstep),
      s.carriageArrives_only st⟩
  case away =>
    have hnot : ¬((s.sweepOf st).state = .traversing ∧ (s.sweepOf st).step = .awaitPosition) := by
      rwa [not_and_or]
    exact congrArg Host.Outcome.next (if_neg hnot)
  case none => exact congrArg Host.Outcome.next (State.sampleAnswer_of_none hnone)
  case discard => exact congrArg Host.Outcome.next (State.sampleAnswer_of_givenUp hup)
  case live =>
    intro x base hlive hstate hstep hrun hx hbase composed
    have hcomposed (side : Side) (d : Reading) :
        composed side d = sampleOf (base.get side) ((s.probe st).correction.get side) d := by
      cases d <;> rfl
    let u := s.sampled st x l r
    have hu : Only [.capture] s u := State.sampled_only
    have haxes : u.axes = s.axes := hu.2 .axes (by decide)
    obtain ⟨v, hcapture⟩ := State.advance_capture (s := u) (st := st) (w := w) (x := x)
    refine ⟨_, congrArg Host.Outcome.next (State.sampleAnswer_of_live hlive hstate hstep hrun), fun wh a k hk => ?_,
      (congrArg Capture.request hcapture).trans rfl, (congrArg Capture.angle hcapture).trans rfl, ?other,
      fun hlt => ?within, fun heq => ?row⟩
    · have hareas := congrArg Capture.areas hcapture
      dsimp only at hareas
      rw [hareas, State.sampled_sample hbase hx wh a hk, hcomposed, hcomposed]
      rfl
    case other =>
      refine (congrArg (fun c : Capture => c.sweep.get st.other) hcapture).trans ?_
      exact Two.get_set_other_station ..
    case within =>
      have hnext := State.advance_within (s := u) (st := st) (w := w) hlt
      refine ⟨?_, congrArg State.axes hnext,
        hu.step (State.advance_within_only hlt) (by decide) (by decide)⟩
      refine (congrArg (fun c : State => c.sweepOf st) hnext).trans ((Two.get_set_same ..).trans ?_)
      rw [← hstate]
    case row =>
      intro next
      have hrow := State.advance_rowDone (s := u) (st := st) (w := w) (x := x) (by omega)
      refine ⟨fun hmore => ?_, fun hlast => ?_⟩
      · have hbegin := hrow.trans ((if_pos hmore).trans (u.beginIndexing_eq st (w.rowDone x) next rfl))
        refine ⟨?_, ?_, ?_⟩
        · exact (congrArg (fun c : State => c.sweepOf st) hbegin).trans (Two.get_set_same ..)
        · exact congrArg State.axes hbegin
        · rw [hrow, if_pos hmore]
          exact hu.step (u.beginIndexing_only ..) (by decide) (by decide)
      · have hend := hrow.trans (if_neg (Nat.not_lt.2 hlast))
        rw [hend]
        refine ⟨?_, State.finishSweep_told _, fun hfree => ?_⟩
        · exact (congrArg (fun c : Capture => c.sweep.get st) (State.finishSweep_capture _)).trans
            (Two.get_set_same ..)
        · rw [State.finishSweep_of_no_backlog (s := u) hfree]
          exact ⟨rfl, hu.step (State.only_capture_axes_notices ..) (by decide) (by decide)⟩

end Sys2Proof.Machine
end

section
/-! PROOFS. Chapter 12: the loads of the reference profiles (R192, R193). -/

namespace Sys2Proof.Machine

/-! ### The entry a number names -/

theorem Ix.ofNum_num (i : Ix) : Ix.ofNum i.num = some i := by
  cases i <;> rfl

theorem Ix.ofNum_of_lt {n : Nat} (h : 3 < n) : Ix.ofNum n = none := by
  unfold Ix.ofNum
  split
  case h_5 => rfl
  all_goals omega

/-- A number names no entry, or the one it is the number of. -/
theorem Ix.ofNum_cases (n : Nat) : Ix.ofNum n = none ∨ ∃ i : Ix, i.num = n ∧ Ix.ofNum n = some i := by
  by_cases h : 3 < n
  · exact .inl (Ix.ofNum_of_lt h)
  · have hsome : ∃ i : Ix, i.num = n := by
      match n with
      | 0 => exact ⟨.i0, rfl⟩
      | 1 => exact ⟨.i1, rfl⟩
      | 2 => exact ⟨.i2, rfl⟩
      | 3 => exact ⟨.i3, rfl⟩
      | n + 4 => omega
    obtain ⟨i, rfl⟩ := hsome
    exact .inr ⟨i, rfl, Ix.ofNum_num i⟩

/-! ### The offsets of PROFILE DATA (R193) -/

theorem Profile.settled_eq (p : Profile) (k : Nat) (x : Int) :
    p.settled k x = if k = p.measuring then 0 else max (-50000) (min 50000 x) := by
  unfold Profile.settled
  rw [clampInt_eq_max_min (by decide)]
  rfl

/-- The entry with one offset stored at its fill. -/
def Profile.storedNext (p : Profile) (x : Int) : Profile :=
  { p with offsets := Cells.write 0 p.fill (p.settled p.fill x) p.offsets, fill := p.fill + 1 }

section
variable {p : Profile} {b : Bool} (x : Int) {l : List Int}

theorem Profile.store_of_room (h : p.fill < 160) :
    Profile.store (p, b) x = (p.storedNext x, b || decide (p.settled p.fill x ≠ x)) := if_pos h

theorem Profile.store_of_full (h : ¬p.fill < 160) : Profile.store (p, b) x = (p, true) := if_neg h

theorem Profile.storedNext_offset (h : Cells.wf 0 p.offsets) (k : Nat) :
    (p.storedNext x).offset k = if k = p.fill then p.settled p.fill x else p.offset k :=
  Cells.read_write p.offsets p.fill k _ h

theorem Profile.foldl_store_fill (l : List Int) (p : Profile) (b : Bool) :
    (l.foldl Profile.store (p, b)).1.fill = max p.fill (min 160 (p.fill + l.length)) := by
  induction l generalizing p b with
  | nil =>
    simp only [List.foldl_nil, List.length_nil]
    omega
  | cons x l ih =>
    rw [List.foldl_cons, List.length_cons]
    by_cases h : p.fill < 160
    · rw [Profile.store_of_room x h, ih]
      simp only [Profile.storedNext]
      omega
    · rw [Profile.store_of_full x h, ih]
      omega

/-- The stations of the entry are out of reach of PROFILE DATA. -/
theorem Profile.foldl_store_stations (l : List Int) (p : Profile) (b : Bool) :
    (l.foldl Profile.store (p, b)).1.measuring = p.measuring ∧
      (l.foldl Profile.store (p, b)).1.zoneFirst = p.zoneFirst ∧
      (l.foldl Profile.store (p, b)).1.zoneLast = p.zoneLast := by
  induction l generalizing p b with
  | nil => exact ⟨rfl, rfl, rfl⟩
  | cons x l ih =>
    rw [List.foldl_cons]
    by_cases h : p.fill < 160
    · rw [Profile.store_of_room x h]
      exact ih (p.storedNext x) _
    · rw [Profile.store_of_full x h]
      exact ih p _

/-- Where an offset sent falls below lateral station 160 it is stored, settled; every other stays. -/
theorem Profile.foldl_store_offset (l : List Int) (p : Profile) (b : Bool) (hp : Cells.wf 0 p.offsets) (k : Nat) :
    (l.foldl Profile.store (p, b)).1.offset k =
      if p.fill ≤ k ∧ k < 160 then ((l[k - p.fill]?).map (p.settled k)).getD (p.offset k) else p.offset k := by
  induction l generalizing p b with
  | nil => simp
  | cons x l ih =>
    rw [List.foldl_cons]
    by_cases h : p.fill < 160
    · rw [Profile.store_of_room x h, ih _ _ (Cells.wf_write _ _ _ hp), Profile.storedNext_offset x hp]
      have hfill : (p.storedNext x).fill = p.fill + 1 := rfl
      rw [hfill]
      by_cases hk : k = p.fill
      · subst hk
        simp [h]
      · by_cases hlater : p.fill ≤ k ∧ k < 160
        · have hnext : k - p.fill = (k - (p.fill + 1)) + 1 := by omega
          rw [if_pos (by omega), if_pos hlater, if_neg hk, hnext, List.getElem?_cons_succ]
          rfl
        · rw [if_neg (by omega), if_neg hlater, if_neg hk]
    · rw [Profile.store_of_full x h, ih _ _ hp, if_neg (by omega), if_neg (by omega)]

/-- No offset was clamped, forced to 0 or disregarded. -/
theorem Profile.foldl_store_kept_iff (l : List Int) (p : Profile) (b : Bool) :
    (l.foldl Profile.store (p, b)).2 = false ↔ b = false ∧ (l = [] ∨ p.fill + l.length ≤ 160) ∧
      ∀ k < l.length, l[k]? = (l[k]?).map (p.settled (p.fill + k)) := by
  induction l generalizing p b with
  | nil => simp
  | cons x l ih =>
    rw [List.foldl_cons]
    by_cases h : p.fill < 160
    · rw [Profile.store_of_room x h, ih]
      have hfill : (p.storedNext x).fill = p.fill + 1 := rfl
      have hsettled : (p.storedNext x).settled = p.settled := rfl
      have hroom : (l = [] ∨ p.fill + 1 + l.length ≤ 160) ↔ p.fill + (x :: l).length ≤ 160 := by
        rw [List.length_cons, ← List.length_eq_zero_iff]
        omega
      rw [hfill, hsettled, hroom, List.length_cons, Nat.forall_lt_succ_left]
      have hhead : (x :: l)[0]? = ((x :: l)[0]?).map (p.settled (p.fill + 0)) ↔ p.settled p.fill x = x := by
        simp [eq_comm]
      have htail : (∀ k < l.length, (x :: l)[k + 1]? = ((x :: l)[k + 1]?).map (p.settled (p.fill + (k + 1)))) ↔
          ∀ k < l.length, l[k]? = (l[k]?).map (p.settled (p.fill + 1 + k)) := by
        refine forall₂_congr fun k _ => ?_
        rw [List.getElem?_cons_succ, show p.fill + (k + 1) = p.fill + 1 + k by omega]
      rw [hhead, htail]
      simp only [Bool.or_eq_false_iff, decide_eq_false_iff_not, not_not, reduceCtorEq, false_or]
      tauto
    · rw [Profile.store_of_full x h, ih]
      refine iff_of_false (fun hkept => Bool.noConfusion hkept.1) fun ⟨_, hroom, _⟩ => ?_
      rcases hroom with hnil | hle
      · cases hnil
      · rw [List.length_cons] at hle
        omega

end

/-! ### The three commands (R192, R193) -/

section
variable {tag id : Byte} {payload : List Byte} {s s0 s1 : State}

theorem exec_profileBegin_handed {x : ProfileParams} (hp : profileBeginParams payload = .ok x)
    (hs : s.handed 0x12 tag payload = some s1) :
    exec (.profileBegin tag payload) s = .next ((s1.profileBegin x).sent 0x12 tag) := State.plainCommand_next hp hs

theorem exec_profileResume_handed (hs : s.handed 0x14 tag [id] = some s1) :
    exec (.profileResume tag [id]) s = .next ((s1.profileResume id.toNat).sent 0x14 tag) :=
  State.plainCommand_next rfl hs

theorem exec_profileData_taken {x : Nat × List Int} (hp : profileDataParams payload = .ok x)
    (hs : s.takeFrame ⟨0x13, tag, payload⟩ = some s0) :
    exec (.profileData tag payload) s = .next (((s0.breakLoad (Ix.ofNum x.1)).profileData x).sent 0x13 tag) := by
  refine Eq.trans rfl (congrArg Host.Outcome.next ?_)
  rw [hp]
  exact State.command_taken hs

/-- As a command is handed over no load is left under way (R193). -/
theorem State.not_loading_of_handed {kind : Byte} (hs : s.handed kind tag payload = some s1) (j : Ix) :
    (s1.profile j).state ≠ .loading := by
  obtain ⟨s0, _, rfl⟩ := State.handed_eq_some.1 hs
  rw [State.breakLoad_profile]
  split
  next => exact nofun
  next h => exact fun hloading => h ⟨hloading, nofun⟩

theorem Profile.begun_eq (first last measuring : Nat) :
    let p := Profile.begun first last measuring
    p.zoneFirst = min 157 first ∧ p.zoneLast = max (p.zoneFirst + 2) (min 159 last) ∧
      p.measuring = max (p.zoneFirst + 1) (min (p.zoneLast - 1) measuring) := by
  intro p
  have hfirst : p.zoneFirst = min 157 first := (clampNat_eq_max_min (by omega) _).trans (Nat.zero_max _)
  have hlast : p.zoneLast = max (p.zoneFirst + 2) (min 159 last) :=
    clampNat_eq_max_min (show p.zoneFirst + 2 ≤ 159 by omega) _
  exact ⟨hfirst, hlast, clampNat_eq_max_min (show p.zoneFirst + 1 ≤ p.zoneLast - 1 by omega) _⟩

theorem State.profileBegin_of_rests {x : ProfileParams} {i : Ix} (hi : i.num = x.id) (h : s.pitRests) {p : Profile}
    (hp : p = Profile.begun x.first x.last x.measuring) :
    s.profileBegin x =
      ⟨s.putProfile i p, if p.zoneFirst = x.first ∧ p.zoneLast = x.last ∧ p.measuring = x.measuring then .ok
        else .adjusted, .profileBegin i p⟩ := by
  have hcode : adjustedIf (decide (p.zoneFirst ≠ x.first ∨ p.zoneLast ≠ x.last ∨ p.measuring ≠ x.measuring)) =
      if p.zoneFirst = x.first ∧ p.zoneLast = x.last ∧ p.measuring = x.measuring then .ok else .adjusted := by
    refine adjustedIf_eq ?_
    simp only [decide_eq_false_iff_not, not_or, not_not]
  unfold State.profileBegin
  rw [← hi, Ix.ofNum_num, ← hcode, hp]
  exact if_pos (s.tablesWritable_iff.2 h)

theorem State.profileBegin_of_refused {x : ProfileParams} (h : 3 < x.id ∨ ¬s.pitRests) :
    s.profileBegin x = s.refuse .wrongState := by
  unfold State.profileBegin
  rcases Ix.ofNum_cases x.id with hnone | ⟨i, hi, hsome⟩
  · rw [hnone]
  · have hid : ¬3 < x.id := by
      rw [← hi]
      cases i <;> decide
    rw [hsome]
    exact if_neg (mt s.tablesWritable_iff.1 (h.resolve_left hid))

theorem State.profileResume_of_broken {n : Nat} {i : Ix} (hi : i.num = n) (h : s.pitRests)
    (hbroken : (s.profile i).state = .broken) : s.profileResume n =
      ⟨s.putProfile i { s.profile i with state := .loading }, .ok,
        .profileFill i { s.profile i with state := .loading }⟩ := by
  unfold State.profileResume
  rw [← hi, Ix.ofNum_num]
  exact if_pos ⟨s.tablesWritable_iff.2 h, hbroken⟩

theorem State.profileResume_of_refused {n : Nat}
    (h : 3 < n ∨ ¬s.pitRests ∨ ∀ i : Ix, i.num = n → (s.profile i).state ≠ .broken) :
    s.profileResume n = s.refuse .wrongState := by
  unfold State.profileResume
  rcases Ix.ofNum_cases n with hnone | ⟨i, hi, hsome⟩
  · rw [hnone]
  · have hid : ¬3 < n := by
      rw [← hi]
      cases i <;> decide
    rw [hsome]
    refine if_neg fun ⟨hrests, hbroken⟩ => ?_
    rcases h.resolve_left hid with hmoves | hnot
    · exact hmoves (s.tablesWritable_iff.1 hrests)
    · exact hnot i hi hbroken

/-- The entry PROFILE DATA leaves of a LOADING one. -/
def Profile.filled (p : Profile) (l : List Int) : Profile :=
  let q := (l.foldl Profile.store (p, false)).1
  { q with state := if q.fill = 160 then .complete else .loading }

theorem Profile.filled_fill (p : Profile) (l : List Int) :
    (p.filled l).fill = max p.fill (min 160 (p.fill + l.length)) := Profile.foldl_store_fill l p false

theorem Profile.filled_stations (p : Profile) (l : List Int) : (p.filled l).measuring = p.measuring ∧
    (p.filled l).zoneFirst = p.zoneFirst ∧ (p.filled l).zoneLast = p.zoneLast := Profile.foldl_store_stations l p false

theorem Profile.filled_offset {p : Profile} (hp : Cells.wf 0 p.offsets) (l : List Int) (k : Nat) :
    (p.filled l).offset k =
      if p.fill ≤ k ∧ k < 160 then ((l[k - p.fill]?).map (p.settled k)).getD (p.offset k) else p.offset k :=
  Profile.foldl_store_offset l p false hp k

theorem Profile.filled_offset_kept {p : Profile} (hp : Cells.wf 0 p.offsets) {l : List Int} {k : Nat}
    (h : k < p.fill ∨ p.fill + l.length ≤ k ∨ 160 ≤ k) : (p.filled l).offset k = p.offset k := by
  rw [Profile.filled_offset hp]
  split
  next hk => rw [List.getElem?_eq_none (by omega), Option.map_none, Option.getD_none]
  next => rfl

theorem Profile.filled_offset_sent {p : Profile} (hp : Cells.wf 0 p.offsets) {l : List Int} {k : Nat} (hk : k < 160)
    {v : Int} (h : (if p.fill ≤ k then l[k - p.fill]? else none) = some v) :
    (p.filled l).offset k = p.settled k v := by
  split at h
  next hfill => rw [Profile.filled_offset hp, if_pos ⟨hfill, hk⟩, h, Option.map_some, Option.getD_some]
  next => cases h

/-- The reply to PROFILE DATA is OK when every offset was stored as it was sent. -/
theorem Profile.filled_code (p : Profile) {l : List Int} (hl : l ≠ []) :
    adjustedIf (l.foldl Profile.store (p, false)).2 =
      if p.fill + l.length ≤ 160 ∧ ∀ k < l.length, l[k]? = (l[k]?).map (p.settled (p.fill + k)) then .ok
      else .adjusted := by
  refine adjustedIf_eq ((Profile.foldl_store_kept_iff l p false).trans ?_)
  simp [hl]

theorem State.profileData_of_loading {n : Nat} {l : List Int} {i : Ix} (hi : i.num = n)
    (h : (s.profile i).state = .loading) : s.profileData (n, l) =
      ⟨s.putProfile i ((s.profile i).filled l), adjustedIf (l.foldl Profile.store (s.profile i, false)).2,
        .profileFill i ((s.profile i).filled l)⟩ := by
  unfold State.profileData
  dsimp only
  rw [← hi, Ix.ofNum_num]
  exact if_pos h

theorem State.profileData_of_other {n : Nat} {l : List Int} {i : Ix} (hi : i.num = n)
    (h : (s.profile i).state ≠ .loading) : s.profileData (n, l) = s.refuse .disregarded := by
  unfold State.profileData
  dsimp only
  rw [← hi, Ix.ofNum_num]
  exact if_neg h

theorem State.profileData_of_none {n : Nat} {l : List Int} (h : 3 < n) :
    s.profileData (n, l) = s.refuse .wrongState := by
  unfold State.profileData
  dsimp only
  rw [Ix.ofNum_of_lt h]

/-- PROFILE DATA has at least one offset. -/
theorem profileDataParams_ne_nil {n : Nat} {l : List Int} (h : profileDataParams payload = .ok (n, l)) :
    l ≠ [] := by
  unfold profileDataParams countedParams at h
  split at h
  next hcount =>
    cases h
    intro hnil
    have hlen := congrArg List.length hnil
    simp only [i32List, List.length_map, List.length_range, List.length_nil] at hlen
    omega
  next => cases h

/-- As PROFILE DATA is handed over, the load of the entry it names stays and every other is broken (R193). -/
theorem State.breakLoad_profile_named (s : State) {i j : Ix} (h : j ≠ i) :
    (s.breakLoad (some i)).profile j =
      if (s.profile j).state = .loading then { s.profile j with state := .broken } else s.profile j := by
  rw [State.breakLoad_profile]
  refine if_congr (and_iff_left ?_) rfl rfl
  intro heq
  exact h (Option.some_inj.1 heq).symm

theorem State.breakLoad_profile_self (s : State) (i : Ix) : (s.breakLoad (some i)).profile i = s.profile i := by
  rw [State.breakLoad_profile]
  exact if_neg fun h => h.2 rfl

theorem State.breakLoad_profile_none (s : State) (j : Ix) : (s.breakLoad none).profile j =
    if (s.profile j).state = .loading then { s.profile j with state := .broken } else s.profile j := by
  rw [State.breakLoad_profile]
  exact if_congr (and_iff_left nofun) rfl rfl

end

/-- Settles O16: one equation for each way the three commands go, and of PROFILE DATA the entry's fields by induction
over the offsets sent. -/
theorem profileLoadsBeginFillAndResume : Obligations.ProfileLoadsBeginFillAndResume := by
  refine ⟨⟨?begin, ?resume⟩, ?data⟩
  case begin =>
    intro tag payload x s s1 hp hs
    have hrow := exec_profileBegin_handed hp hs
    refine ⟨fun i hi hrests => ?_, fun h => exec_of_refuse hrow (State.profileBegin_of_refused h)⟩
    rw [State.profileBegin_of_rests hi hrests rfl] at hrow
    obtain ⟨hfirst, hlast, hmeasuring⟩ := Profile.begun_eq x.first x.last x.measuring
    exact ⟨_, _, hrow, rfl, rfl, rfl, fun k => rfl, hfirst, hlast, hmeasuring, rfl,
      State.not_loading_of_handed hs, State.only_replied_of (s1.putProfile_only i _) ..⟩
  case resume =>
    intro tag id s s1 hs
    have hrow := exec_profileResume_handed hs
    refine ⟨fun i hi hrests hbroken => ?_, fun h => exec_of_refuse hrow (State.profileResume_of_refused h)⟩
    rw [State.profileResume_of_broken hi hrests hbroken] at hrow
    exact ⟨_, hrow, rfl, rfl, State.only_replied_of (s1.putProfile_only i _) ..⟩
  case data =>
    intro tag payload id l s s0 hp hs hmem broken tablesKept
    have hrow := exec_profileData_taken hp hs
    refine ⟨fun i hi hloading => ?loading, fun i hi hother => ?other, fun hid => ?none⟩
    case loading =>
      have hkept : (s0.breakLoad (some i)).profile i = s0.profile i := s0.breakLoad_profile_self i
      have hwf : Cells.wf 0 (s0.profile i).offsets := by
        have hsetup : s0.setup = s.setup := (State.takeFrame_only hs).2 .setup (by decide)
        obtain ⟨_, _, _, hprofiles⟩ := hmem
        rw [State.profile, hsetup]
        exact (Four.forall_toList _ fun q : Profile => Cells.wf 0 q.offsets).1 hprofiles i
      rw [← hi, Ix.ofNum_num, State.profileData_of_loading rfl (by rw [hkept]; exact hloading), hkept] at hrow
      refine ⟨_, hrow, ?_⟩
      intro p q kept
      have hsettled : kept = p.settled := by
        funext k v
        exact (p.settled_eq k v).symm
      have hq : q = p.filled l := (State.putProfile_profile ..).trans (if_pos rfl)
      rw [hq, hsettled]
      obtain ⟨hmeasuring, hfirst, hlast⟩ := p.filled_stations l
      refine ⟨p.filled_fill l, rfl, hmeasuring, hfirst, hlast,
        fun k hk v hv => Profile.filled_offset_sent hwf hk hv, fun k hk => Profile.filled_offset_kept hwf hk, ?_,
        fun j hj => ?_, ⟨rfl, rfl⟩, ?_⟩
      · rw [← p.filled_code (profileDataParams_ne_nil hp)]
        exact rfl
      · exact ((State.putProfile_profile ..).trans (if_neg hj)).trans (s0.breakLoad_profile_named hj)
      · exact State.only_replied_of ((s0.breakLoad_only (some i)).trans (State.putProfile_only _ i _)) ..
    case other =>
      have hkept : (s0.breakLoad (some i)).profile i = s0.profile i := s0.breakLoad_profile_self i
      rw [← hi, Ix.ofNum_num, State.profileData_of_other rfl (by rw [hkept]; exact hother)] at hrow
      exact ⟨_, hrow, rfl, hkept, fun j hj => s0.breakLoad_profile_named hj, ⟨rfl, rfl⟩,
        State.only_replied_of (s0.breakLoad_only (some i)) ..⟩
    case none =>
      rw [Ix.ofNum_of_lt hid, State.profileData_of_none hid] at hrow
      exact ⟨_, hrow, rfl, s0.breakLoad_profile_none, ⟨rfl, rfl⟩, State.only_replied_of (s0.breakLoad_only none) ..⟩

end Sys2Proof.Machine
end

section
/-! PROOFS. Reset: the write it cuts short, the levels it reads, and the values every block takes (R21, R37, R59, R77,
R92, R106, R124, R146, R159, R176, R188). -/

namespace Sys2Proof.Machine

/-! ### The record places (R21) -/

section
variable {st : Store} {n k : Nat} {c : Option Record}

/-- The request in service had come to no write of a place when reset cut it short. -/
def Store.uncut (st : Store) (writeMade : Bool) : Prop :=
  ¬(writeMade = true ∧ ∃ r c, st.service = some ⟨r, c⟩ ∧
    ((∃ n k, ((∃ i, r = .write n i) ∨ (∃ x tag, r = .amend n x tag) ∨ (∃ tag, r = .retire n tag)) ∧
        st.placeOf n = some k) ∨
      ∃ n w k tag, r = .enrol n w k tag))

theorem Store.cutShort_of_place (h : st.placeOf n = some k) : st.cutShort n = st.setPlace k (st.place k).tear := by
  rw [Store.cutShort, h]
  rfl

theorem Store.emptyHeader_of_place (h : st.placeOf n = some k) :
    st.emptyHeader n = st.setPlace k { st.place k with header := none } := by
  rw [Store.emptyHeader, h]

/-- Without a write begun every record place stays. -/
theorem Store.placesAfterReset_of_uncut {writeMade : Bool} (h : st.uncut writeMade) :
    st.placesAfterReset writeMade = st.places := by
  unfold Store.placesAfterReset
  split
  next hmade =>
    have hnone {r : Request} {c : Option Record} (hservice : st.service = some ⟨r, c⟩) :=
      fun hcut => h ⟨hmade, r, c, hservice, hcut⟩
    unfold Store.endByReset
    split
    next n i c hservice =>
      have hplace : st.placeOf n = none :=
        Option.eq_none_iff_forall_ne_some.2 fun k hk => hnone hservice (.inl ⟨n, k, .inl ⟨i, rfl⟩, hk⟩)
      rw [Store.cutShort, hplace]
    next n x tag c hservice =>
      have hplace : st.placeOf n = none :=
        Option.eq_none_iff_forall_ne_some.2 fun k hk => hnone hservice (.inl ⟨n, k, .inr (.inl ⟨x, tag, rfl⟩), hk⟩)
      rw [Store.cutShort, hplace]
    next n w k tag c hservice => exact absurd (.inr ⟨n, w, k, tag, rfl⟩) (hnone hservice)
    next n tag c hservice =>
      have hplace : st.placeOf n = none :=
        Option.eq_none_iff_forall_ne_some.2 fun k hk => hnone hservice (.inl ⟨n, k, .inr (.inr ⟨tag, rfl⟩), hk⟩)
      rw [Store.emptyHeader, hplace]
    next => rfl
  next => rfl

/-- A body write cut short leaves the header of its place and a body that fails its check, and every other place. -/
theorem Store.torn_place (hwf : Cells.wf Place.blank st.places) (k : Nat) {u : Store}
    (hu : u.places = (st.setPlace k (st.place k).tear).places) :
    (u.place k).header = (st.place k).header ∧ (u.place k).body = none ∧ ∀ j, j ≠ k → u.place j = st.place j := by
  have hplace (j : Nat) : u.place j = if j = k then (st.place k).tear else st.place j :=
    (congrArg (fun c => Cells.read Place.blank c j) hu).trans (Store.setPlace_place hwf k j _)
  refine ⟨?_, ?_, fun j hj => (hplace j).trans (if_neg hj)⟩
  · rw [hplace k, if_pos rfl, Place.tear_header]
  · rw [hplace k, if_pos rfl, Place.body_tear]

/-- The single write of a RETIRE leaves an empty header. -/
theorem Store.emptied_place (hwf : Cells.wf Place.blank st.places) (k : Nat) {u : Store}
    (hu : u.places = (st.setPlace k { st.place k with header := none }).places) :
    u.place k = { st.place k with header := none } ∧ ∀ j, j ≠ k → u.place j = st.place j := by
  have hplace (j : Nat) : u.place j = if j = k then { st.place k with header := none } else st.place j :=
    (congrArg (fun c => Cells.read Place.blank c j) hu).trans (Store.setPlace_place hwf k j _)
  exact ⟨(hplace k).trans (if_pos rfl), fun j hj => (hplace j).trans (if_neg hj)⟩

end

/-! ### The lines as they are read -/

section
variable (pins : ResetPins)

theorem highestRead_eq : highestRead pins = (positionsRead pins).toList.foldl max 0 := by
  have hrange (i : Ix) : 0 ≤ (positionsRead pins).get i := by
    have hget : (positionsRead pins).get i = min (pins.heights.get i : Int) 60000 := Four.get_map ..
    omega
  have h0 := hrange .i0
  simp only [highestRead, Four.toList, List.foldl, Four.get] at h0 ⊢
  omega

theorem liftAfterReset_eq {top : Int} (htop : top = highestRead pins) :
    let parked := pins.sampled.locksEngaged
    liftAfterReset pins =
      { state := if parked then .parked else if top ≤ 200 then .down else .hold
        points := (positionsRead pins).map fun h => Point.reset h (if parked then top else h)
        move := none
        holds := { LiftCauses.empty with host := !parked && decide (200 < top) }
        fault := none
        interrupted := none
        moveTimer := .stopped } := by
  intro parked
  have hstate : (if parked then LiftState.parked else if decide (top ≤ 200) = true then .down else .hold) =
      if parked then .parked else if top ≤ 200 then .down else .hold := by
    simp only [decide_eq_true_eq]
  have hholds : (if (parked || decide (top ≤ 200)) = true then LiftCauses.empty else LiftCauses.empty.add .host) =
      { LiftCauses.empty with host := !parked && decide (200 < top) } := by
    cases parked with
    | true => rfl
    | false =>
      by_cases hrail : top ≤ 200
      · simp [hrail, LiftCauses.empty]
      · simp [hrail, LiftCauses.empty, LiftCauses.add, Int.not_le.1 hrail]
  rw [← hstate, ← hholds, htop]
  rfl

theorem Twelve.get_zipWith {α β γ : Type} (g : α → β → γ) (x : Twelve α) (y : Twelve β) (i : Input) :
    (Twelve.zipWith g x y).get i = g (x.get i) (y.get i) := by
  cases i <;> rfl

theorem stateAfterReset_input (pending : List Instr) (places : Cells Place) (i : Input) :
    (stateAfterReset pins pending places).inputs.get i = InputState.reset (pins.sampled.get i) (pins.raw.get i) :=
  Twelve.get_zipWith ..

end

/-- Settles O54: the write cut short by its kind, the highest of the four heights as a fold, and the rest of every block
as reset gives it. -/
theorem resetRestoresEveryBlock : Obligations.ResetRestoresEveryBlock := by
  intro pins s
  refine ⟨_, rfl, rfl, rfl, ⟨fun hcut => Store.placesAfterReset_of_uncut hcut, fun hmem => ⟨?wf, ?write⟩⟩, rfl,
    ⟨?lift, rfl⟩, ?inputs, ?stations, ?areas, rfl, rfl, rfl, rfl, rfl, rfl, rfl, ?notices⟩
  case wf =>
    obtain ⟨hplaces, htable, _, _⟩ := hmem
    refine ⟨Store.wf_placesAfterReset ⟨hplaces, htable⟩ _, Cells.wf_nil, ?_, ?_⟩
    · exact (Four.forall_toList _ fun c => Cells.wf Sample.unset c).2 fun i =>
        (Four.get_const (α := Area) [] i).symm ▸ Cells.wf_nil
    · exact (Four.forall_toList _ fun p : Profile => Cells.wf 0 p.offsets).2 fun i =>
        (Four.get_const Profile.reset i).symm ▸ Cells.wf_nil
  case write =>
    obtain ⟨hplaces, _, _, _⟩ := hmem
    intro r c hmade hservice others
    have hend : s.store.placesAfterReset pins.writeMade = s.store.endByReset.places := if_pos hmade
    refine ⟨fun n k hr hk => ?_, fun n w k tag hr => ?_, fun n k tag hr hk => ?_⟩
    · refine Store.torn_place hplaces k (hend.trans (congrArg Store.places ?_))
      rw [← Store.cutShort_of_place hk]
      rcases hr with ⟨i, rfl⟩ | ⟨x, tag, rfl⟩ <;> rw [Store.endByReset, hservice]
    · refine Store.torn_place hplaces k (hend.trans (congrArg Store.places ?_))
      rw [Store.endByReset, hservice, hr]
      rfl
    · refine Store.emptied_place hplaces k (hend.trans (congrArg Store.places ?_))
      rw [← Store.emptyHeader_of_place hk, Store.endByReset, hservice, hr]
  case lift => exact liftAfterReset_eq pins (highestRead_eq pins).symm
  case inputs =>
    intro i
    rw [State.level?, stateAfterReset_input]
    exact ⟨rfl, rfl, rfl, rfl⟩
  case stations =>
    intro st
    cases st <;> exact ⟨rfl, rfl, rfl, rfl⟩
  case areas =>
    intro i
    exact ⟨Four.get_const (α := Area) [] i, Four.get_const Profile.reset i⟩
  case notices =>
    intro src
    cases src <;> rfl

end Sys2Proof.Machine
end

section
/-! PROOFS. Chapter 8: the completion of a sibling search and the delivery of its results (R6, R19, R20, R129, R137,
R141, R142). -/

namespace Sys2Proof.Machine

/-! ### Results delivered one after the other (R141) -/

section
variable {s : State} {x : RunEntry × Measurement} {l : List (RunEntry × Measurement)} {i : Ix}

theorem State.delivers_iff (s : State) (e : RunEntry) : s.delivers e = true ↔
    (s.slot e.slot).state = .openSlot ∧ (s.slot e.slot).serial = some e.serial ∧
      (s.slot e.slot).binding = some e.station ∧ e.rebound = false := by
  simp [State.delivers, and_assoc]

theorem State.deliver_slot (s : State) (x : RunEntry × Measurement) (i : Ix) : (s.deliver x).slot i =
    if s.delivers x.1 = true ∧ i = x.1.slot then { s.slot i with measurement := some x.2 } else s.slot i := by
  unfold State.deliver
  by_cases hd : s.delivers x.1 = true
  · rw [if_pos hd]
    refine (s.setSlot_slot x.1.slot i _).trans ?_
    by_cases hi : i = x.1.slot
    · rw [if_pos hi, if_pos ⟨hd, hi⟩, hi]
    · rw [if_neg hi, if_neg fun h => hi h.2]
  · rw [if_neg hd, if_neg fun h => hd h.1]

/-- A delivery writes no field of a slot but its measurement record. -/
theorem State.deliver_slot_rest (s : State) (x : RunEntry × Measurement) (i : Ix) :
    (s.deliver x).slot i = { s.slot i with measurement := ((s.deliver x).slot i).measurement } := by
  rw [State.deliver_slot]
  split <;> rfl

theorem State.deliver_delivers (s : State) (x : RunEntry × Measurement) (e : RunEntry) :
    (s.deliver x).delivers e = s.delivers e := by
  unfold State.delivers
  rw [State.deliver_slot_rest]

theorem State.deliver_engine (s : State) (x : RunEntry × Measurement) : (s.deliver x).engine =
    if s.delivers x.1 = true then { s.engine with delivered := s.engine.delivered.set x.1.station true }
    else s.engine := by
  unfold State.deliver
  split <;> rfl

theorem State.foldl_deliver_delivers (l : List (RunEntry × Measurement)) (s : State) (e : RunEntry) :
    (l.foldl State.deliver s).delivers e = s.delivers e := by
  induction l generalizing s with
  | nil => rfl
  | cons x l ih => exact (ih (s.deliver x)).trans (s.deliver_delivers x e)

theorem State.foldl_deliver_slot_rest (l : List (RunEntry × Measurement)) (s : State) (i : Ix) :
    (l.foldl State.deliver s).slot i =
      { s.slot i with measurement := ((l.foldl State.deliver s).slot i).measurement } := by
  induction l generalizing s with
  | nil => rfl
  | cons x l ih =>
    refine (ih (s.deliver x)).trans ?_
    rw [State.deliver_slot_rest]
    rfl

/-- Of the Context Table the slots alone take part in the deliveries. -/
theorem State.foldl_deliver_results (l : List (RunEntry × Measurement)) (s : State) :
    (l.foldl State.deliver s).context.results = s.context.results ∧
      (l.foldl State.deliver s).context.resultsLost = s.context.resultsLost := by
  have hone (s : State) (x : RunEntry × Measurement) : (s.deliver x).context.results = s.context.results ∧
      (s.deliver x).context.resultsLost = s.context.resultsLost := by
    unfold State.deliver
    split <;> exact ⟨rfl, rfl⟩
  induction l generalizing s with
  | nil => exact ⟨rfl, rfl⟩
  | cons x l ih =>
    obtain ⟨hresults, hlost⟩ := hone s x
    exact ⟨(ih (s.deliver x)).1.trans hresults, (ih (s.deliver x)).2.trans hlost⟩

/-- Of the engine the marks of the delivered stations alone take part. -/
theorem State.foldl_deliver_engine (l : List (RunEntry × Measurement)) (s : State) :
    (l.foldl State.deliver s).engine =
      { s.engine with delivered := (l.foldl State.deliver s).engine.delivered } := by
  induction l generalizing s with
  | nil => rfl
  | cons x l ih =>
    refine (ih (s.deliver x)).trans ?_
    rw [State.deliver_engine]
    split <;> rfl

/-- A slot that none of the deliveries reaches keeps its record. -/
theorem State.foldl_deliver_slot_kept (h : ∀ x ∈ l, x.1.slot = i → s.delivers x.1 = false) :
    (l.foldl State.deliver s).slot i = s.slot i := by
  induction l generalizing s with
  | nil => rfl
  | cons x l ih =>
    have hhere : (s.deliver x).slot i = s.slot i := by
      rw [State.deliver_slot, if_neg]
      rintro ⟨hd, rfl⟩
      rw [h x List.mem_cons_self rfl] at hd
      cases hd
    refine (ih fun y hy hi => ?_).trans hhere
    rw [State.deliver_delivers]
    exact h y (List.mem_cons_of_mem x hy) hi

/-- With one result for each slot at most, a slot that holds its wheelset takes its own result. -/
theorem State.foldl_deliver_measurement (hslots : (l.map fun x => x.1.slot).Nodup) (hx : x ∈ l)
    (hd : s.delivers x.1 = true) : ((l.foldl State.deliver s).slot x.1.slot).measurement = some x.2 := by
  induction l generalizing s with
  | nil => cases hx
  | cons y l ih =>
    rw [List.map_cons, List.nodup_cons] at hslots
    obtain ⟨hfresh, hrest⟩ := hslots
    rcases List.mem_cons.1 hx with rfl | hx
    · have hkept : (l.foldl State.deliver (s.deliver x)).slot x.1.slot = (s.deliver x).slot x.1.slot :=
        State.foldl_deliver_slot_kept fun y hy hi => absurd (List.mem_map.2 ⟨y, hy, hi⟩) hfresh
      rw [List.foldl_cons, hkept, State.deliver_slot, if_pos ⟨hd, rfl⟩]
    · exact ih hrest hx ((s.deliver_delivers y x.1).trans hd)

theorem State.deliver_delivered_kept (s : State) (x : RunEntry × Measurement) {st : Station}
    (h : s.engine.delivered.get st = true) : (s.deliver x).engine.delivered.get st = true := by
  rw [State.deliver_engine]
  split
  next => cases st <;> cases hst : x.1.station <;> first | rfl | exact h
  next => exact h

theorem State.foldl_deliver_delivered_kept (l : List (RunEntry × Measurement)) {s : State} {st : Station}
    (h : s.engine.delivered.get st = true) : (l.foldl State.deliver s).engine.delivered.get st = true := by
  induction l generalizing s with
  | nil => exact h
  | cons x l ih => exact ih (s.deliver_delivered_kept x h)

/-- The station of a result that is delivered is marked as delivered. -/
theorem State.foldl_deliver_delivered (hx : x ∈ l) (hd : s.delivers x.1 = true) :
    (l.foldl State.deliver s).engine.delivered.get x.1.station = true := by
  induction l generalizing s with
  | nil => cases hx
  | cons y l ih =>
    rcases List.mem_cons.1 hx with rfl | hx
    · refine State.foldl_deliver_delivered_kept l ?_
      rw [State.deliver_engine, if_pos hd]
      exact Two.get_set_same ..
    · exact ih hx ((s.deliver_delivers y x.1).trans hd)

end

/-! ### The sibling list and the damaged list (R19, R20) -/

/-- What a search reads of a place: the working copy of its serial, else its body. -/
def State.copyRead (s : State) (x : Nat × TableItem) : Option Record :=
  match x.2.serial.bind s.searchCopy with
  | some rec => some rec
  | none => (s.store.place x.1).body

theorem State.searched_eq (s : State) :
    s.searched = s.store.table.filterMap fun x => x.2.serial.map fun n => (n, s.copyRead x) := by
  unfold State.searched
  refine List.filterMap_congr fun x _ => ?_
  unfold State.copyRead
  cases x.2.serial <;> rfl

theorem siblingItem_eq_some {units bound : List Nat} {n : Nat} {r : Record} {x : SiblingItem} :
    siblingItem units bound n r = some x ↔ n = x.serial ∧ r.unit = x.unit ∧
      r.lastRadius = ⟨some x.lastL, some x.lastR⟩ ∧ r.unit ∈ units ∧ x.serial ∉ bound ∧ r.state = .inService := by
  unfold siblingItem
  rcases r.lastRadius with ⟨l, q⟩
  obtain ⟨serial, unit, lastL, lastR⟩ := x
  cases l with
  | none => simp
  | some l =>
    cases q with
    | none => simp
    | some q =>
      simp only [Option.ite_none_right_eq_some, Option.some.injEq, SiblingItem.mk.injEq, Pair.mk.injEq]
      constructor
      · rintro ⟨⟨hunit, hbound, hstate⟩, rfl, rfl, rfl, rfl⟩
        exact ⟨rfl, rfl, ⟨rfl, rfl⟩, hunit, hbound, hstate⟩
      · rintro ⟨rfl, rfl, ⟨rfl, rfl⟩, hunit, hbound, hstate⟩
        exact ⟨⟨hunit, hbound, hstate⟩, rfl, rfl, rfl, rfl⟩

theorem State.mem_siblingList {s : State} {units bound : List Nat} {x : SiblingItem} :
    x ∈ s.siblingList units bound ↔ ∃ y ∈ s.store.table, ∃ rec ∈ s.copyRead y,
      y.2.serial = some x.serial ∧ rec.unit = x.unit ∧ rec.lastRadius = ⟨some x.lastL, some x.lastR⟩ ∧
        rec.unit ∈ units ∧ x.serial ∉ bound ∧ rec.state = .inService := by
  simp only [State.siblingList, State.searched_eq, List.mem_filterMap, Option.map_eq_some_iff,
    Option.bind_eq_some_iff, siblingItem_eq_some, Option.mem_def]
  constructor
  · rintro ⟨_, ⟨y, hy, n, hn, rfl⟩, rec, hrec, rfl, hrest⟩
    exact ⟨y, hy, rec, hrec, hn, hrest⟩
  · rintro ⟨y, hy, rec, hrec, hn, hrest⟩
    exact ⟨_, ⟨y, hy, x.serial, hn, rfl⟩, rec, hrec, rfl, hrest⟩

theorem State.damagedList_eq (s : State) : s.damagedList =
    (s.store.table.filter fun x => x.2.serial.isSome && (s.copyRead x).isNone).filterMap fun x => x.2.serial := by
  rw [State.damagedList, State.searched_eq, List.filterMap_filterMap, List.filterMap_filter]
  refine List.filterMap_congr fun x _ => ?_
  cases hserial : x.2.serial with
  | none => rfl
  | some n => cases s.copyRead x <;> simp

/-! ### The damaged marks (R6, R19) -/

theorem Cells.read_map {α : Type} {d : α} (f : Nat → α → α) (a : Nat) (hd : f a d = d) (c : Cells α) :
    Cells.read d (c.map fun x => (x.1, f x.1 x.2)) a = f a (Cells.read d c a) := by
  induction c with
  | nil => exact hd.symm
  | cons x rest ih =>
    rw [List.map_cons]
    simp only [Cells.read]
    split
    next h => rw [h]
    next => exact ih

/-- The item of a place as a search leaves it. -/
def Store.searchedItem (st : Store) (k : Nat) (x : TableItem) : TableItem :=
  if x.serial.isSome ∧ (st.place k).body.isNone then { x with damaged := true } else x

theorem Store.markFailing_item (st : Store) (k : Nat) : st.markFailing.item k =
    if (st.item k).serial ≠ none ∧ (st.place k).body = none then { st.item k with damaged := true }
    else st.item k := by
  have htable : st.markFailing.table = st.table.map fun x => (x.1, st.searchedItem x.1 x.2) := by
    unfold Store.markFailing Store.searchedItem
    refine List.map_congr_left fun x _ => ?_
    split <;> rfl
  unfold Store.item
  rw [htable, Cells.read_map st.searchedItem k (if_neg fun h => by cases h.1)]
  refine if_congr (and_congr ?_ Option.isNone_iff_eq_none) rfl rfl
  exact Option.isSome_iff_ne_none

/-! ### The results of a run (R129, R141, R142) -/

theorem Gauged.measurement_head (g : Gauged) (cut : Option CutTable) (other : Option Int) (n : Nat)
    (epoch material : BitVec 32) :
    let m := g.measurement cut other (Measurement.bare n epoch material)
    m.run = n ∧ m.epoch = epoch ∧ m.material = material ∧ m.stale = decide (m.verdict = .stale) := by
  cases g <;> cases cut <;> exact ⟨rfl, rfl, rfl, rfl⟩

theorem targetAt_map (st : Station) (g : RunEntry → Gauged) (l : List RunEntry) :
    targetAt st (l.map fun e => (e, g e)) =
      (l.find? fun x => decide (x.station = st)).bind fun x => (g x).target := by
  rw [targetAt, List.find?_map]
  cases hfind : l.find? fun x => decide (x.station = st) with
  | none =>
    have hnone : l.find? ((fun x : RunEntry × Gauged => decide (x.1.station = st)) ∘ fun e => (e, g e)) = none := hfind
    rw [hnone]
    rfl
  | some e =>
    have hsome : l.find? ((fun x : RunEntry × Gauged => decide (x.1.station = st)) ∘ fun e => (e, g e)) = some e :=
      hfind
    rw [hsome]
    rfl

section
variable (s : State) (r : Run) (items : List SiblingItem) {e : RunEntry}

/-- The measurement record a run gives one of its entries. -/
def State.runResult (e : RunEntry) : Measurement :=
  s.entryRecord r.number (r.entries.map fun e => (e, s.gaugeEntry r.departed items e))
    (e, s.gaugeEntry r.departed items e)

/-- The results of a run in the order they are delivered. -/
def State.runResults : List (RunEntry × Measurement) := r.entries.map fun e => (e, s.runResult r items e)

/-- The epoch and material count a record of a station copies. -/
def State.sweptAt (st : Station) : BitVec 32 × BitVec 32 :=
  (((s.sweepOf st).run.map fun w => w.epoch).getD 0, ((s.sweepOf st).run.map fun w => w.material).getD 0)

theorem State.runResult_eq (e : RunEntry) : s.runResult r items e =
    (s.gaugeEntry r.departed items e).measurement s.setup.cut
      ((r.entries.find? fun x => x.station = e.station.other).bind fun x => (s.gaugeEntry r.departed items x).target)
      (Measurement.bare r.number (s.sweptAt e.station).1 (s.sweptAt e.station).2) := by
  rw [← targetAt_map]
  rfl

theorem State.runResult_head (e : RunEntry) :
    (s.runResult r items e).run = r.number ∧ (s.runResult r items e).epoch = (s.sweptAt e.station).1 ∧
      (s.runResult r items e).material = (s.sweptAt e.station).2 ∧
      (s.runResult r items e).stale = decide ((s.runResult r items e).verdict = .stale) := by
  rw [State.runResult_eq]
  exact Gauged.measurement_head ..

theorem State.sweptAt_of_run {st : Station} {w : SweepRun} (h : (s.sweepOf st).run = some w) :
    s.sweptAt st = (w.epoch, w.material) := by
  simp only [State.sweptAt, h, Option.map_some, Option.getD_some]

theorem State.entryLive_iff (departed : Bool) (e : RunEntry) : s.entryLive departed e = true ↔
    departed = false ∧ e.rebound = false ∧ (s.sweepOf e.station).state = .done ∧
      s.captureCurrent e.station = true := by
  simp [State.entryLive, and_assoc]

theorem State.gaugeEntry_of_stale {departed : Bool} (h : s.entryLive departed e = false) :
    s.gaugeEntry departed items e = .stale := by
  unfold State.gaugeEntry
  rw [h]

theorem State.gaugeEntry_of_live {departed : Bool} {rec : Record} {cut : CutTable}
    (h : s.entryLive departed e = true) (hrec : (s.slot e.slot).working = some rec) (hcut : s.setup.cut = some cut) :
    s.gaugeEntry departed items e =
      gauge cut (s.profile rec.profileId) rec
        ⟨s.capture.areas.get (e.station.wheel .l).ix, s.capture.areas.get (e.station.wheel .r).ix⟩ items := by
  unfold State.gaugeEntry
  rw [h, hrec, hcut]
  rfl

/-! ### The state a completed search leaves -/

/-- The marks set and the summary of the search replaced. -/
def State.searchNoted (summary : SearchSummary) : State :=
  { s.mapStore Store.markFailing with engine := { s.engine with lastSearch := some summary } }

theorem State.completeSearch_of_run {units bound : List Nat} (h : s.engine.run = some r) :
    s.completeSearch units bound =
      (s.searchNoted ⟨r.number, (s.siblingList units bound).length, s.damagedList.length,
        s.damagedList.take 8⟩).deliverRun r (s.siblingList units bound) := by
  unfold State.completeSearch
  dsimp only
  rw [h]
  rfl

/-- The results delivered, before the plans and the run end. -/
def State.delivered : State := (s.runResults r items).foldl State.deliver s

theorem State.deliverRun_eq : s.deliverRun r items =
    let u := ((s.delivered r items).removeIdlePlan .a).removeIdlePlan .b
    State.notify .measure { u with engine := { u.engine with run := none } } := by
  unfold State.deliverRun State.delivered State.runResults State.runResult
  dsimp only
  rw [List.map_map]
  rfl

theorem State.delivered_only : Only [.context, .engine] s (s.delivered r items) :=
  foldl_only State.deliver_only s _

theorem State.deliverRun_slot (i : Ix) : (s.deliverRun r items).slot i = (s.delivered r items).slot i := by
  have hcontext := (State.removeIdlePlan_both_only (s.delivered r items)).2 .context (by decide)
  rw [State.deliverRun_eq]
  exact congrArg (fun c : Context => c.slots.get i) hcontext

theorem State.deliverRun_results : (s.deliverRun r items).context.results = s.context.results ∧
    (s.deliverRun r items).context.resultsLost = s.context.resultsLost := by
  have hcontext := (State.removeIdlePlan_both_only (s.delivered r items)).2 .context (by decide)
  obtain ⟨hresults, hlost⟩ := State.foldl_deliver_results (s.runResults r items) s
  rw [State.deliverRun_eq]
  exact ⟨(congrArg Context.results hcontext).trans hresults, (congrArg Context.resultsLost hcontext).trans hlost⟩

theorem State.deliverRun_engine : (s.deliverRun r items).engine =
    { s.engine with delivered := (s.delivered r items).engine.delivered, run := none } := by
  have hengine := (State.removeIdlePlan_both_only (s.delivered r items)).2 .engine (by decide)
  have hfold : (s.delivered r items).engine = _ := State.foldl_deliver_engine (s.runResults r items) s
  rw [State.deliverRun_eq]
  refine (congrArg (fun x : Engine => { x with run := none }) (hengine.trans hfold)).trans ?_
  rfl

theorem State.deliverRun_plan (st : Station) :
    (s.deliverRun r items).plan st = (s.plan st).filter fun p => p.inExecution := by
  have hplans : (s.delivered r items).plans = s.plans := (s.delivered_only r items).2 .plans (by decide)
  rw [State.deliverRun_eq]
  refine (congrArg (fun x : Two (Option Plan) => x.get st) (State.removeIdlePlan_both_plans _)).trans ?_
  rw [Two.get_map, hplans]
  rfl

/-- The removal of a plan tells of its station alone. -/
theorem State.removeIdlePlan_measure (st : Station) :
    (s.removeIdlePlan st).notices.get .measure = s.notices.get .measure := by
  have hnotify : (s.notify (.station st)).notices.get .measure = s.notices.get .measure :=
    State.notify_get_of_ne s (by cases st <;> decide)
  unfold State.removeIdlePlan
  split
  · split
    · rfl
    · exact hnotify
  · rfl

theorem State.deliverRun_measure :
    (s.deliverRun r items).notices.get .measure = (s.notices.get .measure).event := by
  have hnotices : (s.delivered r items).notices = s.notices := (s.delivered_only r items).2 .notices (by decide)
  rw [State.deliverRun_eq, State.notify_get_self]
  refine congrArg SourceState.event ((State.removeIdlePlan_measure _ .b).trans
    ((State.removeIdlePlan_measure _ .a).trans ?_))
  rw [hnotices]

end

section
variable {s u : State} {r : Run} {items : List SiblingItem} {e : RunEntry}

/-- A result that reaches its slot. -/
theorem State.delivered_of_stays (hslots : (r.entries.map fun e => e.slot).Nodup) (he : e ∈ r.entries)
    (hd : s.delivers e = true) :
    ((s.delivered r items).slot e.slot).measurement = some (s.runResult r items e) ∧
      (s.delivered r items).engine.delivered.get e.station = true := by
  have hmem : (e, s.runResult r items e) ∈ s.runResults r items := List.mem_map_of_mem he
  have hnodup : ((s.runResults r items).map fun x => x.1.slot).Nodup := by
    rwa [State.runResults, List.map_map]
  exact ⟨State.foldl_deliver_measurement hnodup hmem hd, State.foldl_deliver_delivered hmem hd⟩

/-- A slot that no entry holds keeps its record. -/
theorem State.delivered_slot_kept {i : Ix} (h : ∀ e ∈ r.entries, e.slot = i → s.delivers e = false) :
    (s.delivered r items).slot i = s.slot i := by
  refine State.foldl_deliver_slot_kept fun x hx hi => ?_
  obtain ⟨e, he, rfl⟩ := List.mem_map.1 hx
  exact h e he hi

/-- A run entry that is not live has a STALE record. -/
theorem State.runResult_of_stale (h : s.entryLive r.departed e = false) :
    let m := s.runResult r items e
    m = Measurement.bare r.number m.epoch m.material .stale := by
  obtain ⟨_, hepoch, hmaterial, _⟩ := s.runResult_head r items e
  intro m
  rw [hepoch, hmaterial]
  exact (s.runResult_eq r items e).trans (by rw [s.gaugeEntry_of_stale items h]; rfl)

/-- A live run entry has the record of what it was gauged as. -/
theorem State.runResult_of_gauged {cut : CutTable} (hcut : s.setup.cut = some cut) :
    let m := s.runResult r items e
    m = (s.gaugeEntry r.departed items e).measurement (some cut)
      ((r.entries.find? fun x => x.station = e.station.other).bind fun x => (s.gaugeEntry r.departed items x).target)
      (Measurement.bare r.number m.epoch m.material) := by
  obtain ⟨_, hepoch, hmaterial, _⟩ := s.runResult_head r items e
  intro m
  rw [hepoch, hmaterial, ← hcut]
  exact s.runResult_eq r items e

theorem exec_searchComplete {units bound : List Nat} {content : Option Record}
    (h : s.store.service = some ⟨.search units bound, content⟩) :
    exec .searchComplete s = .next (s.completeSearch units bound).endService := by
  refine Eq.trans rfl (congrArg Host.Outcome.next ?_)
  rw [h]

end

/-- Settles O48: the marks, then the deliveries one after the other, which reach distinct slots, then the plans, and
at last the next request. -/
theorem searchDeliversTheResults : Obligations.SearchDeliversTheResults := by
  intro units bound content r s hservice hrun hslots _ copy items damaged gauged stays
  have hdamaged : s.damagedList = damaged := s.damagedList_eq
  have hexec := exec_searchComplete hservice
  have honly := (s.completeSearch_only units bound).step (State.endService_only (s.completeSearch units bound))
    (show _ ⊆ [.store, .context, .engine, .plans, .notices] by decide) (by decide)
  rw [s.completeSearch_of_run r hrun] at hexec honly
  -- The state the results are delivered in has the inputs of the arithmetic as they stood.
  let noted := s.searchNoted ⟨r.number, items.length, s.damagedList.length, s.damagedList.take 8⟩
  let u := noted.deliverRun r items
  have hdelivers (e : RunEntry) : noted.delivers e = true ↔ stays e := s.delivers_iff e
  have hnotstays {e : RunEntry} (h : ¬stays e) : noted.delivers e = false :=
    Bool.not_eq_true _ ▸ mt (hdelivers e).1 h
  have hstore : u.store = s.store.markFailing := (noted.deliverRun_only r items).2 .store (by decide)
  have hscan : u.store.scanned = s.store.scanned := (congrArg Store.scanned hstore).trans rfl
  have hwait : u.store.waiting = s.store.waiting := (congrArg Store.waiting hstore).trans rfl
  have hslot (i : Ix) : u.endService.slot i = s.cleaned i ((noted.delivered r items).slot i) :=
    (State.endService_slot hscan hwait i).trans (congrArg _ (noted.deliverRun_slot r items i))
  have hmeasured (i : Ix) :
      (u.endService.slot i).measurement = ((noted.delivered r items).slot i).measurement := by
    rw [hslot, State.cleaned]
    split <;> rfl
  have hafter : Only [.context, .store] u u.endService := u.endService_only
  have hengine : u.endService.engine = _ :=
    (hafter.2 .engine (by decide)).trans (noted.deliverRun_engine r items)
  obtain ⟨kplaces, ktable, _, kresults, _⟩ := u.endService_sameRecords
  obtain ⟨hresults, hlost⟩ := noted.deliverRun_results r items
  refine ⟨_, hexec, fun x => State.mem_siblingList, congrArg Engine.run hengine,
    (congrArg Engine.runNumber hengine).trans rfl, ?summary, ?table,
    kplaces.trans ((congrArg Store.places hstore).trans rfl),
    kresults.trans ((congrArg Store.results hstore).trans rfl),
    (State.endService_window u).trans ((congrArg Store.window hstore).trans rfl),
    State.endService_movesOn hscan hwait, (State.endService_results u).trans hresults,
    (State.endService_resultsLost u).trans hlost, ?slots, ?kept, ?entries, ?plans, ?notices, honly⟩
  case summary =>
    refine (congrArg Engine.lastSearch hengine).trans ?_
    rw [← hdamaged]
    rfl
  case table =>
    intro k
    refine Eq.trans ?_ (s.store.markFailing_item k)
    have htable : u.endService.store.table = s.store.markFailing.table :=
      ktable.trans (congrArg Store.table hstore)
    rw [Store.item, Store.item, htable]
  case slots =>
    intro i
    have hrest : (noted.delivered r items).slot i =
        { s.slot i with measurement := ((noted.delivered r items).slot i).measurement } :=
      State.foldl_deliver_slot_rest (noted.runResults r items) noted i
    rw [hmeasured, hslot, ← hrest]
  case kept =>
    intro i h
    rw [hmeasured, State.delivered_slot_kept fun e he hi => hnotstays (h e he hi)]
    rfl
  case entries =>
    intro e he hstays
    obtain ⟨hm, hmark⟩ := State.delivered_of_stays (items := items) hslots he ((hdelivers e).2 hstays)
    obtain ⟨hnumber, hepoch, hmaterial, hstale⟩ := s.runResult_head r items e
    obtain ⟨_, _, _, hbound⟩ := hstays
    refine ⟨s.runResult r items e, (hmeasured e.slot).trans hm, hnumber, ?_, fun w hw => ?_,
      (congrArg (fun x : Engine => x.delivered.get e.station) hengine).trans hmark, fun hdead => ?_,
      fun hdeparted hdone hcurrent rec hrec cut hcut => ?_⟩
    · rw [hstale, decide_eq_true_iff]
    · rw [hepoch, hmaterial, s.sweptAt_of_run hw]
      exact ⟨rfl, rfl⟩
    · refine State.runResult_of_stale (Bool.not_eq_true _ ▸ fun hlive => ?_)
      obtain ⟨hdeparted, _, hdone, hcurrent⟩ := (s.entryLive_iff r.departed e).1 hlive
      rcases hdead with h | h | h
      · rw [hdeparted] at h
        cases h
      · exact h hdone
      · rw [hcurrent] at h
        cases h
    · have hlive := (s.entryLive_iff r.departed e).2 ⟨hdeparted, hbound, hdone, hcurrent⟩
      have hgauged := State.runResult_of_gauged (r := r) (items := items) (e := e) hcut
      refine ⟨s.gaugeEntry_of_live items hlive hrec hcut, fun usable hg => ?_, fun usable values hg => ?_,
        fun w hg => ?_⟩
      · exact hgauged.trans (by rw [show s.gaugeEntry r.departed items e = _ from hg]; rfl)
      · exact hgauged.trans (by rw [show s.gaugeEntry r.departed items e = _ from hg]; rfl)
      · intro other
        exact hgauged.trans (by rw [show s.gaugeEntry r.departed items e = _ from hg]; rfl)
  case plans =>
    intro st
    exact (State.plan_of_only hafter (by decide) st).trans (noted.deliverRun_plan r items st)
  case notices =>
    have hnotices : u.endService.notices = u.notices := hafter.2 .notices (by decide)
    exact (congrArg (fun n : Notices => n.get .measure) hnotices).trans (noted.deliverRun_measure r items)

end Sys2Proof.Machine
end
